-- ==== Sys2Proof/Word.lean ====
section
/-! DEFINITION. The word types of the block: link bytes, 16-bit item values, 32-bit condition sets, and the
three arithmetic words of 00_scope.md (R1). -/

namespace Sys2Proof

/-- A byte on the link (10_message_link.md, R174). -/
abbrev Byte := BitVec 8

/-- A 16-bit item value or request field (R182, R181). -/
abbrev Half := BitVec 16

/-- A 32-bit set of conditions (R165, R181). -/
abbrev Set32 := BitVec 32

/-- R1: `x` limited to `a..b`. -/
def limited (a b x : Int) : Int := if x < a then a else if b < x then b else x

/-- R1 over counts: `x` limited to `a..b`. -/
def limitedN (a b x : Nat) : Nat := if x < a then a else if b < x then b else x

/-- R1: a count that saturates at 65535. -/
def sat16 (n : Nat) : Nat := if 65535 < n then 65535 else n

end Sys2Proof
end

