-- ==== Sys2Proof/Syntax.lean ====
section
/-! DEFINITION. The names of the part (zones, channels, doors, dampers), the records indexed by them, and the
commands: one constructor of `Instr` for each row of spec/opcode_table.json. -/

namespace Sys2Proof

/-! ### Names -/

/-- The three zones, in zone order (R2). -/
inductive Zone where
  | fresh | chill | freeze
  deriving DecidableEq, Repr

/-- The five thermistor channels (R29). -/
inductive Channel where
  | fresh | chill | freeze | coil | ambient
  deriving DecidableEq, Repr

/-- The four doors, in door order (R139, R140). -/
inductive Door where
  | freshLeft | freshRight | chillDrawer | freezeDrawer
  deriving DecidableEq, Repr

/-- The two dampers (R80). -/
inductive Damper where
  | fresh | chill
  deriving DecidableEq, Repr

/-! ### Records indexed by a name -/

/-- One value for each zone. -/
structure PerZone (α : Type) where
  fresh : α
  chill : α
  freeze : α
  deriving DecidableEq, Repr

/-- One value for each channel. -/
structure PerChannel (α : Type) where
  fresh : α
  chill : α
  freeze : α
  coil : α
  ambient : α
  deriving DecidableEq, Repr

/-- One value for each door. -/
structure PerDoor (α : Type) where
  freshLeft : α
  freshRight : α
  chillDrawer : α
  freezeDrawer : α
  deriving DecidableEq, Repr

/-- One value for each damper. -/
structure PerDamper (α : Type) where
  fresh : α
  chill : α
  deriving DecidableEq, Repr

def PerZone.get {α : Type} (p : PerZone α) : Zone → α
  | .fresh => p.fresh
  | .chill => p.chill
  | .freeze => p.freeze

def PerZone.set {α : Type} (p : PerZone α) (z : Zone) (a : α) : PerZone α :=
  match z with
  | .fresh => { p with fresh := a }
  | .chill => { p with chill := a }
  | .freeze => { p with freeze := a }

def PerChannel.get {α : Type} (p : PerChannel α) : Channel → α
  | .fresh => p.fresh
  | .chill => p.chill
  | .freeze => p.freeze
  | .coil => p.coil
  | .ambient => p.ambient

def PerChannel.set {α : Type} (p : PerChannel α) (c : Channel) (a : α) : PerChannel α :=
  match c with
  | .fresh => { p with fresh := a }
  | .chill => { p with chill := a }
  | .freeze => { p with freeze := a }
  | .coil => { p with coil := a }
  | .ambient => { p with ambient := a }

def PerDoor.get {α : Type} (p : PerDoor α) : Door → α
  | .freshLeft => p.freshLeft
  | .freshRight => p.freshRight
  | .chillDrawer => p.chillDrawer
  | .freezeDrawer => p.freezeDrawer

def PerDoor.set {α : Type} (p : PerDoor α) (d : Door) (a : α) : PerDoor α :=
  match d with
  | .freshLeft => { p with freshLeft := a }
  | .freshRight => { p with freshRight := a }
  | .chillDrawer => { p with chillDrawer := a }
  | .freezeDrawer => { p with freezeDrawer := a }

def PerDamper.get {α : Type} (p : PerDamper α) : Damper → α
  | .fresh => p.fresh
  | .chill => p.chill

def PerDamper.set {α : Type} (p : PerDamper α) (d : Damper) (a : α) : PerDamper α :=
  match d with
  | .fresh => { p with fresh := a }
  | .chill => { p with chill := a }

/-! ### Operands -/

/-- The raw door lines as a reset finds them: true is high, the door open (R139, R150). -/
abbrev DoorLines := PerDoor Bool

/-- One set of conversions of a scan round: a twelve-bit code for each channel, and the two return lines
sampled with it, true for asserted (R30, R44). -/
structure SampleSet where
  codes : PerChannel Nat
  heaterSense : Bool
  compFlt : Bool
  deriving DecidableEq, Repr

/-- The commands of the part, one constructor for each row of spec/opcode_table.json, with the row's operands.
A request command carries the TAG and the body fields of its frame (R181); an event command names the zone, door
or damper it happens to. -/
inductive Instr where
  -- resets (R3)
  | fullReset (lines : DoorLines)
  | warmRestart (lines : DoorLines)
  -- the receiver (R175)
  | requestFrameReceived (bytes : List Byte)
  | rxTimeout
  -- requests (R177, R181)
  | unknownKind (kind tag : Byte) (body : List Byte)
  | ident (tag : Byte)
  | get (tag item : Byte)
  | set (tag item : Byte) (value : Half)
  | setProfile (tag : Byte) (value : Half)
  | setMode (tag : Byte) (zone : Zone) (value : Half)
  | startDefrost (tag : Byte)
  | abortDefrost (tag : Byte)
  | hold (tag : Byte)
  | release (tag : Byte)
  | clearFault (tag : Byte)
  | restart (tag : Byte)
  | planCommit (tag : Byte)
  | curveCommit (tag : Byte)
  | zoneView (tag zone : Byte)
  | planStage (tag entry : Byte) (freshOpen chillOpen fanDuty speedFloor : Half)
  | planView (tag selector : Byte)
  | curveLoad (tag start : Byte) (values : List Half)
  | conditions (tag : Byte)
  | clearDeltas (tag : Byte) (deltas : Set32)
  | notifyMask (tag : Byte) (mask : Set32)
  | stackView (tag : Byte)
  | serviceDrive (tag : Byte) (freshDamper chillDamper fan compressor heater : Half)
  | counterView (tag counter : Byte)
  -- the transmitter (R178)
  | frameSent
  -- the scan round (R30)
  | roundCompletion (sets : List SampleSet)
  -- events of the counters, the drives and the lines
  | boostExpiry (zone : Zone)
  | slotExpiry
  | svcExpiry
  | damperMoveComplete (damper : Damper)
  | homingEnd (damper : Damper)
  | kickEnd
  | fanRetry
  | provingWindowEnd
  | tachEdge
  | tachOverflow
  | rampExpiry
  | guardExpiry
  | condrunExpiry
  | runsecCarry
  | gapIncrement
  | prechillExpiry
  | heatTimeout
  | dripExpiry
  | recoverExpiry
  | doorOpening (door : Door)
  | doorClose (door : Door)
  | doorWidthIncrement (door : Door)
  | settleExpiry
  | pauseExpiry
  | almExpiry (zone : Zone)
  | byteReceived (byte : Byte)
  deriving DecidableEq, Repr

end Sys2Proof
end

