-- ==== Sys2Proof/Decode.lean ====
section
/-! DEFINITION. The commands that a word spells by the table's bits. spec/opcode_table.json gives no row any bits
("fields": [] on every row, no "fixed"), so no word spells a command and the answer is always `none` (log 21).
The encoding the spec does give, of requests as link frames (R181), is read in Machine/Operands.lean. -/

namespace Sys2Proof

/-- The command a word of `nbits` bits spells: none, since the table gives no row bits (log 21). -/
def decodeTableWord (_nbits _w : Nat) : Option Instr := none

end Sys2Proof
end

