-- ==== Sys2Proof/Config.lean ====
section
/-! DEFINITION. What is fixed for the part (the time unit and the periods of the spec counted in it), and the
free values: constants with no body, where the spec leaves an order or an input open. -/

namespace Sys2Proof.Config

/-! ### Time

One unit is 1/2 400 000 s: the largest unit in which every period the spec gives is a whole number
(log 1). -/

/-- 10 µs, the TACH source (R152). -/
def tenMicroseconds : Nat := 24
/-- 1 ms, the source of SCAN and RAMP (R152). -/
def millisecond : Nat := 2400
/-- 1 s (R152). -/
def second : Nat := 2400000
/-- 1 min (R152). -/
def minute : Nat := 144000000
/-- One damper step, 1/120 s (R82, R84). -/
def damperStep : Nat := 20000
/-- One byte on the line: 10 bit times at 38 400 baud (R174). -/
def byteTime : Nat := 625
/-- The receiver's gap limit, 20 ms (R175). -/
def gapLimit : Nat := 48000
/-- The door line filter's 50 ms (R139). -/
def doorFilter : Nat := 120000
/-- Time of the first conversion set of a round, 62.5 ms (R30). -/
def firstSet : Nat := 150000
/-- Time between conversion sets, 125 ms (R30). -/
def setSpacing : Nat := 300000

/-- The revision IDENT reports (R188: 1 for this revision). -/
def revision : Nat := 1

/-! ### Free values -/

/-- Free value (log 7): the key by which timers due at one instant are ordered, for the `n`-th such instant.
The spec lets such events "arrive in either order". -/
opaque tieBreak : (n : Nat) → (timer : Nat) → Nat

/-- Free value (log 8): whether a DEFERRED door pause claims before a PENDING defrost at the `n`-th holder report
at which both claim (R144: "Either claim may be taken first"). -/
opaque doorClaimsFirst : (n : Nat) → Bool

/-- Free value (log 9), an input: the code the thermistor channel of that index yields in the `n`-th conversion
set taken by the clock (R30: a twelve-bit code). -/
opaque codeAt : (n : Nat) → (channel : Nat) → BitVec 12

/-- Free value (log 9), an input: the HEATER_SENSE line at the `n`-th conversion set (R44). -/
opaque heaterSenseAt : (n : Nat) → Bool

/-- Free value (log 9), an input: the COMP_FLT line at the `n`-th conversion set (R44). -/
opaque compFltAt : (n : Nat) → Bool

/-- Free value (log 30): the KIND byte of the reply to a request of that KIND, 0x80 or above, for which R177's sum
"the request's KIND plus 0x80" has no place in one byte. -/
opaque replyKindOver : (kind : Byte) → Byte

end Sys2Proof.Config
end

