-- ==== Sys2Proof/Machine/State.lean ====
section
/-! DEFINITION. The state of the part as plain data, block by block, and the state right after a FULL reset.
Each field cites the rule that names it. Temperatures are in dC, times inside one source period in units of
1/2 400 000 s (Config). -/

namespace Sys2Proof.Machine

/-! ### Counter Bank (08_counter_bank.md) -/

/-- The 26 counters (R162). -/
inductive CounterId where
  | scan | slot | wait (z : Zone) | ramp | guard | condrun | runsec | phase | gap | door (d : Door)
  | settle | pause | tach | fantime | boost (z : Zone) | alm (z : Zone) | svc
  deriving DecidableEq, Repr

/-- The record of one counter (R151). -/
structure Counter where
  /-- RUNNING -/
  run : Bool
  count : Nat
  reload : Nat
  /-- time toward the next tick, in units of 1/2 400 000 s (R152) -/
  part : Nat
  saturated : Bool
  result : Nat
  resultOverflow : Bool
  firstEdge : Bool
  deriving DecidableEq, Repr

/-- A counter as a reset leaves it (R164). -/
def Counter.cleared : Counter :=
  { run := false, count := 0, reload := 0, part := 0, saturated := false, result := 0, resultOverflow := false,
    firstEdge := false }

/-- The bank's 26 counters by name (R162). -/
structure Bank where
  scan : Counter
  slot : Counter
  wait : PerZone Counter
  ramp : Counter
  guard : Counter
  condrun : Counter
  runsec : Counter
  phase : Counter
  gap : Counter
  door : PerDoor Counter
  settle : Counter
  pause : Counter
  tach : Counter
  fantime : Counter
  boost : PerZone Counter
  alm : PerZone Counter
  svc : Counter
  deriving DecidableEq, Repr

def Bank.get (b : Bank) : CounterId → Counter
  | .scan => b.scan
  | .slot => b.slot
  | .wait z => b.wait.get z
  | .ramp => b.ramp
  | .guard => b.guard
  | .condrun => b.condrun
  | .runsec => b.runsec
  | .phase => b.phase
  | .gap => b.gap
  | .door d => b.door.get d
  | .settle => b.settle
  | .pause => b.pause
  | .tach => b.tach
  | .fantime => b.fantime
  | .boost z => b.boost.get z
  | .alm z => b.alm.get z
  | .svc => b.svc

def Bank.set (b : Bank) (i : CounterId) (c : Counter) : Bank :=
  match i with
  | .scan => { b with scan := c }
  | .slot => { b with slot := c }
  | .wait z => { b with wait := b.wait.set z c }
  | .ramp => { b with ramp := c }
  | .guard => { b with guard := c }
  | .condrun => { b with condrun := c }
  | .runsec => { b with runsec := c }
  | .phase => { b with phase := c }
  | .gap => { b with gap := c }
  | .door d => { b with door := b.door.set d c }
  | .settle => { b with settle := c }
  | .pause => { b with pause := c }
  | .tach => { b with tach := c }
  | .fantime => { b with fantime := c }
  | .boost z => { b with boost := b.boost.set z c }
  | .alm z => { b with alm := b.alm.set z c }
  | .svc => { b with svc := c }

/-! ### Settings Store (11_settings_and_profiles.md) -/

/-- The Settings Store (R182): the active profile, and the written values by item id, ids rising. An item that is
not listed has follows yes (log 18). -/
structure Settings where
  profile : Nat
  written : List (Nat × Int)
  deriving DecidableEq, Repr

/-! ### Zone Table (01_compartments_and_thermal_debt.md) -/

/-- The substitution phase (R4). -/
inductive Subst where
  | absent | holdWindow | forceCall | timed | ignore
  deriving DecidableEq, Repr

/-- The fields of a zone record that the Zone Table owns (R4); the "setting" fields are the items' effective
values, and S_eff, W_eff, door_open and boost_left are computed. -/
structure ZoneRec where
  /-- D -/
  debt : Nat
  /-- U -/
  urgency : Nat
  calling : Bool
  subst : Subst
  warmArmed : Bool
  deriving DecidableEq, Repr

/-! ### Sensor Scanner (02_temperature_measurement.md) -/

/-- Trust in a channel (R29). -/
inductive ChanState where
  | valid | suspect | lost
  deriving DecidableEq, Repr

/-- A channel record (R29). -/
structure ChannelRec where
  state : ChanState
  /-- bad_count -/
  bad : Nat
  /-- good_count -/
  good : Nat
  /-- A, the filter accumulator -/
  acc : Option Int
  /-- Tf -/
  tf : Option Int
  /-- s, the filter shift -/
  shift : Nat
  /-- lost_seconds -/
  lost : Nat
  deriving DecidableEq, Repr

structure Scanner where
  chan : PerChannel ChannelRec
  /-- the active curve, T[0] to T[16] (R40) -/
  active : List Int
  /-- the staged curve (R40) -/
  staged : List Int
  /-- the curve-state flag is LOADED (R40) -/
  loaded : Bool
  /-- HEATER_SENSE level of the last round completion, none before the first (R44) -/
  heaterSense : Option Bool
  /-- COMP_FLT level of the last round completion, none before the first (R44) -/
  compFlt : Option Bool
  /-- the conversion sets taken so far in this round (R30) -/
  sets : List SampleSet
  deriving DecidableEq, Repr

/-! ### Allocation Arbiter (03_cooling_allocation.md) -/

/-- A route (R61); `floor` is the speed_floor, none for absent. -/
structure Route where
  freshOpen : Nat
  chillOpen : Nat
  fanDuty : Nat
  floor : Option Nat
  deriving DecidableEq, Repr

/-- A route plan (R61). -/
structure Plan where
  fresh : Route
  chill : Route
  freeze : Route
  idle : Route
  deriving DecidableEq, Repr

inductive SlotPhase where
  | min | extend
  deriving DecidableEq, Repr

inductive RouteSource where
  | plan | snapshot
  deriving DecidableEq, Repr

/-- The running or switching slot (R48); `serving` is the allocation state SERVING, otherwise SWITCHING. -/
structure Slot where
  zone : Zone
  phase : SlotPhase
  fixed : Bool
  route : Route
  source : RouteSource
  serving : Bool
  deriving DecidableEq, Repr

/-- The holder of the air path (R48); `nobody` is the holder "none". -/
inductive Holder where
  | nobody
  | slot (r : Slot)
  | door
  | defrost
  | service
  deriving DecidableEq, Repr

/-- A frame of the suspension stack (R67). -/
inductive SuspFrame where
  | slot (mask : Nat) (zone : Zone) (phase : SlotPhase) (fixed : Bool) (remaining : Nat) (route : Option Route)
  | door (mask : Nat)
  | defrost (mask : Nat)
  deriving DecidableEq, Repr

structure Arbiter where
  holder : Holder
  lastServed : Zone
  fullEnd : Option Zone
  /-- the suspension stack, top frame first (R69) -/
  stack : List SuspFrame
  active : Plan
  staged : Plan
  commitPending : Bool
  deriving DecidableEq, Repr

/-! ### Air Path (04_air_path.md) -/

inductive DamperState where
  | unhomed | homing | ready | moving
  deriving DecidableEq, Repr

/-- A damper record (R80). -/
structure DamperRec where
  state : DamperState
  position : Option Nat
  target : Nat
  homingSteps : Nat
  moveCount : Nat
  homeDue : Bool
  /-- time toward the next step (R82, R84) -/
  stepPart : Nat
  deriving DecidableEq, Repr

inductive FanState where
  | stopped | kick | run | rest | retryWait
  deriving DecidableEq, Repr

/-- The fan record (R87). -/
structure Fan where
  state : FanState
  requested : Nat
  drive : Nat
  overflowRun : Nat
  proven : Bool
  stallCount : Nat
  rpm : Nat
  /-- FAN_FAULT -/
  fault : Bool
  deriving DecidableEq, Repr

structure AirPath where
  dampers : PerDamper DamperRec
  fan : Fan
  deriving DecidableEq, Repr

/-! ### Compressor and Condenser (05_compressor_and_condenser.md) -/

inductive CompState where
  | off | running | faulted | lockout
  deriving DecidableEq, Repr

/-- What the compressor is asked for (R99). -/
inductive Demand where
  | auto (floor : Option Nat)
  | fixed (rpm : Nat)
  | stop
  deriving DecidableEq, Repr

/-- What GUARD is timing (R99). -/
inductive GuardUse where
  | none | minOn | minOff
  deriving DecidableEq, Repr

/-- The compressor record (R99) and the condenser fan line (R111). -/
structure Compressor where
  state : CompState
  command : Nat
  target : Nat
  demand : Demand
  guard : GuardUse
  stopHeld : Bool
  faultCount : Nat
  fltRounds : Nat
  ambient : Int
  fanCap : Bool
  condFan : Bool
  deriving DecidableEq, Repr

/-! ### Defrost (06_defrost.md) -/

inductive DefrostPhase where
  | idle | pending | preChill | stopWait | heat | drip | recover
  deriving DecidableEq, Repr

/-- The Defrost Sequencer's record (R118), with the last COIL verdict (R126) and the service heater command
(R113). -/
structure Defrost where
  phase : DefrostPhase
  /-- F -/
  frost : Nat
  suspended : Bool
  resumeHeat : Bool
  heatBudget : Nat
  coilTimed : Bool
  termCount : Nat
  lastHeat : Nat
  heaterDrive : Bool
  openRun : Nat
  stuckRun : Nat
  /-- comp_state; comp_running is `compState = running` -/
  compState : CompState
  ambient : Int
  /-- the last COIL sample event reported LOST (R126) -/
  coilLost : Bool
  /-- the service heater command (R113) -/
  svcHeater : Bool
  deriving DecidableEq, Repr

/-! ### Doors (07_doors.md) -/

/-- A door record (R140) with its line filter (R139); `isOpen` is the filtered level and the state. -/
structure DoorRec where
  isOpen : Bool
  openCount : Nat
  lastWidth : Nat
  widthOverflow : Bool
  ajar : Bool
  /-- the raw line, true for high (R139) -/
  raw : Bool
  /-- how long the raw line has differed from the filtered level (R139) -/
  differs : Nat
  deriving DecidableEq, Repr

inductive PauseState where
  | none | deferred | held | suspended
  deriving DecidableEq, Repr

structure DoorMonitor where
  recs : PerDoor DoorRec
  pause : PauseState
  pauseSpent : Bool
  deriving DecidableEq, Repr

/-! ### Conditions and Notices (09_conditions_and_notices.md) -/

/-- What a zone's ALM counter is timing (R167). -/
inductive AlmFor where
  | none | warm | cold
  deriving DecidableEq, Repr

structure AlarmRec where
  almFor : AlmFor
  tfInUse : Option Int
  deriving DecidableEq, Repr

structure Conditions where
  /-- bit n is the level of condition n (R165, R169) -/
  levels : Set32
  /-- bit n is the delta of condition n (R165, R169) -/
  deltas : Set32
  /-- the notify mask (R170) -/
  mask : Set32
  /-- the ATTN line (R171) -/
  attn : Bool
  notePending : Bool
  alarms : PerZone AlarmRec
  /-- DEFROST was the holder at the last holder report (R50, R167) -/
  defrostHolds : Bool
  deriving DecidableEq, Repr

/-! ### Message Link (10_message_link.md) -/

/-- KIND, TAG and BODY of a frame (R174, R181). -/
structure Frame where
  kind : Byte
  tag : Byte
  body : List Byte
  deriving DecidableEq, Repr

inductive RxState where
  | hunt | length | content | check
  deriving DecidableEq, Repr

/-- The receiver (R175). -/
structure Receiver where
  state : RxState
  /-- LEN of the frame being assembled -/
  len : Nat
  /-- its content bytes so far, in order -/
  got : List Byte
  /-- the gap timer -/
  gap : Nat
  deriving DecidableEq, Repr

/-- The frame being sent, and how long it has been (R178). -/
structure Sending where
  frame : Frame
  elapsed : Nat
  deriving DecidableEq, Repr

structure Link where
  rx : Receiver
  /-- the request buffer, oldest first (R176) -/
  requests : List Frame
  /-- the reply queue, oldest first (R178) -/
  replies : List Frame
  /-- the transmitter, none while idle (R178) -/
  tx : Option Sending
  /-- RESTART has been taken (R179) -/
  restarting : Bool
  rxTimeout : Nat
  rxLenErr : Nat
  rxCrcErr : Nat
  rxOverrun : Nat
  deriving DecidableEq, Repr

/-! ### The model's own fields -/

/-- Fields of the MODEL, not of the part. -/
structure Own where
  /-- one-shots started at count 0 whose expiry this step has still to take (R155, log 28) -/
  signalled : List CounterId
  /-- conversion sets taken by the clock: index of the free codes (log 9) -/
  setNo : Nat
  /-- order choices made: index of the free orders (log 7, log 8) -/
  choices : Nat
  deriving DecidableEq, Repr

/-! ### The state -/

structure State where
  /-- commands waiting, first in first out -/
  pending : List Instr
  settings : Settings
  zones : PerZone ZoneRec
  scanner : Scanner
  arb : Arbiter
  air : AirPath
  comp : Compressor
  defr : Defrost
  doors : DoorMonitor
  bank : Bank
  cond : Conditions
  link : Link
  own : Own
  deriving DecidableEq, Repr

/-- No command of the part stops the block: the spec gives every one an effect, or no event, in every state
(INVENTORY.md, Faults; log 26). The type has no constructor. -/
inductive Fault where
  deriving DecidableEq, Repr

/-- Why a command has no meaning. -/
inductive Refusal where
  /-- Raised only by an arm of `exec` whose command has no meaning yet: none is left (log 26). Safe: the model
  stops where the part goes on. -/
  | notModelled (mnemonic : String)
  deriving DecidableEq, Repr

/-! ### Right after a FULL reset -/

/-- The built-in default curve (R40). -/
def defaultCurve : List Int :=
  [700, 660, 600, 520, 430, 340, 260, 190, 118, 52, -14, -82, -156, -240, -338, -450, -500]

/-- The default routes (R78). -/
def defaultPlan : Plan :=
  { fresh := ⟨100, 0, 70, none⟩, chill := ⟨0, 100, 60, none⟩, freeze := ⟨0, 0, 80, none⟩, idle := ⟨0, 0, 0, none⟩ }

/-- A zone record after either reset (R28). -/
def ZoneRec.cleared : ZoneRec :=
  { debt := 0, urgency := 0, calling := false, subst := .absent, warmArmed := false }

/-- A channel record after either reset, with the channel's filter shift (R46, R47). -/
def ChannelRec.cleared (shift : Nat) : ChannelRec :=
  { state := .valid, bad := 0, good := 0, acc := none, tf := none, shift := shift, lost := 0 }

/-- A damper when a reset has ended: its homing has begun (R98, R84). -/
def DamperRec.cleared : DamperRec :=
  { state := .homing, position := none, target := 0, homingSteps := 520, moveCount := 0, homeDue := false, stepPart := 0 }

/-- The fan after either reset, before the Arbiter's IDLE duty (R98). -/
def Fan.cleared : Fan :=
  { state := .stopped, requested := 0, drive := 0, overflowRun := 0, proven := false, stallCount := 0, rpm := 0, fault := false }

/-- A door record after a reset that found its line at `raw` (R150), with its opening count. -/
def DoorRec.cleared (raw : Bool) (openCount : Nat) : DoorRec :=
  { isOpen := raw, openCount := openCount, lastWidth := 0, widthOverflow := false, ajar := false, raw := raw, differs := 0 }

/-- A counter that a reset leaves cleared and started (R164). -/
def Counter.started : Counter := { Counter.cleared with run := true }

/-- A counter that a reset leaves restarted with `n` (R164). -/
def Counter.restarted (n : Nat) : Counter := { Counter.cleared with run := true, count := n, reload := n }

/-- The counters at the end of a reset, GUARD restarted with MIN_OFF (R164). -/
def Bank.cleared (minOff : Nat) : Bank :=
  { scan := .restarted 1000
    slot := .cleared
    wait := ⟨.started, .started, .started⟩
    ramp := .restarted 1000
    guard := .restarted minOff
    condrun := .cleared
    runsec := .started
    phase := .cleared
    gap := .started
    door := ⟨.started, .started, .started, .started⟩
    settle := .cleared
    pause := .cleared
    tach := .cleared
    fantime := .cleared
    boost := ⟨.cleared, .cleared, .cleared⟩
    alm := ⟨.cleared, .cleared, .cleared⟩
    svc := .cleared }

/-- The link after either reset (R180). -/
def Link.cleared : Link :=
  { rx := { state := .hunt, len := 0, got := [], gap := 0 }, requests := [], replies := [], tx := none,
    restarting := false, rxTimeout := 0, rxLenErr := 0, rxCrcErr := 0, rxOverrun := 0 }

/-- The Condition Unit after either reset, with the levels the blocks come up with (R173): the RESTARTED delta
alone, the mask all ones, a NOTE pending, ATTN asserted. -/
def Conditions.cleared (levels : Set32) : Conditions :=
  { levels := levels, deltas := 0x04000000#32, mask := 0xFFFFFFFF#32, attn := true, notePending := true,
    alarms := ⟨⟨.none, none⟩, ⟨.none, none⟩, ⟨.none, none⟩⟩, defrostHolds := false }

/-- The compressor after a FULL reset (R116). -/
def Compressor.cleared (ambRef : Int) : Compressor :=
  { state := .off, command := 0, target := 0, demand := .auto none, guard := .minOff, stopHeld := false,
    faultCount := 0, fltRounds := 0, ambient := ambRef, fanCap := false, condFan := false }

/-- The Defrost Sequencer after a FULL reset (R138). R138 does not name the last COIL event that R126 asks for; that the
resets forget it is the model's choice (log 32). -/
def Defrost.cleared (ambRef : Int) : Defrost :=
  { phase := .idle, frost := 0, suspended := false, resumeHeat := false, heatBudget := 0, coilTimed := false,
    termCount := 0, lastHeat := 0, heaterDrive := false, openRun := 0, stuckRun := 0, compState := .off,
    ambient := ambRef, coilLost := false, svcHeater := false }

/-- The machine right after a FULL reset has ended, every door line low (R3, R28, R46, R78, R98, R116, R138,
R150, R164, R173, R180, R189). The door lines are inputs: closed is DESIGN CHOICE (log 19), unsafe. -/
def State.reset : State :=
  { pending := []
    settings := { profile := 0, written := [] }
    zones := ⟨.cleared, .cleared, .cleared⟩
    scanner :=
      { chan := ⟨.cleared 3, .cleared 3, .cleared 3, .cleared 0, .cleared 3⟩
        active := defaultCurve, staged := defaultCurve, loaded := false
        heaterSense := none, compFlt := none, sets := [] }
    arb :=
      { holder := .nobody, lastServed := .freeze, fullEnd := none, stack := [], active := defaultPlan,
        staged := defaultPlan, commitPending := false }
    air := { dampers := ⟨.cleared, .cleared⟩, fan := .cleared }
    comp := .cleared 250
    defr := .cleared 250
    doors :=
      { recs := ⟨.cleared false 0, .cleared false 0, .cleared false 0, .cleared false 0⟩
        pause := .none, pauseSpent := false }
    bank := .cleared 300
    cond := .cleared 0#32
    link := .cleared
    own := { signalled := [], setNo := 0, choices := 0 } }

end Sys2Proof.Machine
end

