-- ==== Sys2Proof/Machine/Items.lean ====
section
/-! DEFINITION. The writable items of the Settings Store: ids, ranges, profile defaults and effective values
(11_settings_and_profiles.md, R182 to R186). -/

namespace Sys2Proof.Machine

/-- Who can claim the air path (R66), naming the three save masks (R68). -/
inductive Claimant where
  | door | defrost | service
  deriving DecidableEq, Repr

/-- The writable items other than PROFILE (R186). -/
inductive Item where
  | setpoint (z : Zone) | mode (z : Zone) | hOn (z : Zone) | hOff (z : Zone) | weight (z : Zone) | slotMax (z : Zone)
  | lossPolicy (z : Zone) | alarmHi (z : Zone) | alarmLo (z : Zone)
  | slotMin | ageLimit | lossHold | lostPeriod | lostServe | uLost | saveMask (c : Claimant) | svcMax
  | nMin | nMax | uFull | rampUp | rampDn | minOn | minOff | ambRef | ambGain
  | fDue | minGap | maxGap | termTemp | heatMax | dripTime | prechillTime | fanDelayTemp | adapt
  | doorPauseMax | ajarTime | recoveryGain | recoveryMinOpen | boostLen | alarmDelay | filterShift (c : Channel)
  deriving DecidableEq, Repr

/-- A zone's place in zone order, which is its code on the link (R2, R181). -/
def zoneCode : Zone → Nat
  | .fresh => 0
  | .chill => 1
  | .freeze => 2

/-- A channel's place in the order FRESH to AMBIENT (R186, R187). -/
def channelCode : Channel → Nat
  | .fresh => 0
  | .chill => 1
  | .freeze => 2
  | .coil => 3
  | .ambient => 4

/-- A door's place in door order (R140). -/
def doorCode : Door → Nat
  | .freshLeft => 0
  | .freshRight => 1
  | .chillDrawer => 2
  | .freezeDrawer => 3

def allZones : List Zone := [.fresh, .chill, .freeze]
def allChannels : List Channel := [.fresh, .chill, .freeze, .coil, .ambient]
def allDoors : List Door := [.freshLeft, .freshRight, .chillDrawer, .freezeDrawer]

/-- The item ids (R186). -/
def Item.id : Item → Nat
  | .setpoint z => 0x10 + zoneCode z
  | .mode z => 0x13 + zoneCode z
  | .hOn z => 0x16 + zoneCode z
  | .hOff z => 0x19 + zoneCode z
  | .weight z => 0x1C + zoneCode z
  | .slotMax z => 0x1F + zoneCode z
  | .lossPolicy z => 0x22 + zoneCode z
  | .alarmHi z => 0x25 + zoneCode z
  | .alarmLo z => 0x28 + zoneCode z
  | .slotMin => 0x30
  | .ageLimit => 0x31
  | .lossHold => 0x32
  | .lostPeriod => 0x33
  | .lostServe => 0x34
  | .uLost => 0x35
  | .saveMask .door => 0x36
  | .saveMask .defrost => 0x37
  | .saveMask .service => 0x38
  | .svcMax => 0x39
  | .nMin => 0x40
  | .nMax => 0x41
  | .uFull => 0x42
  | .rampUp => 0x43
  | .rampDn => 0x44
  | .minOn => 0x45
  | .minOff => 0x46
  | .ambRef => 0x47
  | .ambGain => 0x48
  | .fDue => 0x50
  | .minGap => 0x51
  | .maxGap => 0x52
  | .termTemp => 0x53
  | .heatMax => 0x54
  | .dripTime => 0x55
  | .prechillTime => 0x56
  | .fanDelayTemp => 0x57
  | .adapt => 0x58
  | .doorPauseMax => 0x60
  | .ajarTime => 0x61
  | .recoveryGain => 0x62
  | .recoveryMinOpen => 0x63
  | .boostLen => 0x64
  | .alarmDelay => 0x65
  | .filterShift c => 0x66 + channelCode c

/-- The 66 writable items other than PROFILE, in id order (R186). -/
def Item.all : List Item :=
  allZones.map .setpoint ++ allZones.map .mode ++ allZones.map .hOn ++ allZones.map .hOff ++ allZones.map .weight ++
    allZones.map .slotMax ++ allZones.map .lossPolicy ++ allZones.map .alarmHi ++ allZones.map .alarmLo ++
    [.slotMin, .ageLimit, .lossHold, .lostPeriod, .lostServe, .uLost, .saveMask .door, .saveMask .defrost,
      .saveMask .service, .svcMax] ++
    [.nMin, .nMax, .uFull, .rampUp, .rampDn, .minOn, .minOff, .ambRef, .ambGain] ++
    [.fDue, .minGap, .maxGap, .termTemp, .heatMax, .dripTime, .prechillTime, .fanDelayTemp, .adapt] ++
    [.doorPauseMax, .ajarTime, .recoveryGain, .recoveryMinOpen, .boostLen, .alarmDelay] ++
    allChannels.map .filterShift

/-- The item with that id, if 11.3 lists one (R182). -/
def Item.ofId (n : Nat) : Option Item := Item.all.find? fun i => i.id == n

/-- The range an item's value is limited to (R186); for the enumerated items, their codes. -/
def Item.range : Item → Int × Int
  | .setpoint .fresh => (10, 80)
  | .setpoint .chill => (-70, 50)
  | .setpoint .freeze => (-250, -120)
  | .mode _ => (0, 3)
  | .hOn _ => (3, 50)
  | .hOff _ => (3, 50)
  | .weight _ => (1, 64)
  | .slotMax _ => (180, 3600)
  | .lossPolicy _ => (0, 2)
  | .alarmHi _ => (20, 200)
  | .alarmLo _ => (20, 200)
  | .slotMin => (60, 600)
  | .ageLimit => (600, 7200)
  | .lossHold => (60, 3600)
  | .lostPeriod => (300, 7200)
  | .lostServe => (60, 1800)
  | .uLost => (256, 16384)
  | .saveMask _ => (0, 3)
  | .svcMax => (300, 7200)
  | .nMin => (900, 2400)
  | .nMax => (3000, 5400)
  | .uFull => (256, 16384)
  | .rampUp => (1, 10)
  | .rampDn => (1, 10)
  | .minOn => (60, 900)
  | .minOff => (120, 900)
  | .ambRef => (150, 350)
  | .ambGain => (0, 20)
  | .fDue => (240, 1440)
  | .minGap => (120, 1440)
  | .maxGap => (720, 5760)
  | .termTemp => (30, 200)
  | .heatMax => (10, 90)
  | .dripTime => (60, 900)
  | .prechillTime => (0, 1800)
  | .fanDelayTemp => (-200, 0)
  | .adapt => (0, 1)
  | .doorPauseMax => (10, 600)
  | .ajarTime => (30, 900)
  | .recoveryGain => (0, 32)
  | .recoveryMinOpen => (0, 120)
  | .boostLen => (30, 720)
  | .alarmDelay => (1, 240)
  | .filterShift _ => (0, 4)

/-- The profile A defaults (R186). -/
def Item.defaultA : Item → Int
  | .setpoint .fresh => 37
  | .setpoint .chill => -10
  | .setpoint .freeze => -180
  | .mode _ => 0
  | .hOn .freeze => 15
  | .hOn _ => 10
  | .hOff .freeze => 15
  | .hOff _ => 10
  | .weight .fresh => 16
  | .weight .chill => 12
  | .weight .freeze => 8
  | .slotMax .fresh => 900
  | .slotMax .chill => 600
  | .slotMax .freeze => 1200
  | .lossPolicy .freeze => 0
  | .lossPolicy _ => 1
  | .alarmHi .freeze => 80
  | .alarmHi _ => 50
  | .alarmLo .freeze => 60
  | .alarmLo _ => 40
  | .slotMin => 120
  | .ageLimit => 2400
  | .lossHold => 600
  | .lostPeriod => 1800
  | .lostServe => 300
  | .uLost => 2048
  | .saveMask .door => 3
  | .saveMask .defrost => 0
  | .saveMask .service => 2
  | .svcMax => 3600
  | .nMin => 1200
  | .nMax => 4500
  | .uFull => 4096
  | .rampUp => 1
  | .rampDn => 2
  | .minOn => 180
  | .minOff => 300
  | .ambRef => 250
  | .ambGain => 5
  | .fDue => 480
  | .minGap => 360
  | .maxGap => 4320
  | .termTemp => 80
  | .heatMax => 45
  | .dripTime => 300
  | .prechillTime => 600
  | .fanDelayTemp => -100
  | .adapt => 1
  | .doorPauseMax => 120
  | .ajarTime => 180
  | .recoveryGain => 8
  | .recoveryMinOpen => 10
  | .boostLen => 360
  | .alarmDelay => 30
  | .filterShift .coil => 0
  | .filterShift _ => 3

/-- The default of an item under a profile: profile A's but where the table of R185 differs. -/
def Item.default (profile : Nat) (i : Item) : Int :=
  match profile, i with
  | 1, .weight .fresh => 20
  | 1, .slotMax .fresh => 1200
  | 1, .nMax => 4800
  | 2, .fDue => 360
  | 2, .maxGap => 2880
  | 2, .ajarTime => 120
  | 3, .nMax => 3900
  | 3, .uFull => 3072
  | 3, .slotMin => 90
  | _, i => i.defaultA

/-- The items whose default depends on the profile (R185), in id order. -/
def Item.profiled : List Item :=
  [.weight .fresh, .slotMax .fresh, .slotMin, .nMax, .uFull, .fDue, .maxGap, .ajarTime]

/-- Look up a written value by item id. -/
def writtenAt (l : List (Nat × Int)) (n : Nat) : Option Int :=
  match l with
  | [] => none
  | (m, v) :: rest => if m = n then some v else writtenAt rest n

/-- The written values without the one of item id `n`. -/
def dropWritten (l : List (Nat × Int)) (n : Nat) : List (Nat × Int) := l.filter fun p => p.1 != n

/-- The written values with `v` for item id `n`, ids rising. -/
def putWritten (l : List (Nat × Int)) (n : Nat) (v : Int) : List (Nat × Int) :=
  match l with
  | [] => [(n, v)]
  | (m, w) :: rest => if n < m then (n, v) :: (m, w) :: rest else if m = n then (n, v) :: rest
      else (m, w) :: putWritten rest n v

/-- The follows flag (R182). -/
def Settings.follows (t : Settings) (i : Item) : Bool := (writtenAt t.written i.id).isNone

/-- The effective value of an item (R182). -/
def Settings.eff (t : Settings) (i : Item) : Int := (writtenAt t.written i.id).getD (i.default t.profile)

/-- The settings with item `i` written to `some v`, or following for `none` (R183). -/
def Settings.write (t : Settings) (i : Item) (v : Option Int) : Settings :=
  match v with
  | none => { t with written := dropWritten t.written i.id }
  | some v => { t with written := putWritten t.written i.id v }

/-- The effective value of an item in a state (R182). -/
def State.eff (s : State) (i : Item) : Int := s.settings.eff i

/-- The effective value of a non-negative item as a count. -/
def State.effN (s : State) (i : Item) : Nat := (s.eff i).toNat

end Sys2Proof.Machine
end

