-- ==== Sys2Proof/Machine/Ops.lean ====
section
/-! DEFINITION. The shared operations: the counters' five operations and their ticks (08_counter_bank.md), the
zone records with the values derived from the settings (R4, R5, R15), and the views of one block's state that
other blocks read. -/

namespace Sys2Proof.Machine

/-! ### Counters (R151 to R162) -/

/-- The five modes (R151). -/
inductive CounterMode where
  | interval | oneShot | accumulate | width | period
  deriving DecidableEq, Repr

/-- The mode of each counter (R162). -/
def CounterId.mode : CounterId → CounterMode
  | .scan => .interval
  | .ramp => .interval
  | .slot => .oneShot
  | .guard => .oneShot
  | .condrun => .oneShot
  | .phase => .oneShot
  | .settle => .oneShot
  | .pause => .oneShot
  | .fantime => .oneShot
  | .boost _ => .oneShot
  | .alm _ => .oneShot
  | .svc => .oneShot
  | .wait _ => .accumulate
  | .runsec => .accumulate
  | .gap => .accumulate
  | .door _ => .width
  | .tach => .period

/-- One period of each counter's source, in units of 1/2 400 000 s (R152, R162). -/
def CounterId.period : CounterId → Nat
  | .scan => Config.millisecond
  | .ramp => Config.millisecond
  | .tach => Config.tenMicroseconds
  | .gap => Config.minute
  | .boost _ => Config.minute
  | .slot => Config.second
  | .wait _ => Config.second
  | .guard => Config.second
  | .condrun => Config.second
  | .runsec => Config.second
  | .phase => Config.second
  | .door _ => Config.second
  | .settle => Config.second
  | .pause => Config.second
  | .fantime => Config.second
  | .alm _ => Config.second
  | .svc => Config.second

/-- The chain limit of RUNSEC (R157, R162). -/
def runsecLimit : Nat := 60

def State.counter (s : State) (i : CounterId) : Counter := s.bank.get i

def State.setCounter (i : CounterId) (c : Counter) (s : State) : State := { s with bank := s.bank.set i c }

def State.onCounter (i : CounterId) (f : Counter → Counter) (s : State) : State := s.setCounter i (f (s.counter i))

/-- R153, stop: the count is kept and the part discarded; no effect on a STOPPED counter. -/
def Counter.stop (c : Counter) : Counter := if c.run then { c with run := false, part := 0 } else c

/-- R153, clear. -/
def Counter.clear (c : Counter) : Counter :=
  { c with count := 0, saturated := false, part := if c.run then 0 else c.part }

/-- R153 and R161, write of a length. -/
def Counter.write (n : Nat) (c : Counter) : Counter :=
  if c.run then { c with reload := n } else { c with reload := n, count := n }

/-- R153, start of a STOPPED counter: part from zero; a capture-period counter starts at count 0 with its first
edge to come (R160). A one-shot at count 0 stays STOPPED (R155). -/
def Counter.start (m : CounterMode) (c : Counter) : Counter :=
  if c.run then c
  else match m with
    | .period => { c with run := true, part := 0, count := 0, firstEdge := true }
    | .oneShot => if c.count = 0 then c else { c with run := true, part := 0 }
    | .interval => { c with run := true, part := 0 }
    | .accumulate => { c with run := true, part := 0 }
    | .width => { c with run := true, part := 0 }

/-- A one-shot that expires: STOPPED with count 0, its reload kept (R155). -/
def Counter.expire (c : Counter) : Counter := { c with run := false, count := 0, part := 0 }

/-- An interval counter that expires: the count takes the reload value, and it goes on running (R154). -/
def Counter.rewind (c : Counter) : Counter := { c with count := c.reload, part := 0 }

/-- The end of a chained counter's lot: the count becomes 0 (R157). -/
def Counter.carry (c : Counter) : Counter := { c with count := 0, part := 0 }

/-- One increment of a saturating counter (R156, R159): at 65535 it stops there. -/
def Counter.increment (c : Counter) : Counter :=
  if 65535 ≤ c.count then { c with count := 65535, saturated := true, part := 0 }
  else { c with count := c.count + 1, saturated := c.saturated || c.count + 1 == 65535, part := 0 }

/-- The capture of a capture-width counter when its gate closes (R159); a STOPPED counter ignores its gate
(R158). -/
def Counter.capture (c : Counter) : Counter :=
  if c.run then
    { c with result := c.count, resultOverflow := c.saturated, count := 0, saturated := false, part := 0 }
  else c

def State.stopC (i : CounterId) (s : State) : State := s.onCounter i Counter.stop
def State.clearC (i : CounterId) (s : State) : State := s.onCounter i Counter.clear
def State.writeC (i : CounterId) (n : Nat) (s : State) : State := s.onCounter i (Counter.write n)

/-- R153, start, with R155: a one-shot started at count 0 stays STOPPED and its expiry is signalled. -/
def State.startC (i : CounterId) (s : State) : State :=
  let c := s.counter i
  let s' := s.onCounter i (Counter.start i.mode)
  if !c.run && i.mode == .oneShot && c.count == 0 then
    { s' with own := { s'.own with signalled := s'.own.signalled ++ [i] } }
  else s'

/-- R153, restart with length `n`: a stop, a write and a start. -/
def State.restartC (i : CounterId) (n : Nat) (s : State) : State := ((s.stopC i).writeC i n).startC i

/-- The owner writes a length into a counter only while it is RUNNING (R182). -/
def State.writeRunning (i : CounterId) (n : Nat) (s : State) : State :=
  if (s.counter i).run then s.writeC i n else s

/-! ### Zone records -/

def State.zone (s : State) (z : Zone) : ZoneRec := s.zones.get z

def State.onZone (z : Zone) (f : ZoneRec → ZoneRec) (s : State) : State :=
  { s with zones := s.zones.set z (f (s.zone z)) }

/-- The operating modes by their item codes (R4, R186). -/
inductive Mode where
  | normal | boost | holiday | off
  deriving DecidableEq, Repr

def Mode.ofCode (v : Int) : Mode :=
  if v = 1 then .boost else if v = 2 then .holiday else if v = 3 then .off else .normal

def Mode.code : Mode → Nat
  | .normal => 0
  | .boost => 1
  | .holiday => 2
  | .off => 3

/-- A zone's mode: the effective value of its MODE item (R4). -/
def State.mode (s : State) (z : Zone) : Mode := Mode.ofCode (s.eff (.mode z))

/-- S_eff from the mode and S (R5). -/
def setpointFor (z : Zone) (m : Mode) (sp : Int) : Int :=
  match m with
  | .normal => sp
  | .off => sp
  | .holiday => 150
  | .boost => match z with
    | .freeze => sp - 50
    | .fresh => sp - 30
    | .chill => sp - 30

/-- W_eff from the mode and W (R5). -/
def weightFor (m : Mode) (w : Nat) : Nat :=
  match m with
  | .boost => min 64 (2 * w)
  | .normal => w
  | .holiday => w
  | .off => w

def State.sEff (s : State) (z : Zone) : Int := setpointFor z (s.mode z) (s.eff (.setpoint z))
def State.wEff (s : State) (z : Zone) : Nat := weightFor (s.mode z) (s.effN (.weight z))

/-- U = floor(D × W_eff / 16), limited to 0..65535 (R15). -/
def urgencyOf (debt wEff : Nat) : Nat := limitedN 0 65535 (debt * wEff / 16)

/-- The urgency a zone has: U_LOST in FORCE_CALL and TIMED, but not in an OFF zone (R9); else from D (R15). -/
def State.urgencyNow (s : State) (z : Zone) : Nat :=
  let r := s.zone z
  if (r.subst = .forceCall ∨ r.subst = .timed) ∧ s.mode z ≠ .off then s.effN .uLost else urgencyOf r.debt (s.wEff z)

/-- U recomputed (R15). -/
def State.recomputeU (z : Zone) (s : State) : State := s.onZone z fun r => { r with urgency := s.urgencyNow z }

/-- A door's zone (R25, R140). -/
def doorZone : Door → Zone
  | .freshLeft => .fresh
  | .freshRight => .fresh
  | .chillDrawer => .chill
  | .freezeDrawer => .freeze

def State.door (s : State) (d : Door) : DoorRec := s.doors.recs.get d

def State.onDoor (d : Door) (f : DoorRec → DoorRec) (s : State) : State :=
  { s with doors := { s.doors with recs := s.doors.recs.set d (f (s.door d)) } }

/-- At least one door is OPEN. -/
def State.anyOpen (s : State) : Bool := allDoors.any fun d => (s.door d).isOpen

/-- door_open of a zone (R25). -/
def State.doorOpen (s : State) (z : Zone) : Bool := allDoors.any fun d => decide (doorZone d = z) && (s.door d).isOpen

/-- The gate of a gated counter; true for the counters without one (R158). -/
def State.gate (s : State) : CounterId → Bool
  | .runsec => decide (s.defr.compState = .running)
  | .door d => (s.door d).isOpen
  | _ => true

def State.channel (s : State) (c : Channel) : ChannelRec := s.scanner.chan.get c

/-- The channel of a zone (R4). -/
def zoneChannel : Zone → Channel
  | .fresh => .fresh
  | .chill => .chill
  | .freeze => .freeze

/-- The ambient temperature in use: Tf of AMBIENT, or AMB_REF while it is LOST or pending (R42). -/
def State.ambientInUse (s : State) : Int :=
  match (s.channel .ambient).state, (s.channel .ambient).tf with
  | .lost, _ => s.eff .ambRef
  | .valid, some t => t
  | .suspect, some t => t
  | .valid, none => s.eff .ambRef
  | .suspect, none => s.eff .ambRef

/-! ### Who holds the air path -/

def Holder.slotZone? : Holder → Option Zone
  | .slot r => some r.zone
  | .nobody => none
  | .door => none
  | .defrost => none
  | .service => none

/-- The path is free of the preemptors: the holder is none or a slot (R122, R144). -/
def Holder.isFree : Holder → Bool
  | .nobody => true
  | .slot _ => true
  | .door => false
  | .defrost => false
  | .service => false

def SuspFrame.isSlotOf (z : Zone) : SuspFrame → Bool
  | .slot _ z' _ _ _ _ => decide (z' = z)
  | .door _ => false
  | .defrost _ => false

def SuspFrame.isDoor : SuspFrame → Bool
  | .door _ => true
  | .slot _ _ _ _ _ _ => false
  | .defrost _ => false

def SuspFrame.isDefrost : SuspFrame → Bool
  | .defrost _ => true
  | .slot _ _ _ _ _ _ => false
  | .door _ => false

/-- The zone has a slot open: switching, running or suspended (R21, R51). -/
def State.slotOpen (s : State) (z : Zone) : Bool :=
  decide (s.arb.holder.slotZone? = some z) || s.arb.stack.any (SuspFrame.isSlotOf z)

end Sys2Proof.Machine
end

