-- ==== Sys2Proof/Machine/Flags.lean ====
section
/-! DEFINITION. The Condition Unit: levels, deltas, ATTN, the NOTE mark and the zone alarms
(09_conditions_and_notices.md). These are the block's flags. -/

namespace Sys2Proof.Machine

/-- The 27 conditions (R165). -/
inductive Cond where
  | zoneWarm (z : Zone) | zoneCold (z : Zone) | sensorLost (c : Channel)
  | fanFault | compFault | compLockout | heaterOpen | heaterStuck | doorAjar (d : Door)
  | serviceHold | defrostActive
  | defrostDone | defrostTimeout | planApplied | linkOverrun | restarted
  deriving DecidableEq, Repr

/-- The condition ids (R165). -/
def Cond.id : Cond → Nat
  | .zoneWarm z => zoneCode z
  | .zoneCold z => 3 + zoneCode z
  | .sensorLost c => 6 + channelCode c
  | .fanFault => 11
  | .compFault => 12
  | .compLockout => 13
  | .heaterOpen => 14
  | .heaterStuck => 15
  | .doorAjar d => 16 + doorCode d
  | .serviceHold => 20
  | .defrostActive => 21
  | .defrostDone => 22
  | .defrostTimeout => 23
  | .planApplied => 24
  | .linkOverrun => 25
  | .restarted => 26

/-- Bits 0 to 26, the conditions there are (R165). -/
def conditionBits : Set32 := 0x07FFFFFF#32

/-- The set with bit `n` put to `b`. -/
def putBit (v : Set32) (n : Nat) (b : Bool) : Set32 :=
  if b then v ||| BitVec.twoPow 32 n else v &&& ~~~(BitVec.twoPow 32 n)

/-- The deltas that are set and selected by the mask (R171, R172). -/
def Conditions.maskedDeltas (c : Conditions) : Set32 := c.deltas &&& c.mask &&& conditionBits

/-- ATTN follows the masked deltas (R171). -/
def Conditions.refreshAttn (c : Conditions) : Conditions := { c with attn := c.maskedDeltas != 0#32 }

/-- The level of a condition in force. -/
def Conditions.level (c : Conditions) (i : Cond) : Bool := c.levels.getLsbD i.id

/-- Set a delta (R166): ATTN is re-evaluated, and a delta that goes from no to yes under its mask bit makes a
NOTE pending (R172). -/
def Conditions.mark (i : Cond) (c : Conditions) : Conditions :=
  Conditions.refreshAttn
    { c with
      notePending := c.notePending || (!c.deltas.getLsbD i.id && c.mask.getLsbD i.id)
      deltas := putBit c.deltas i.id true }

/-- A block reports a level (R166): the level it already has changes nothing. -/
def Conditions.setLevel (i : Cond) (b : Bool) (c : Conditions) : Conditions :=
  if c.level i = b then c else Conditions.mark i { c with levels := putBit c.levels i.id b }

def State.level (s : State) (i : Cond) : Bool := s.cond.level i

def State.setLevel (i : Cond) (b : Bool) (s : State) : State := { s with cond := s.cond.setLevel i b }

/-- A block reports an event (R166). -/
def State.raise (i : Cond) (s : State) : State := { s with cond := s.cond.mark i }

/-! ### Zone alarms (R167, R168) -/

def State.alarm (s : State) (z : Zone) : AlarmRec := s.cond.alarms.get z

def State.onAlarm (z : Zone) (f : AlarmRec → AlarmRec) (s : State) : State :=
  { s with cond := { s.cond with alarms := s.cond.alarms.set z (f (s.alarm z)) } }

/-- What causes an evaluation (R167): a sample event that carries a temperature and does not report LOST, another
sample event, or a change of what the tests read. -/
inductive AlarmCause where
  | goodSample | badSample | change
  deriving DecidableEq, Repr

/-- The warm test (R167); at a bad sample the comparison counts as false. -/
def State.warmTest (s : State) (z : Zone) (cause : AlarmCause) : Bool :=
  (s.zone z).warmArmed && decide (s.mode z ≠ .off) && decide ((s.zone z).subst = .absent) && !s.cond.defrostHolds &&
    decide (cause ≠ .badSample) &&
    match (s.alarm z).tfInUse with
    | some t => decide (s.sEff z + s.eff (.alarmHi z) ≤ t)
    | none => false

/-- The cold test (R168); at a bad sample the comparison counts as false. -/
def State.coldTest (s : State) (z : Zone) (cause : AlarmCause) : Bool :=
  decide (s.mode z ≠ .off) && decide (cause ≠ .badSample) &&
    match (s.alarm z).tfInUse with
    | some t => decide (t ≤ s.sEff z - s.eff (.alarmLo z))
    | none => false

/-- The length of an alarm timing, ALARM_DELAY × 60 (R167). -/
def State.alarmLength (s : State) : Nat := s.effN .alarmDelay * 60

/-- Step 1 of the warm steps (R167): the return margin is 20 dC. -/
def warmDeassert (z : Zone) (cause : AlarmCause) (s : State) : State :=
  match cause, (s.alarm z).tfInUse with
  | .goodSample, some t => if t ≤ s.sEff z + s.eff (.alarmHi z) - 20 then s.setLevel (.zoneWarm z) false else s
  | .goodSample, none => s
  | .badSample, _ => s
  | .change, _ => s

/-- Step 1 of the cold steps (R168). -/
def coldDeassert (z : Zone) (cause : AlarmCause) (s : State) : State :=
  match cause, (s.alarm z).tfInUse with
  | .goodSample, some t => if s.sEff z - s.eff (.alarmLo z) + 20 ≤ t then s.setLevel (.zoneCold z) false else s
  | .goodSample, none => s
  | .badSample, _ => s
  | .change, _ => s

/-- Stop the zone's alarm timing. -/
def stopAlarm (z : Zone) (s : State) : State := (s.stopC (.alm z)).onAlarm z fun a => { a with almFor := .none }

/-- Start the zone's alarm timing with the full delay. -/
def startAlarm (z : Zone) (what : AlmFor) (s : State) : State :=
  (s.restartC (.alm z) s.alarmLength).onAlarm z fun a => { a with almFor := what }

/-- Steps 2 and 3 of the warm steps (R167). -/
def warmTiming (z : Zone) (cause : AlarmCause) (s : State) : State :=
  let test := s.warmTest z cause
  let s := if (s.alarm z).almFor = .warm && !test then stopAlarm z s else s
  if test && !s.level (.zoneWarm z) && decide ((s.alarm z).almFor ≠ .warm) then startAlarm z .warm s else s

/-- Steps 2 and 3 of the cold steps (R168). -/
def coldTiming (z : Zone) (cause : AlarmCause) (s : State) : State :=
  let test := s.coldTest z cause
  let s := if (s.alarm z).almFor = .cold && !test then stopAlarm z s else s
  if test && !s.level (.zoneCold z) && decide ((s.alarm z).almFor = .none) then startAlarm z .cold s else s

/-- An evaluation of the zone's alarms (R167, R168). -/
def evalAlarm (z : Zone) (cause : AlarmCause) (s : State) : State :=
  coldTiming z cause (coldDeassert z cause (warmTiming z cause (warmDeassert z cause s)))

/-- A sample event of the zone's channel reaches the Condition Unit (R167). -/
def alarmSample (z : Zone) (s : State) : State :=
  let c := s.channel (zoneChannel z)
  match c.state, c.tf with
  | .lost, _ => evalAlarm z .badSample s
  | .valid, some t => evalAlarm z .goodSample (s.onAlarm z fun a => { a with tfInUse := some t })
  | .suspect, some t => evalAlarm z .goodSample (s.onAlarm z fun a => { a with tfInUse := some t })
  | .valid, none => evalAlarm z .badSample s
  | .suspect, none => evalAlarm z .badSample s

/-- The zone's ALM counter has expired (R167, R168). -/
def onAlmExpiry (z : Zone) (s : State) : State :=
  match (s.alarm z).almFor with
  | .warm => (s.setLevel (.zoneWarm z) true).onAlarm z fun a => { a with almFor := .none }
  | .cold => (s.setLevel (.zoneCold z) true).onAlarm z fun a => { a with almFor := .none }
  | .none => s

/-- The alarms at the entry of a zone into OFF (R168). -/
def clearAlarms (z : Zone) (s : State) : State :=
  stopAlarm z ((s.setLevel (.zoneWarm z) false).setLevel (.zoneCold z) false)

end Sys2Proof.Machine
end

