-- ==== Sys2Proof/Machine/AirPath.lean ====
section
/-! DEFINITION. The Air Path Controller: dampers, homing, moves, the evaporator fan and its tachometer
(04_air_path.md). -/

namespace Sys2Proof.Machine

/-! ### Dampers (R80 to R86) -/

def State.damper (s : State) (d : Damper) : DamperRec := s.air.dampers.get d

def State.onDamper (d : Damper) (f : DamperRec → DamperRec) (s : State) : State :=
  { s with air := { s.air with dampers := s.air.dampers.set d (f (s.damper d)) } }

/-- An opening in percent as a step target (R81). -/
def stepsOf (pct : Nat) : Nat := (pct * 480 + 50) / 100

/-- READY with its position equal to its target (R80). -/
def DamperRec.settled (r : DamperRec) : Bool := decide (r.state = .ready) && decide (r.position = some r.target)

def State.bothSettled (s : State) : Bool := (s.damper .fresh).settled && (s.damper .chill).settled

/-- A homing begins, toward that target afterwards (R84). -/
def DamperRec.beginHoming (target : Nat) (r : DamperRec) : DamperRec :=
  { r with state := .homing, homingSteps := 520, position := none, homeDue := false, target := target, stepPart := 0 }

/-- A move begins (R82). -/
def DamperRec.beginMove (target : Nat) (r : DamperRec) : DamperRec :=
  { r with state := .moving, target := target, stepPart := 0 }

/-- A move ends at its target: READY, counted, a homing due at the hundredth (R82). -/
def DamperRec.complete (r : DamperRec) : DamperRec :=
  { r with
    state := .ready, position := some r.target, moveCount := r.moveCount + 1, stepPart := 0
    homeDue := r.homeDue || decide (r.moveCount + 1 = 100) }

/-- A target given to a READY damper (R82). -/
def DamperRec.takeReady (t : Nat) (r : DamperRec) : DamperRec :=
  if r.position = some t then { r with target := t }
  else if r.homeDue then r.beginHoming t
  else r.beginMove t

/-- A new target given to a damper (R81, R82, R83, R85). -/
def DamperRec.give (t : Nat) (r : DamperRec) : DamperRec :=
  if t = r.target then r
  else match r.state with
    | .unhomed => { r with target := t }
    | .homing => { r with target := t }
    | .ready => r.takeReady t
    | .moving => if r.position = some t then DamperRec.complete { r with target := t } else { r with target := t }

/-- A homing request with target 0 (R84). -/
def DamperRec.requestHoming (r : DamperRec) : DamperRec :=
  match r.state with
  | .homing => { r with target := 0 }
  | .unhomed => r.beginHoming 0
  | .ready => r.beginHoming 0
  | .moving => r.beginHoming 0

/-- The end of a homing: zeroed and READY, then the stored target is taken as by a READY damper (R84). -/
def DamperRec.endHoming (r : DamperRec) : DamperRec :=
  DamperRec.takeReady r.target
    { r with state := .ready, position := some 0, homingSteps := 0, moveCount := 0, homeDue := false, stepPart := 0 }

/-- One step of the damper's drive while MOVING or HOMING, not yet the ending step (R82, R84). -/
def DamperRec.step (r : DamperRec) : DamperRec :=
  match r.state with
  | .moving =>
    let p := r.position.getD 0
    { r with position := some (if p < r.target then p + 1 else p - 1), stepPart := 0 }
  | .homing => { r with homingSteps := r.homingSteps - 1, stepPart := 0 }
  | .unhomed => r
  | .ready => r

def giveTarget (d : Damper) (t : Nat) (s : State) : State := s.onDamper d (DamperRec.give t)

/-- Openings in percent for both dampers (R81). -/
def giveOpenings (fresh chill : Nat) (s : State) : State :=
  giveTarget .chill (stepsOf chill) (giveTarget .fresh (stepsOf fresh) s)

def requestHoming (d : Damper) (s : State) : State := s.onDamper d DamperRec.requestHoming

/-! ### Fan (R87 to R94) -/

def State.onFan (f : Fan → Fan) (s : State) : State := { s with air := { s.air with fan := f s.air.fan } }

/-- A duty in percent as a PWM code (R88). -/
def dutyCode (pct : Nat) : Nat := (pct * 255 + 50) / 100

/-- The kick (R89). -/
def kickFan (s : State) : State :=
  ((s.onFan fun f => { f with state := .kick, drive := 255, overflowRun := 0, proven := false }).restartC .fantime 2).startC
    .tach

/-- A stop of a fan in KICK or RUN (R93). -/
def stopFan (s : State) : State :=
  ((s.onFan fun f => { f with state := .stopped, drive := 0, rpm := 0, overflowRun := 0, proven := false }).stopC .tach).stopC
    .fantime

/-- A requested duty reaches the fan (R93). -/
def requestFan (duty : Nat) (s : State) : State :=
  let s := s.onFan fun f => { f with requested := duty }
  match s.air.fan.state with
  | .stopped => if duty = 0 then s else kickFan s
  | .kick => if duty = 0 then stopFan s else s
  | .run => if duty = 0 then stopFan s else s.onFan fun f => { f with drive := dutyCode duty }
  | .rest => s
  | .retryWait => s

/-- FAN_FAULT changes: in the fan record, the Condition Unit and the Compressor Controller (R94, R99). -/
def setFanFault (b : Bool) (s : State) : State :=
  let s := s.onFan fun f => { f with fault := b }
  { s.setLevel .fanFault b with comp := { s.comp with fanCap := b } }

/-- The kick is over: RUN at the requested duty (R89). -/
def onKickEnd (s : State) : State :=
  s.onFan fun f => { f with state := .run, drive := dutyCode f.requested, overflowRun := 0 }

/-- The rest or the wait is over (R91). -/
def onFanRetry (s : State) : State :=
  if s.air.fan.requested = 0 then s.onFan fun f => { f with state := .stopped } else kickFan s

/-- The proving window is over (R92). -/
def onProvingEnd (s : State) : State :=
  setFanFault false (s.onFan fun f => { f with proven := true, stallCount := 0 })

/-- A stall (R91). -/
def stallFan (s : State) : State :=
  let s := (s.stopC .tach).stopC .fantime
  let n := min 3 (s.air.fan.stallCount + 1)
  let s := s.onFan fun f => { f with drive := 0, rpm := 0, overflowRun := 0, proven := false, stallCount := n }
  if n < 3 then (s.onFan fun f => { f with state := .rest }).restartC .fantime 10
  else setFanFault true ((s.onFan fun f => { f with state := .retryWait }).restartC .fantime 300)

/-- rpm from a period in 10 µs ticks (R90). -/
def rpmOf (period : Nat) : Nat := limitedN 0 65535 (3000000 / period)

/-- A valid tach result of that period (R90); in RUN, the first one starts the proving window (R92). -/
def onTachResult (period : Nat) (s : State) : State :=
  let s := s.onFan fun f => { f with rpm := rpmOf period, overflowRun := 0 }
  if s.air.fan.state = .run && !s.air.fan.proven && !(s.counter .fantime).run then s.restartC .fantime 10 else s

/-- A rising tachometer edge (R90, R160). -/
def onTachEdge (s : State) : State :=
  let c := s.counter .tach
  if !c.run then s
  else if c.firstEdge then s.setCounter .tach { c with count := 0, firstEdge := false, part := 0 }
  else if c.count = 0 then s
  else onTachResult c.count (s.setCounter .tach { c with result := c.count, count := 0, part := 0 })

/-- A TACH overflow (R90, R91, R92, R160): the count wraps and the next edge is a first edge. -/
def onTachOverflow (s : State) : State :=
  let s := s.onCounter .tach fun c => { c with count := 0, firstEdge := true, part := 0 }
  let s := s.onFan fun f => { f with rpm := 0 }
  match s.air.fan.state with
  | .run =>
    let s := (s.stopC .fantime).onFan fun f => { f with overflowRun := f.overflowRun + 1 }
    if 3 ≤ s.air.fan.overflowRun then stallFan s else s
  | .kick => s
  | .stopped => s
  | .rest => s
  | .retryWait => s

/-- FANTIME has expired: what follows depends on what it was timing (R89, R91, R92). -/
def onFantimeExpiry (s : State) : State :=
  match s.air.fan.state with
  | .kick => onKickEnd s
  | .rest => onFanRetry s
  | .retryWait => onFanRetry s
  | .run => onProvingEnd s
  | .stopped => s

end Sys2Proof.Machine
end

