-- ==== Sys2Proof/Machine/Compressor.lean ====
section
/-! DEFINITION. The Compressor Controller and the condenser fan (05_compressor_and_condenser.md), and the heater
drive that follows the compressor's state and the holder (06_defrost.md, R132). -/

namespace Sys2Proof.Machine

/-! ### Heater drive -/

/-- What the heater is to be (R132): the holder's row of the table, held off while HEATER_STUCK is asserted or the
compressor is RUNNING as last reported. -/
def State.heaterWanted (s : State) : Bool :=
  (match s.arb.holder with
    | .defrost => decide (s.defr.phase = .heat)
    | .service => s.defr.svcHeater
    | .nobody => false
    | .slot _ => false
    | .door => false) &&
    !s.level .heaterStuck && decide (s.defr.compState ≠ .running)

/-- The heater drive is set anew (R132). -/
def refreshHeater (s : State) : State := { s with defr := { s.defr with heaterDrive := s.heaterWanted } }

/-! ### The record -/

def State.onComp (f : Compressor → Compressor) (s : State) : State := { s with comp := f s.comp }
def State.onDefr (f : Defrost → Defrost) (s : State) : State := { s with defr := f s.defr }

/-- A change of state, reported to the Defrost Sequencer (R99, R118), whose heater drive follows it (R132). -/
def setCompState (st : CompState) (s : State) : State :=
  refreshHeater ((s.onComp fun c => { c with state := st }).onDefr fun d => { d with compState := st })

/-! ### Demand and target (R101, R102) -/

def State.nMin (s : State) : Nat := s.effN .nMin
def State.nMax (s : State) : Nat := s.effN .nMax

/-- A speed limited to N_MIN..N_MAX as they stand. -/
def State.limitSpeed (s : State) (n : Nat) : Nat := limitedN s.nMin s.nMax n

/-- Rounded down to a multiple of 30. -/
def floor30 (n : Nat) : Nat := n / 30 * 30

/-- At least one zone is calling. -/
def State.anyCalling (s : State) : Bool := allZones.any fun z => (s.zone z).calling

/-- Usum, step 1 of R102. -/
def State.urgencySum (s : State) : Nat :=
  min (s.effN .uFull) ((allZones.map fun z => if (s.zone z).calling then (s.zone z).urgency else 0).sum)

/-- N_raw, step 2 of R102. -/
def State.rawTarget (s : State) : Nat := s.nMin + (s.nMax - s.nMin) * s.urgencySum / s.effN .uFull

/-- The ambient lift, step 3 of R102. -/
def State.ambientLift (s : State) : Nat :=
  if s.eff .ambRef < s.comp.ambient then (s.eff .ambGain * (s.comp.ambient - s.eff .ambRef)).toNat else 0

/-- Step 5 of R102: raised to a floor, which is first limited to N_MIN..N_MAX. -/
def State.raiseToFloor (s : State) (floor : Option Nat) (n : Nat) : Nat :=
  match floor with
  | none => n
  | some f => max n (s.limitSpeed f)

/-- The AUTO target (R102). -/
def State.autoTarget (s : State) (floor : Option Nat) : Nat :=
  if s.comp.fanCap then s.nMin
  else s.raiseToFloor floor (s.limitSpeed (floor30 (s.rawTarget + s.ambientLift)))

/-- The demand resolved: none for a stop, or the speed to run at (R101). -/
def State.resolve (s : State) : Option Nat :=
  match s.comp.demand with
  | .stop => none
  | .fixed n => some (s.limitSpeed n)
  | .auto floor => if s.anyCalling then some (s.autoTarget floor) else none

/-! ### Starts, stops and the ramp (R103 to R105) -/

/-- The condenser fan's post-run begins (R111). -/
def beginPostRun (s : State) : State := s.restartC .condrun 60

/-- A start toward a target (R103). -/
def startComp (target : Nat) (s : State) : State :=
  let s := setCompState .running s
  let s := s.onComp fun c => { c with command := s.nMin, target := target, guard := .minOn, stopHeld := false, condFan := true }
  ((s.restartC .guard (s.effN .minOn)).restartC .ramp 1000).stopC .condrun

/-- A stop (R105). -/
def stopComp (s : State) : State :=
  let s := setCompState .off s
  let s := s.onComp fun c => { c with command := 0, target := 0, guard := .minOff, stopHeld := false }
  beginPostRun (s.restartC .guard (s.effN .minOff))

/-- A stop decision while RUNNING: held during the minimum run (R105). -/
def decideStop (s : State) : State :=
  match s.comp.guard with
  | .minOn => s.onComp fun c => { c with stopHeld := true, target := s.nMin }
  | .none => stopComp s
  | .minOff => stopComp s

/-- The events at which a demand is resolved (R101). -/
inductive ResolveAt where
  | newDemand | ramp | guard | leaveFaulted
  deriving DecidableEq, Repr

/-- The demand resolved and acted on by state (R101): at a RAMP expiry the target becomes the resolved value, and
at the other events a RUNNING compressor only gives up a held stop. -/
def resolveDemand (at_ : ResolveAt) (s : State) : State :=
  match s.comp.state with
  | .off =>
    match s.resolve with
    | none => s
    | some n => if (s.counter .guard).run then s else startComp n s
  | .running =>
    match s.resolve with
    | none => decideStop s
    | some n =>
      match at_ with
      | .ramp => s.onComp fun c => { c with stopHeld := false, target := n }
      | .newDemand => s.onComp fun c => { c with stopHeld := false }
      | .guard => s.onComp fun c => { c with stopHeld := false }
      | .leaveFaulted => s.onComp fun c => { c with stopHeld := false }
  | .faulted => s
  | .lockout => s

/-- A new demand replaces the demand field whole and is resolved (R101). -/
def giveDemand (d : Demand) (s : State) : State := resolveDemand .newDemand (s.onComp fun c => { c with demand := d })

/-- One ramp step of a command toward its target (R104). -/
def rampStep (command target up down : Nat) : Nat :=
  if command < target then min target (command + 30 * up) else max target (command - 30 * down)

/-- The RAMP expiry (R101, R104). -/
def onRampExpiry (s : State) : State :=
  match s.comp.state with
  | .running =>
    let s := resolveDemand .ramp s
    match s.comp.state with
    | .running =>
      s.onComp fun c => { c with command := rampStep c.command c.target (s.effN .rampUp) (s.effN .rampDn) }
    | .off => s
    | .faulted => s
    | .lockout => s
  | .off => resolveDemand .ramp s
  | .faulted => s
  | .lockout => s

/-! ### Limits, faults and lockout (R107 to R110) -/

/-- A change of N_MIN or N_MAX (R107). -/
def onLimitChange (s : State) : State :=
  match s.comp.state with
  | .running =>
    s.onComp fun c =>
      { c with
        command := s.limitSpeed c.command
        target := if c.stopHeld then s.nMin else s.limitSpeed c.target }
  | .off => s
  | .faulted => s
  | .lockout => s

/-- FAULTED is left for OFF and the demand resolved (R109). -/
def leaveFaulted (s : State) : State :=
  resolveDemand .leaveFaulted ((setCompState .off s).setLevel .compFault false)

/-- The GUARD expiry (R106). -/
def onGuardExpiry (s : State) : State :=
  let s := s.onComp fun c => { c with guard := .none }
  match s.comp.state with
  | .running => resolveDemand .guard (s.onComp fun c => { c with faultCount := 0 })
  | .off => resolveDemand .guard s
  | .faulted => if s.scanner.compFlt = some true then s else leaveFaulted s
  | .lockout => s

/-- A fault is taken (R108, R110). -/
def takeFault (s : State) : State :=
  let wasRunning := decide (s.comp.state = .running)
  let n := s.comp.faultCount + 1
  let s := s.onComp fun c =>
    { c with command := 0, target := 0, guard := .minOff, stopHeld := false, faultCount := n }
  let s := if wasRunning then beginPostRun s else s
  let s := s.restartC .guard (s.effN .minOff)
  let s := setCompState (if 3 ≤ n then .lockout else .faulted) s
  let s := s.setLevel .compFault true
  if 3 ≤ n then s.setLevel .compLockout true else s

/-- A round's COMP_FLT level (R108, R109). -/
def onCompFltRound (asserted : Bool) (s : State) : State :=
  if asserted then
    let s := s.onComp fun c => { c with fltRounds := min 2 (c.fltRounds + 1) }
    if s.comp.fltRounds = 2 ∧ (s.comp.state = .off ∨ s.comp.state = .running) then takeFault s else s
  else
    let s := s.onComp fun c => { c with fltRounds := 0 }
    if s.comp.state = .faulted ∧ s.comp.guard = .none then leaveFaulted s else s

/-- CLEAR_FAULT in LOCKOUT (R110). -/
def clearLockout (s : State) : State :=
  let s := setCompState .off s
  let s := s.onComp fun c => { c with faultCount := 0, fltRounds := 0, guard := .minOff }
  let s := s.restartC .guard (s.effN .minOff)
  (s.setLevel .compFault false).setLevel .compLockout false

/-- CONDRUN has expired: the condenser fan line goes off (R111). -/
def onCondrunExpiry (s : State) : State := s.onComp fun c => { c with condFan := false }

end Sys2Proof.Machine
end

