-- ==== Sys2Proof/Machine/Arbiter.lean ====
section
/-! DEFINITION. The Allocation Arbiter: outputs, slots, arbitration, plans, frames (03_cooling_allocation.md). The
claims that a holder report leads to are in Machine/Path.lean. -/

namespace Sys2Proof.Machine

def State.onArb (f : Arbiter → Arbiter) (s : State) : State := { s with arb := f s.arb }

def setHolder (h : Holder) (s : State) : State := s.onArb fun a => { a with holder := h }

/-- The plan's entry for a zone (R61). -/
def Plan.zone (p : Plan) : Zone → Route
  | .fresh => p.fresh
  | .chill => p.chill
  | .freeze => p.freeze

/-- The allocation state (R48). -/
inductive AllocState where
  | idle | switching | serving | yielded
  deriving DecidableEq, Repr

def Holder.alloc : Holder → AllocState
  | .nobody => .idle
  | .slot r => if r.serving then .serving else .switching
  | .door => .yielded
  | .defrost => .yielded
  | .service => .yielded

/-! ### Save masks (R68) -/

def maskHasRoute (m : Nat) : Bool := m % 2 == 1
def maskHasTime (m : Nat) : Bool := m / 2 % 2 == 1

/-! ### Plans (R63, R64) -/

/-- The staged plan is applied (R64). -/
def applyPlan (s : State) : State :=
  (s.onArb fun a => { a with active := a.staged, commitPending := false }).raise .planApplied

def applyPending (s : State) : State := if s.arb.commitPending then applyPlan s else s

/-! ### Outputs (R49) -/

/-- The outputs of holder none: the active plan's IDLE entry. -/
def giveIdleOutputs (s : State) : State :=
  let r := s.arb.active.idle
  giveDemand (.auto none) (requestFan r.fanDuty (giveOpenings r.freshOpen r.chillOpen s))

/-- A slot starts to serve: SERVING, SLOT started, the fan asked for the route's duty, the demand given (R49, R52). -/
def serveSlot (r : Slot) (s : State) : State :=
  let s := (setHolder (.slot { r with serving := true }) s).startC .slot
  giveDemand (.auto r.route.floor) (requestFan r.route.fanDuty s)

/-- A slot waits for the dampers: SWITCHING with the fan at 0 (R49, R52). -/
def switchSlot (r : Slot) (s : State) : State :=
  let s := setHolder (.slot { r with serving := false }) s
  giveDemand (.auto r.route.floor) (requestFan 0 s)

/-- A granted or resumed slot takes the path: its openings are given, and it serves at once if both dampers are
settled there (R51 step 7, R71 step 4). -/
def placeSlot (r : Slot) (s : State) : State :=
  let s := giveOpenings r.route.freshOpen r.route.chillOpen s
  if s.bothSettled then serveSlot r s else switchSlot r s

/-- The outputs of DOOR: the targets as they stand, fan 0, AUTO with no floor (R49). -/
def giveDoorOutputs (s : State) : State := giveDemand (.auto none) (requestFan 0 s)

/-- The outputs of SERVICE at the HOLD: fan 0, STOP, heater off (R49, R75). -/
def giveServiceOutputs (s : State) : State :=
  giveDemand .stop (requestFan 0 (s.onDefr fun d => { d with svcHeater := false }))

/-- Both dampers stand at a switching slot's targets: SWITCHING ends (R52, R86). -/
def endSwitching (s : State) : State :=
  match s.arb.holder with
  | .slot r => if !r.serving && s.bothSettled then serveSlot r s else s
  | .nobody => s
  | .door => s
  | .defrost => s
  | .service => s

/-! ### Arbitration (R59), grants (R51) and IDLE (R60) -/

/-- The successor in the cyclic zone order (R2). -/
def zoneAfter : Zone → Zone
  | .fresh => .chill
  | .chill => .freeze
  | .freeze => .fresh

/-- Step 1 of R59. -/
def State.candidates (s : State) : List Zone :=
  let calling := allZones.filter fun z => (s.zone z).calling
  match s.arb.fullEnd with
  | none => calling
  | some e => if calling.any (· != e) then calling.filter (· != e) else calling

/-- The WAIT count of a zone (R57). -/
def State.waited (s : State) (z : Zone) : Nat := (s.counter (.wait z)).count

/-- Step 5 of R59: the first zone, scanning on from the successor of `last`, that is in the pool and holds the
greatest key. -/
def pickGreatest (last : Zone) (pool : List Zone) (key : Zone → Nat) : Option Zone :=
  let greatest := pool.foldl (fun m z => max m (key z)) 0
  [zoneAfter last, zoneAfter (zoneAfter last), last].find? fun z => pool.contains z && key z == greatest

/-- The choice of R59. -/
def State.choice (s : State) : Option Zone :=
  let aged := s.candidates.filter fun z => decide (s.effN .ageLimit ≤ s.waited z)
  if aged.isEmpty then pickGreatest s.arb.lastServed s.candidates fun z => (s.zone z).urgency
  else pickGreatest s.arb.lastServed aged s.waited

/-- The length written into SLOT at a grant (R51 step 5). -/
def State.slotLength (s : State) (fixed : Bool) : Nat := if fixed then s.effN .lostServe else s.effN .slotMin

/-- A grant (R51). -/
def grantSlot (z : Zone) (s : State) : State :=
  let s := applyPending s
  let fixed := decide ((s.zone z).subst = .timed)
  let r : Slot :=
    { zone := z, phase := .min, fixed := fixed, route := s.arb.active.zone z, source := .plan, serving := false }
  let s := s.onArb fun a => { a with holder := .slot r, lastServed := z }
  let s := s.stopC (.wait z)
  let s := (s.stopC .slot).writeC .slot (s.slotLength fixed)
  placeSlot r s

/-- An entry to IDLE (R60). -/
def enterIdle (s : State) : State := giveIdleOutputs (applyPending (setHolder .nobody s))

/-- An arbitration, with the outputs of the holder it settles (R58, R59); full_end is absent again after it (R56). -/
def arbitrate (s : State) : State :=
  let pick := s.choice
  let s := s.onArb fun a => { a with fullEnd := none }
  match pick with
  | some z => grantSlot z s
  | none => enterIdle s

/-! ### Slot ends (R56) -/

/-- A slot of zone `z` ends: SLOT stopped, WAIT cleared and started, the end reported to the Zone Table, where a
TIMED zone stops calling (R21, R50, R56). The slot record or the frame is removed by the caller. -/
def endSlot (z : Zone) (full : Bool) (s : State) : State :=
  let s := s.stopC .slot
  let s := (s.clearC (.wait z)).startC (.wait z)
  let s := s.onArb fun a => { a with fullEnd := if full then some z else none }
  if (s.zone z).subst = .timed then s.onZone z fun r => { r with calling := false } else s

/-- A slot that holds the path ends, and arbitration follows (R56, R58). -/
def endHeldSlot (z : Zone) (full : Bool) (s : State) : State := arbitrate (endSlot z full (setHolder .nobody s))

/-- The EXTEND length of a zone, SLOT_MAX − SLOT_MIN, 0 if not positive (R53). -/
def State.extendLength (s : State) (z : Zone) : Nat := (s.eff (.slotMax z) - s.eff .slotMin).toNat

/-! ### Frames (R67, R71, R73) -/

/-- A claim pushes a frame for the interrupted holder (R67). -/
def pushFrame (mask : Nat) (s : State) : State :=
  match s.arb.holder with
  | .slot r =>
    let s := s.stopC .slot
    s.onArb fun a =>
      { a with
        stack := .slot mask r.zone r.phase r.fixed (s.counter .slot).count (if maskHasRoute mask then some r.route else none)
          :: a.stack }
  | .door => s.onArb fun a => { a with stack := .door mask :: a.stack }
  | .defrost => s.onArb fun a => { a with stack := .defrost mask :: a.stack }
  | .nobody => s
  | .service => s

def dropTop (s : State) : State := s.onArb fun a => { a with stack := a.stack.tail }

/-- A popped SLOT frame resumes (R71). -/
def resumeSlot (z : Zone) (phase : SlotPhase) (fixed : Bool) (remaining : Nat) (snapshot : Option Route) (s : State) :
    State :=
  let place (route : Route) (source : RouteSource) (s : State) : State :=
    let r : Slot := { zone := z, phase := phase, fixed := fixed, route := route, source := source, serving := false }
    placeSlot r ((setHolder (.slot r) s).stopC .slot |>.writeC .slot remaining)
  match snapshot with
  | some route => place route .snapshot s
  | none =>
    let s := applyPending s
    place (s.arb.active.zone z) .plan s

/-- A popped SLOT frame is resumed, or dropped when its mask lacks TIME or its zone is not calling (R71). -/
def popSlot (mask : Nat) (z : Zone) (phase : SlotPhase) (fixed : Bool) (remaining : Nat) (snapshot : Option Route)
    (s : State) : State :=
  if maskHasTime mask && (s.zone z).calling then resumeSlot z phase fixed remaining snapshot s
  else arbitrate (endSlot z false s)

/-- Frames that satisfy `p` leave the stack without being popped (R73). -/
def removeFrames (p : SuspFrame → Bool) (s : State) : State :=
  s.onArb fun a => { a with stack := a.stack.filter fun f => !p f }

end Sys2Proof.Machine
end

