-- ==== Sys2Proof/Machine/Defrost.lean ====
section
/-! DEFINITION. The Defrost Sequencer: the frost index, the due test, the phases, the ends of HEAT, the heater
faults' runs and the resume from a suspension (06_defrost.md). Claims and releases are in Machine/Path.lean. -/

namespace Sys2Proof.Machine

/-- A change of phase, which the heater drive follows (R132). -/
def setPhase (p : DefrostPhase) (s : State) : State := refreshHeater (s.onDefr fun d => { d with phase := p })

/-- An addition to F, saturating (R119). -/
def addFrost (n : Nat) (s : State) : State := s.onDefr fun d => { d with frost := sat16 (d.frost + n) }

/-- A defrost is due (R120). -/
def State.defrostDue (s : State) : Bool :=
  (decide (s.effN .fDue ≤ s.defr.frost) && decide (s.effN .minGap ≤ (s.counter .gap).count)) ||
    decide (s.effN .maxGap ≤ (s.counter .gap).count)

def State.compRunning (s : State) : Bool := decide (s.defr.compState = .running)

/-! ### Outputs of the phases (R123) -/

def giveStopOutputs (s : State) : State := giveDemand .stop (requestFan 0 (giveOpenings 0 0 s))

/-- PRE_CHILL: the active plan's FREEZE entry and FIXED(N_MAX). -/
def givePreChillOutputs (s : State) : State :=
  let r := s.arb.active.freeze
  giveDemand (.fixed s.nMax) (requestFan r.fanDuty (giveOpenings r.freshOpen r.chillOpen s))

/-- RECOVER: fan 0 and FIXED(N_MAX); the dampers' homing or targets 0 are given beside it. -/
def giveRecoverOutputs (s : State) : State := giveDemand (.fixed s.nMax) (requestFan 0 s)

/-! ### Entries (R124 to R131) -/

/-- The HEAT budget at an entry: HEAT_MAX × 60, at most 1500 with COIL lost (R126). -/
def State.heatBudgetNow (s : State) (coilTimed : Bool) : Nat :=
  if coilTimed then min 1500 (s.effN .heatMax * 60) else s.effN .heatMax * 60

/-- HEAT is entered (R126). -/
def enterHeat (s : State) : State :=
  let timed := s.defr.coilLost
  let budget := s.heatBudgetNow timed
  let s := s.onDefr fun d => { d with coilTimed := timed, heatBudget := budget, termCount := 0 }
  let s := s.restartC .phase budget
  giveStopOutputs (setPhase .heat s)

/-- An interrupted HEAT goes on with its held PHASE (R125, R136). -/
def continueHeat (s : State) : State :=
  let s := s.onDefr fun d => { d with resumeHeat := false }
  (giveStopOutputs (setPhase .heat s)).startC .phase

/-- STOP_WAIT ends (R125). -/
def endStopWait (s : State) : State := if s.defr.resumeHeat then continueHeat s else enterHeat s

/-- STOP_WAIT is entered; it ends at the entry when the compressor is not RUNNING (R125). -/
def enterStopWait (s : State) : State :=
  let s := giveStopOutputs (setPhase .stopWait s)
  if s.compRunning then s else endStopWait s

/-- PRE_CHILL is entered (R124). -/
def enterPreChill (s : State) : State :=
  givePreChillOutputs ((setPhase .preChill s).restartC .phase (s.effN .prechillTime))

/-- The first phase after a claim that is taken (R123). -/
def enterFirstPhase (s : State) : State :=
  if s.effN .prechillTime = 0 ∨ s.defr.compState = .lockout then enterStopWait s else enterPreChill s

/-- DRIP is entered; under a suspension PHASE is only written and no outputs are given (R130). -/
def enterDrip (s : State) : State :=
  let s := setPhase .drip s
  if s.defr.suspended then (s.stopC .phase).writeC .phase (s.effN .dripTime)
  else giveStopOutputs (s.restartC .phase (s.effN .dripTime))

/-- RECOVER is entered: both dampers home, PHASE is restarted with 600 (R131). -/
def enterRecover (s : State) : State :=
  let s := setPhase .recover s
  let s := requestHoming .chill (requestHoming .fresh s)
  giveRecoverOutputs (s.restartC .phase 600)

/-! ### Ends of HEAT (R127 to R129) -/

inductive HeatEnd where
  | termination | timeout | timedEnd | abort
  deriving DecidableEq, Repr

/-- The elapsed time of HEAT (R118). -/
def State.heatElapsed (s : State) : Nat := s.defr.heatBudget - (s.counter .phase).count

/-- The adapted F_DUE after an end of HEAT, from the present one (R129). -/
def adaptedDue (how : HeatEnd) (coilTimed heaterOpen : Bool) (lastHeat : Nat) (due : Int) : Int :=
  match how with
  | .termination =>
    if coilTimed then due
    else if lastHeat < 15 then min 1440 (due + 60)
    else if 30 < lastHeat then max 240 (due - 60)
    else due
  | .timeout => if heaterOpen then due else max 240 (due - 120)
  | .timedEnd => due
  | .abort => due

/-- The adaptation (R129): with ADAPT 1, a new value that differs is stored in F_DUE as a written value. -/
def adaptDue (how : HeatEnd) (s : State) : State :=
  let due := s.eff .fDue
  let new := adaptedDue how s.defr.coilTimed (s.level .heaterOpen) s.defr.lastHeat due
  if s.eff .adapt = 1 ∧ new ≠ due then { s with settings := s.settings.write .fDue (some new) } else s

/-- An end of HEAT (R128). -/
def endHeat (how : HeatEnd) (s : State) : State :=
  let elapsed := s.heatElapsed
  let s := s.stopC .phase
  let s := s.onDefr fun d =>
    { d with
      lastHeat := elapsed / 60, termCount := 0, resumeHeat := false
      frost := match how with
        | .abort => d.frost / 2
        | .termination => 0
        | .timeout => 0
        | .timedEnd => 0 }
  enterDrip (adaptDue how (s.clearC .runsec))

/-- PHASE expires in HEAT (R127). -/
def heatTimedOut (s : State) : State :=
  if !s.defr.coilTimed || s.level .heaterOpen then endHeat .timeout (s.raise .defrostTimeout) else endHeat .timedEnd s

/-- COIL is reported LOST in HEAT (R127). -/
def coilLossInHeat (s : State) : State :=
  if s.defr.coilTimed then s
  else
    let elapsed := s.heatElapsed
    let s := s.onDefr fun d => { d with coilTimed := true }
    if s.defr.heatBudget ≤ 1500 then s
    else if elapsed < 1500 then
      let s := s.onDefr fun d => { d with heatBudget := 1500 }
      if s.defr.suspended then s.writeC .phase (1500 - elapsed) else s.restartC .phase (1500 - elapsed)
    else endHeat .timedEnd s

/-- DEFROST holds the path and the sequencer is not suspended. -/
def State.defrostHolding (s : State) : Bool := decide (s.arb.holder = .defrost) && !s.defr.suspended

/-- A COIL sample in HEAT (R126); while HEATER_OPEN is asserted or the sequencer is suspended there is no
comparison and term_count is 0 (R126, R135, log 15). -/
def coilInHeat (state : ChanState) (tf : Option Int) (s : State) : State :=
  match state with
  | .lost => coilLossInHeat (s.onDefr fun d => { d with termCount := 0 })
  | _ =>
    let atTerm := match tf with
      | some t => decide (s.eff .termTemp ≤ t)
      | none => false
    if s.defrostHolding && !s.level .heaterOpen && atTerm then
      let s := s.onDefr fun d => { d with termCount := d.termCount + 1 }
      if 3 ≤ s.defr.termCount then endHeat .termination s else s
    else s.onDefr fun d => { d with termCount := 0 }

/-- The coil has come down to FAN_DELAY_TEMP (R131). -/
def State.coilRecovered (s : State) (state : ChanState) (tf : Option Int) : Bool :=
  match state, tf with
  | .lost, _ => false
  | .valid, some t => decide (t ≤ s.eff .fanDelayTemp)
  | .suspect, some t => decide (t ≤ s.eff .fanDelayTemp)
  | .valid, none => false
  | .suspect, none => false

/-! ### Compressor reports (R124, R125) -/

/-- What a report of the compressor's state does to the phase: its leaving RUNNING ends STOP_WAIT and LOCKOUT ends
PRE_CHILL, unless the sequencer is suspended (R135). -/
def followComp (s : State) : State :=
  if s.defr.suspended then s
  else match s.defr.phase with
    | .stopWait => if s.compRunning then s else endStopWait s
    | .preChill => if s.defr.compState = .lockout then enterStopWait (s.stopC .phase) else s
    | .idle => s
    | .pending => s
    | .heat => s
    | .drip => s
    | .recover => s

/-! ### Suspension (R135, R136) -/

/-- A SERVICE claim takes the path from DEFROST (R135). -/
def suspendDefrost (s : State) : State :=
  (s.onDefr fun d => { d with suspended := true, termCount := 0 }).stopC .phase

/-- The DEFROST frame is popped: the phase resumes (R136). -/
def resumeDefrost (s : State) : State :=
  let s := refreshHeater (setHolder .defrost (s.onDefr fun d => { d with suspended := false }))
  match s.defr.phase with
  | .preChill =>
    if s.defr.compState = .lockout then enterStopWait (s.stopC .phase) else (givePreChillOutputs s).startC .phase
  | .stopWait => enterStopWait s
  | .heat => if s.compRunning then enterStopWait (s.onDefr fun d => { d with resumeHeat := true }) else continueHeat s
  | .drip => (giveStopOutputs s).startC .phase
  | .recover => (giveRecoverOutputs (giveOpenings 0 0 s)).startC .phase
  | .idle => s
  | .pending => s

/-! ### Heater faults (R133) -/

/-- One run of R133: a round that supports a change counts, another sets the run to 0, and at ten the level
changes and the run is 0. Answers the new run and whether the level changes. -/
def faultRun (supports : Bool) (run : Nat) : Nat × Bool :=
  if supports then if 10 ≤ run + 1 then (0, true) else (run + 1, false) else (0, false)

/-- A round's HEATER_SENSE level, HEATER_OPEN's row of R133. -/
def heaterOpenRound (sense : Bool) (s : State) : State :=
  let drive := s.defr.heaterDrive
  let open_ := s.level .heaterOpen
  let (run, change) := faultRun (drive && (sense == open_)) s.defr.openRun
  let s := s.onDefr fun d => { d with openRun := run }
  if change then s.setLevel .heaterOpen (!open_) else s

/-- A round's HEATER_SENSE level, HEATER_STUCK's row of R133, before the check that a negation causes. -/
def heaterStuckRound (sense : Bool) (s : State) : State :=
  let drive := s.defr.heaterDrive
  let stuck := s.level .heaterStuck
  let (run, change) := faultRun (!drive && (sense != stuck)) s.defr.stuckRun
  let s := s.onDefr fun d => { d with stuckRun := run }
  if change then refreshHeater (s.setLevel .heaterStuck (!stuck)) else s

end Sys2Proof.Machine
end

