-- ==== Sys2Proof/Machine/Path.lean ====
section
/-! DEFINITION. Who takes and leaves the air path: holder reports, claims, releases and pops, the reports of
calling, the due check and the ends of the defrost (03_cooling_allocation.md R50, R58, R66 to R75;
06_defrost.md R120 to R134; 07_doors.md R143, R144, R148). -/

namespace Sys2Proof.Machine

/-! ### Holder reports (R50) -/

/-- The Door Monitor follows a suspension and a resume of its pause (R148). -/
def tellDoors (s : State) : State :=
  match s.doors.pause, s.arb.holder with
  | .held, .service => { s with doors := { s.doors with pause := .suspended } }
  | .suspended, .door => { s with doors := { s.doors with pause := .held } }
  | _, _ => s

def evalAllAlarms (s : State) : State :=
  evalAlarm .freeze .change (evalAlarm .chill .change (evalAlarm .fresh .change s))

/-- The Condition Unit takes SERVICE_HOLD and each change of whether DEFROST holds (R50, R167). -/
def tellConditions (s : State) : State :=
  let holds := decide (s.arb.holder = .defrost)
  let s := s.setLevel .serviceHold (decide (s.arb.holder = .service))
  if s.cond.defrostHolds = holds then s
  else evalAllAlarms { s with cond := { s.cond with defrostHolds := holds } }

/-- The holder that results, told to the blocks that follow it (R50, R132). -/
def tellHolder (s : State) : State := tellConditions (tellDoors (refreshHeater s))

/-! ### Claims taken (R66, R67) -/

/-- The claim of the door pause is taken (R143). -/
def claimDoor (s : State) : State :=
  let s := setHolder .door (pushFrame (s.effN (.saveMask .door)) s)
  let s := { s with doors := { s.doors with pause := .held } }
  let s := (s.restartC .pause (s.effN .doorPauseMax)).stopC .settle
  tellHolder (giveDoorOutputs s)

/-- The claim of the defrost is taken, and its first phase is entered (R122, R123). -/
def claimDefrost (s : State) : State :=
  let s := setHolder .defrost (pushFrame (s.effN (.saveMask .defrost)) s)
  tellHolder (enterFirstPhase (s.setLevel .defrostActive true))

/-- The claim of the service hold is taken (R66, R75, R135). -/
def claimService (s : State) : State :=
  let overDefrost := decide (s.arb.holder = .defrost)
  let s := setHolder .service (pushFrame (s.effN (.saveMask .service)) s)
  let s := if overDefrost then suspendDefrost s else s
  tellHolder (giveServiceOutputs (s.restartC .svc (s.effN .svcMax)))

/-- A DEFERRED door pause claims at a report that finds the path free (R144). -/
def State.doorReclaims (s : State) : Bool := decide (s.doors.pause = .deferred) && s.anyOpen && !s.doors.pauseSpent

/-- A PENDING sequencer claims at a report that finds the path free (R122). -/
def State.defrostReclaims (s : State) : Bool := decide (s.defr.phase = .pending)

/-- The holder report after an event of the Arbiter, with the claims it leads to (R50). Where both a door pause and
a defrost claim, which is taken first is free (R144, log 8). -/
def report (s : State) : State :=
  let s := tellHolder s
  if s.arb.holder.isFree then
    match s.doorReclaims, s.defrostReclaims with
    | false, false => s
    | true, false => claimDoor s
    | false, true => claimDefrost s
    | true, true =>
      let doorFirst := Config.doorClaimsFirst s.own.choices
      let s := { s with own := { s.own with choices := s.own.choices + 1 } }
      if doorFirst then claimDoor s else claimDefrost s
  else s

/-! ### Releases (R70 to R72) -/

/-- A holder releases the path: the stack is worked on from the top, or arbitration runs (R70). -/
def releasePath (s : State) : State :=
  let s := setHolder .nobody s
  let s := match s.arb.stack with
    | [] => arbitrate s
    | .slot mask z phase fixed remaining snapshot :: _ => popSlot mask z phase fixed remaining snapshot (dropTop s)
    | .door _ :: _ => giveDoorOutputs (setHolder .door (dropTop s))
    | .defrost _ :: _ => resumeDefrost (dropTop s)
  report s

/-- The service hold ends (R75): the service heater command lapses (R113) and the path is released. -/
def endService (s : State) : State := releasePath (s.onDefr fun d => { d with svcHeater := false })

/-! ### Calling (R17, R54, R58) -/

/-- A zone has begun to call: arbitration in IDLE. -/
def callingBegan (s : State) : State :=
  match s.arb.holder with
  | .nobody => report (arbitrate s)
  | .slot _ => s
  | .door => s
  | .defrost => s
  | .service => s

/-- A zone has stopped calling: its own slot ends in EXTEND (R54); in SWITCHING it does not (R52). -/
def callingStopped (z : Zone) (s : State) : State :=
  match s.arb.holder with
  | .slot r => if r.zone = z ∧ r.phase = .extend ∧ r.serving = true then report (endHeldSlot z false s) else s
  | .nobody => s
  | .door => s
  | .defrost => s
  | .service => s

/-- The Zone Table puts calling of a zone to `b` and reports a change to the Arbiter (R17). -/
def setCalling (z : Zone) (b : Bool) (s : State) : State :=
  if (s.zone z).calling = b then s
  else
    let s := s.onZone z fun r => { r with calling := b }
    if b then callingBegan s else callingStopped z s

/-! ### Slot events (R53, R56, R73) -/

/-- SLOT has expired (R53, R54, R55). -/
def onSlotExpiry (s : State) : State :=
  match s.arb.holder with
  | .slot r =>
    match r.phase with
    | .extend => report (endHeldSlot r.zone true s)
    | .min =>
      if r.fixed then report (endHeldSlot r.zone true s)
      else if !(s.zone r.zone).calling then report (endHeldSlot r.zone false s)
      else if s.extendLength r.zone = 0 then report (endHeldSlot r.zone true s)
      else (setHolder (.slot { r with phase := .extend }) s).restartC .slot (s.extendLength r.zone)
  | .nobody => s
  | .door => s
  | .defrost => s
  | .service => s

/-- The zone's slot ends because it has entered OFF: held, or suspended on the stack (R9, R56, R73). -/
def endSlotAtOff (z : Zone) (s : State) : State :=
  if s.arb.holder.slotZone? = some z then report (endHeldSlot z false s)
  else if s.arb.stack.any (SuspFrame.isSlotOf z) then endSlot z false (removeFrames (SuspFrame.isSlotOf z) s)
  else s

/-- The Air Path Controller reports a completion (R52, R86). -/
def onCompletion (s : State) : State :=
  match s.arb.holder with
  | .slot r => if !r.serving && s.bothSettled then report (endSwitching s) else s
  | .nobody => s
  | .door => s
  | .defrost => s
  | .service => s

/-- The PLAN_COMMIT order (R63). -/
def commitPlan (s : State) : State :=
  match s.arb.holder with
  | .nobody => report (giveIdleOutputs (applyPlan s))
  | .slot _ => s.onArb fun a => { a with commitPending := true }
  | .door => s.onArb fun a => { a with commitPending := true }
  | .defrost => s.onArb fun a => { a with commitPending := true }
  | .service => s.onArb fun a => { a with commitPending := true }

/-! ### The defrost's claim and ends (R120 to R122, R131, R134) -/

/-- PENDING is entered, and the path claimed at once; a refused claim leaves PENDING (R122). -/
def enterPending (s : State) : State :=
  let s := setPhase .pending s
  if s.arb.holder.isFree then claimDefrost s else s

/-- The due check (R120). -/
def dueCheck (s : State) : State :=
  if s.defr.phase = .idle ∧ s.defrostDue = true ∧ s.level .heaterStuck = false then enterPending s else s

/-- The sequencer's use of the path ends: DEFROST_ACTIVE deasserts, and the path is released, or the frame removed
if it lies on the stack (R73, R131, R134). -/
def leaveDefrost (s : State) : State :=
  let suspended := s.defr.suspended
  let s := (setPhase .idle (s.onDefr fun d => { d with suspended := false })).setLevel .defrostActive false
  if suspended then removeFrames SuspFrame.isDefrost s
  else if s.arb.holder = .defrost then releasePath s else s

/-- RECOVER ends (R131). -/
def endRecover (s : State) : State :=
  leaveDefrost (((s.stopC .phase).clearC .gap).raise .defrostDone)

/-- A COIL sample event reaches the Defrost Sequencer (R43, R126, R131). -/
def onCoilSample (state : ChanState) (tf : Option Int) (s : State) : State :=
  let s := s.onDefr fun d => { d with coilLost := decide (state = .lost) }
  match s.defr.phase with
  | .heat => coilInHeat state tf s
  | .recover => if s.defrostHolding && s.coilRecovered state tf then endRecover s else s
  | .idle => s
  | .pending => s
  | .preChill => s
  | .stopWait => s
  | .drip => s

/-- PHASE has expired (R124, R127, R130, R131). -/
def onPhaseExpiry (s : State) : State :=
  match s.defr.phase with
  | .preChill => enterStopWait s
  | .heat => heatTimedOut s
  | .drip => enterRecover s
  | .recover => endRecover s
  | .idle => s
  | .pending => s
  | .stopWait => s

/-- An addition reaches F (R119); a change of F is a due check (R120). -/
def growFrost (n : Nat) (s : State) : State :=
  let s' := addFrost n s
  if s'.defr.frost = s.defr.frost then s' else dueCheck s'

/-- A carry of RUNSEC (R119): 1, or 2 with the ambient above 320 dC, is added to F. -/
def onRunsecCarry (s : State) : State := growFrost (if 320 < s.defr.ambient then 2 else 1) s

/-- A round's HEATER_SENSE level (R44, R133); the negation of HEATER_STUCK is a due check (R120). -/
def onHeaterSenseRound (sense : Bool) (s : State) : State :=
  let was := s.level .heaterStuck
  let s := heaterStuckRound sense (heaterOpenRound sense s)
  if was && !s.level .heaterStuck then dueCheck s else s

/-! ### Compressor events with the phases that follow them -/

def onRamp (s : State) : State := followComp (onRampExpiry s)
def onGuard (s : State) : State := followComp (onGuardExpiry s)
def onCompFlt (asserted : Bool) (s : State) : State := followComp (onCompFltRound asserted s)

end Sys2Proof.Machine
end

