-- ==== Sys2Proof/Machine/Zones.lean ====
section
/-! DEFINITION. The Zone Table: sample events, debt, hysteresis, substitution, mode changes, door credits
(01_compartments_and_thermal_debt.md). -/

namespace Sys2Proof.Machine

/-! ### Debt and hysteresis (R13, R14) -/

/-- The new debt from the error Tf − S_eff (R13). -/
def debtAfter (debt : Nat) (tf sEff : Int) : Nat :=
  (limited 0 60000 ((debt : Int) + limited (-100) 100 (tf - sEff))).toNat

/-- What the hysteresis decides (R14). -/
inductive Band where
  | begin_ | stop | keep
  deriving DecidableEq, Repr

def bandOf (calling : Bool) (tf sEff hOn hOff : Int) : Band :=
  if calling then if tf ≤ sEff - hOff then .stop else .keep
  else if sEff + hOn ≤ tf then .begin_ else .keep

/-- A trusted sample of a zone with no substitution: debt, hysteresis, urgency (R13, R14, R15), then the report of a
change of calling (R17). A deassert zeroes D and arms the warm alarm (R26). -/
def trustedSample (z : Zone) (tf : Int) (s : State) : State :=
  let r := s.zone z
  let debt := debtAfter r.debt tf (s.sEff z)
  match bandOf r.calling tf (s.sEff z) (s.eff (.hOn z)) (s.eff (.hOff z)) with
  | .keep => (s.onZone z fun r => { r with debt := debt }).recomputeU z
  | .begin_ => setCalling z true ((s.onZone z fun r => { r with debt := debt }).recomputeU z)
  | .stop => setCalling z false ((s.onZone z fun r => { r with debt := 0, warmArmed := true }).recomputeU z)

/-! ### Substitution (R18 to R23) -/

/-- The policy as a substitution phase (R19, R186). -/
def policyOf (v : Int) : Subst := if v = 0 then .forceCall else if v = 1 then .timed else .ignore

/-- The WAIT counter stands at or above LOST_PERIOD (R21). -/
def State.timedWaited (s : State) (z : Zone) : Bool := decide (s.effN .lostPeriod ≤ s.waited z)

/-- A zone enters a policy, with the policy's entry effects (R19 to R22). -/
def enterPolicy (z : Zone) (p : Subst) (s : State) : State :=
  match p with
  | .forceCall => setCalling z true ((s.onZone z fun r => { r with subst := .forceCall }).recomputeU z)
  | .timed =>
    let s := (s.onZone z fun r => { r with subst := .timed }).recomputeU z
    if s.slotOpen z then s else setCalling z (s.timedWaited z) s
  | .ignore => setCalling z false (s.onZone z fun r => { r with subst := .ignore, debt := 0, urgency := 0 })
  | .absent => s
  | .holdWindow => s

/-- A LOST sample of a zone in substitution under the policy in force (R20 to R22): a TIMED zone with no slot open
begins to call when its WAIT count reaches LOST_PERIOD. -/
def policySample (z : Zone) (s : State) : State :=
  let r := s.zone z
  if r.subst = .timed ∧ r.calling = false ∧ s.slotOpen z = false ∧ s.timedWaited z = true then setCalling z true s else s

/-- A LOST sample event (R12, R19). Two LOSS_POLICY writes between two samples that cancel each other are no change: the
model's choice (log 31). -/
def lostSample (z : Zone) (lost : Nat) (s : State) : State :=
  let policy := policyOf (s.eff (.lossPolicy z))
  match (s.zone z).subst with
  | .absent | .holdWindow =>
    if lost < s.effN .lossHold then s.onZone z fun r => { r with subst := .holdWindow } else enterPolicy z policy s
  | old => if old = policy then policySample z s else enterPolicy z policy s

/-- A VALID sample event (R12, R23); one that carries no temperature makes no comparison (R37, log 16). -/
def validSample (z : Zone) (tf : Option Int) (s : State) : State :=
  match (s.zone z).subst, tf with
  | .absent, some t => trustedSample z t s
  | .holdWindow, some t => trustedSample z t (s.onZone z fun r => { r with subst := .absent })
  | .absent, none => s
  | .holdWindow, none => s.onZone z fun r => { r with subst := .absent }
  | _, _ => (s.onZone z fun r => { r with subst := .absent, debt := 0 }).recomputeU z

/-- The subst field of an OFF zone follows the channel (R9, R12). -/
def offSubst (old : Subst) (state : ChanState) (lost lossHold : Nat) (policy : Subst) : Subst :=
  match state with
  | .valid => .absent
  | .suspect => old
  | .lost =>
    match old with
    | .absent | .holdWindow => if lost < lossHold then .holdWindow else policy
    | _ => policy

/-- The sample event of a zone's channel reaches the Zone Table (R12), then the Condition Unit (R29, R167), which
evaluates the zone once, also where the event changes subst or warm_armed: the model's choice (log 33). -/
def zoneSample (z : Zone) (s : State) : State :=
  let c := s.channel (zoneChannel z)
  let s :=
    if s.mode z = .off then
      s.onZone z fun r =>
        { r with subst := offSubst r.subst c.state c.lost (s.effN .lossHold) (policyOf (s.eff (.lossPolicy z))) }
    else match c.state with
      | .valid => validSample z c.tf s
      | .suspect => s
      | .lost => lostSample z c.lost s
  alarmSample z s

/-! ### Modes (R6 to R11) -/

/-- The zone's BOOST counter is started with BOOST_LEN (R7). -/
def startBoost (z : Zone) (s : State) : State := s.restartC (.boost z) (s.effN .boostLen)

/-- Entering BOOST from NORMAL or HOLIDAY (R7): the zone calls at once, but in IGNORE it does not, and in TIMED
calling stays with the TIMED rule. -/
def enterBoost (z : Zone) (s : State) : State :=
  let s := startBoost z s
  match (s.zone z).subst with
  | .ignore => s
  | .timed => s
  | .absent => setCalling z true s
  | .holdWindow => setCalling z true s
  | .forceCall => setCalling z true s

/-- Entering OFF (R9): calling no, D and U 0, the alarms cleared (R168), an open slot ended. -/
def enterOff (z : Zone) (s : State) : State :=
  let s := s.onZone z fun r => { r with calling := false, debt := 0, urgency := 0 }
  endSlotAtOff z (clearAlarms z s)

/-- Leaving OFF for NORMAL or BOOST (R10). -/
def leaveOff (z : Zone) (new : Mode) (s : State) : State :=
  let s := (s.onZone z fun r => { r with debt := 0 }).recomputeU z
  let s := if new = .boost then startBoost z s else s
  match (s.zone z).subst with
  | .absent => if new = .boost then setCalling z true s else setCalling z false s
  | .holdWindow => if new = .boost then setCalling z true s else setCalling z false s
  | .forceCall => setCalling z true s
  | .timed => setCalling z (s.timedWaited z) s
  | .ignore => setCalling z false s

/-- The effects of a change of mode, the new mode being stored already (R6). -/
def onModeChange (z : Zone) (old new : Mode) (s : State) : State :=
  let s := (s.onZone z fun r => { r with warmArmed := false }).recomputeU z
  let s := if old = .boost then s.stopC (.boost z) else s
  let s := evalAlarm z .change s
  if new = .off then enterOff z s
  else if old = .off then leaveOff z new s
  else if new = .boost then enterBoost z s
  else s

/-- The zone's BOOST counter has expired (R8): the MODE item returns to following the profile. -/
def onBoostExpiry (z : Zone) (s : State) : State :=
  let old := s.mode z
  let s := { s with settings := s.settings.write (.mode z) none }
  if old = s.mode z then s else onModeChange z old (s.mode z) s

/-! ### Setting writes that reach a record (R15, R16) -/

/-- A changed setpoint disarms the warm alarm (R16, R26), and the alarms are evaluated; not in HOLIDAY with the alarm
disarmed, where neither S_eff nor warm_armed changes (R5, R167). -/
def onSetpointChange (z : Zone) (s : State) : State :=
  if s.mode z = .holiday ∧ (s.zone z).warmArmed = false then s
  else evalAlarm z .change (s.onZone z fun r => { r with warmArmed := false })

/-- A changed U_LOST reaches the zones in FORCE_CALL and TIMED (R15). -/
def uLostReaches (z : Zone) (s : State) : State :=
  if (s.zone z).subst = .forceCall ∨ (s.zone z).subst = .timed then s.recomputeU z else s

@[inherit_doc uLostReaches]
def onULostChange (s : State) : State := uLostReaches .freeze (uLostReaches .chill (uLostReaches .fresh s))

/-! ### Door credits (R24) -/

def takeCredit (z : Zone) (credit : Nat) (s : State) : State :=
  if s.mode z = .off then s
  else match (s.zone z).subst with
    | .forceCall => s
    | .timed => s
    | .ignore => s
    | .absent => (s.onZone z fun r => { r with debt := limitedN 0 60000 (r.debt + credit) }).recomputeU z
    | .holdWindow => (s.onZone z fun r => { r with debt := limitedN 0 60000 (r.debt + credit) }).recomputeU z

end Sys2Proof.Machine
end

