-- ==== Sys2Proof/Machine/Doors.lean ====
section
/-! DEFINITION. The Door Monitor: openings, closes, the door pause, widths and ajar (07_doors.md). -/

namespace Sys2Proof.Machine

def setPause (p : PauseState) (s : State) : State := { s with doors := { s.doors with pause := p } }
def setPauseSpent (b : Bool) (s : State) : State := { s with doors := { s.doors with pauseSpent := b } }

/-- A pause is live while HELD or SUSPENDED (R140). -/
def PauseState.live : PauseState → Bool
  | .held => true
  | .suspended => true
  | .none => false
  | .deferred => false

/-- Every door but this one is CLOSED (R141). -/
def State.othersClosed (s : State) (d : Door) : Bool := allDoors.all fun e => decide (e = d) || !(s.door e).isOpen

/-- The door pause is claimed, and taken or refused by the holder it finds (R66, R143). With DOOR as the holder no
claim is made (R66). -/
def claimPause (s : State) : State :=
  match s.arb.holder with
  | .nobody => claimDoor s
  | .slot _ => claimDoor s
  | .defrost => setPause .deferred s
  | .service => setPause .deferred s
  | .door => s

/-- An opening of a door (R141). -/
def onOpening (d : Door) (s : State) : State :=
  let s := s.onDoor d fun r =>
    { r with isOpen := true, raw := true, differs := 0, openCount := (r.openCount + 1) % 65536 }
  if s.doors.pause.live && (s.counter .settle).run then s.stopC .settle
  else if s.othersClosed d && decide (s.doors.pause = .none) && !s.doors.pauseSpent then claimPause s
  else s

/-- The debt credit of a width (R145). -/
def creditOf (width gain minOpen : Nat) : Nat := if minOpen ≤ width then limitedN 0 6000 (width * gain) else 0

/-- The frost increment of a width (R145). -/
def frostOf (d : Door) (width : Nat) : Nat :=
  match d with
  | .freezeDrawer => width / 10
  | .freshLeft => width / 30
  | .freshRight => width / 30
  | .chillDrawer => width / 30

/-- DOOR_AJAR of a door changes: in its record and in the Condition Unit (R146). -/
def setAjar (d : Door) (b : Bool) (s : State) : State := (s.onDoor d fun r => { r with ajar := b }).setLevel (.doorAjar d) b

/-- The pause at the close that leaves all doors CLOSED (R142). -/
def pauseAtLastClose (s : State) : State :=
  let s := match s.doors.pause with
    | .held => s.restartC .settle 5
    | .suspended => s.restartC .settle 5
    | .deferred => setPause .none s
    | .none => s
  setPauseSpent false s

/-- A close of a door (R142). -/
def onClose (d : Door) (s : State) : State :=
  let s := s.onCounter (.door d) Counter.capture
  let c := s.counter (.door d)
  let width := c.result
  let s := s.onDoor d fun r =>
    { r with isOpen := false, raw := false, differs := 0, lastWidth := width, widthOverflow := c.resultOverflow }
  let s := setAjar d false s
  let s := takeCredit (doorZone d) (creditOf width (s.effN .recoveryGain) (s.effN .recoveryMinOpen)) s
  let s := growFrost (frostOf d width) s
  if s.anyOpen then s else pauseAtLastClose s

/-- The comparison with AJAR_TIME (R146). -/
def checkAjar (d : Door) (s : State) : State :=
  if (s.door d).isOpen && !(s.door d).ajar && decide (s.effN .ajarTime ≤ (s.counter (.door d)).count) then
    setAjar d true s
  else s

/-- The effective AJAR_TIME has changed (R146). -/
def onAjarTimeChange (s : State) : State :=
  checkAjar .freezeDrawer (checkAjar .chillDrawer (checkAjar .freshRight (checkAjar .freshLeft s)))

/-- The end of the pause: the path is released, or the DOOR frame removed (R73, R147, R148). -/
def endPause (s : State) : State :=
  match s.doors.pause with
  | .held => if s.arb.holder = .door then releasePath (setPause .none s) else setPause .none s
  | .suspended => setPause .none (removeFrames SuspFrame.isDoor s)
  | .none => setPause .none s
  | .deferred => setPause .none s

/-- SETTLE has expired (R147). -/
def onSettleExpiry (s : State) : State := endPause (setPauseSpent false (s.stopC .pause))

/-- PAUSE has expired (R148). -/
def onPauseExpiry (s : State) : State := endPause (setPauseSpent s.anyOpen (s.stopC .settle))

end Sys2Proof.Machine
end

