-- ==== Sys2Proof/Machine/Scanner.lean ====
section
/-! DEFINITION. The Sensor Scanner: judging, conversion, filter, channel states, curves and the round completion
(02_temperature_measurement.md). -/

namespace Sys2Proof.Machine

/-! ### Conversion (R30 to R32) -/

/-- The average code of a channel's eight codes (R30). -/
def averageCode (codes : List Nat) : Nat := (codes.sum + 4) / 8

/-- OPEN or SHORT: tested on the code alone (R31). -/
def codeOutOfRange (c : Nat) : Bool := decide (4064 ≤ c) || decide (c ≤ 31)

/-- Conversion of an in-range code through a curve, rounding an exact half upward (R32). -/
def convert (curve : List Int) (c : Nat) : Int :=
  let k := c / 256
  let f : Int := ((c - 256 * k : Nat) : Int)
  let t0 := curve.getD k 0
  let t1 := curve.getD (k + 1) 0
  limited (-500) 700 (t0 + ((t1 - t0) * f + 128) / 256)

/-! ### Filter (R33) -/

def filterInit (t : Int) (r : ChannelRec) : ChannelRec := { r with acc := some (t * 2 ^ r.shift), tf := some t }

/-- An accepted sample: an initialisation while the channel is pending, else an update (R33, R37). -/
def filterTake (t : Int) (r : ChannelRec) : ChannelRec :=
  match r.acc, r.tf with
  | some a, some _ =>
    let a' := a - a / 2 ^ r.shift + t
    { r with acc := some a', tf := some (a' / 2 ^ r.shift) }
  | _, _ => filterInit t r

/-- A changed FILTER_SHIFT is taken before the round's sample is judged (R39). Two writes between two rounds that
cancel each other are no change, and A keeps its fraction: the model's choice (log 31). -/
def takeShift (shift : Nat) (r : ChannelRec) : ChannelRec :=
  if shift = r.shift then r
  else match r.tf with
    | some t => { r with shift := shift, acc := some (t * 2 ^ shift) }
    | none => { r with shift := shift }

/-! ### Channel states (R31, R34 to R37) -/

/-- A round's sample of a channel: no temperature when the code is out of range (R31). -/
def sampleOf (curve : List Int) (c : Nat) : Option Int := if codeOutOfRange c then none else some (convert curve c)

/-- The STEP test fails: the sample differs from Tf by more than 100 dC (R31); not tested while pending (R37). -/
def stepTooFar (r : ChannelRec) (t : Int) : Bool :=
  match r.tf with
  | some tf => decide (100 < t - tf) || decide (100 < tf - t)
  | none => false

/-- A bad sample in VALID or SUSPECT (R34, R35): the fifth in a row loses the channel. -/
def badSample (r : ChannelRec) : ChannelRec :=
  match r.state with
  | .valid => { r with state := .suspect, bad := 1 }
  | _ =>
    if 5 ≤ r.bad + 1 then { r with state := .lost, bad := 5, good := 0, lost := 0 } else { r with bad := r.bad + 1 }

/-- A good sample in VALID or SUSPECT (R34, R35). -/
def goodSample (t : Int) (r : ChannelRec) : ChannelRec := filterTake t { r with state := .valid, bad := 0 }

/-- A round in LOST (R36): the fifth in-range sample in a row returns the channel. -/
def lostRound (sample : Option Int) (r : ChannelRec) : ChannelRec :=
  match sample with
  | none => { r with good := 0, lost := sat16 (r.lost + 1) }
  | some t =>
    if 5 ≤ r.good + 1 then filterInit t { r with state := .valid, bad := 0, good := 0, lost := 0 }
    else { r with good := r.good + 1, lost := sat16 (r.lost + 1) }

/-- One round of a channel (R31, R34 to R37, R39). -/
def channelRound (curve : List Int) (shift code : Nat) (r : ChannelRec) : ChannelRec :=
  let r := takeShift shift r
  let sample := sampleOf curve code
  match r.state with
  | .lost => lostRound sample r
  | _ =>
    match sample with
    | none => badSample r
    | some t => if stepTooFar r t then badSample r else goodSample t r

/-! ### Return lines (R44) -/

/-- A line's level for the round: asserted in at least 5 of the samples. -/
def majority (samples : List Bool) : Bool := decide (5 ≤ (samples.filter fun b => b).length)

/-! ### Round completion (R30, R38, R44) -/

/-- A channel's record is updated for the round, and its SENSOR_LOST follows its state (R35, R36). -/
def updateChannel (sets : List SampleSet) (c : Channel) (s : State) : State :=
  let code := averageCode (sets.map fun x => x.codes.get c)
  let r := channelRound s.scanner.active (s.effN (.filterShift c)) code (s.channel c)
  let s := { s with scanner := { s.scanner with chan := s.scanner.chan.set c r } }
  s.setLevel (.sensorLost c) (decide (r.state = .lost))

def updateChannels (sets : List SampleSet) (s : State) : State :=
  updateChannel sets .ambient (updateChannel sets .coil
    (updateChannel sets .freeze (updateChannel sets .chill (updateChannel sets .fresh s))))

/-- The AMBIENT sample event reaches the Compressor Controller and the Defrost Sequencer (R42, R99, R118). -/
def onAmbientSample (s : State) : State :=
  let a := s.ambientInUse
  (s.onComp fun c => { c with ambient := a }).onDefr fun d => { d with ambient := a }

/-- The COIL sample event (R43). -/
def coilSample (s : State) : State := onCoilSample (s.channel .coil).state (s.channel .coil).tf s

/-- The round completion (R30): every channel's record first, then the line levels to their owners, then the sample
events in channel order (R38, R44, log 10). -/
def onRound (sets : List SampleSet) (s : State) : State :=
  let sense := majority (sets.map fun x => x.heaterSense)
  let flt := majority (sets.map fun x => x.compFlt)
  let s := updateChannels sets s
  let s := { s with scanner := { s.scanner with heaterSense := some sense, compFlt := some flt, sets := [] } }
  let s := onCompFlt flt (onHeaterSenseRound sense s)
  let s := zoneSample .freeze (zoneSample .chill (zoneSample .fresh s))
  onAmbientSample (coilSample s)

/-! ### Curves (R40, R41) -/

/-- The staged curve with the values written from the start index on (R40). -/
def writeCurve (start : Nat) (values curve : List Int) : List Int :=
  curve.take start ++ values ++ curve.drop (start + values.length)

/-- Strictly rising: all successive differences greater than 0. -/
def risesStrictly : List Int → Bool
  | a :: b :: rest => decide (a < b) && risesStrictly (b :: rest)
  | _ => true

/-- Strictly falling: all successive differences less than 0. -/
def fallsStrictly : List Int → Bool
  | a :: b :: rest => decide (b < a) && fallsStrictly (b :: rest)
  | _ => true

/-- The staged curve is valid (R41). -/
def curveValid (curve : List Int) : Bool :=
  curve.all (fun t => decide (-500 ≤ t) && decide (t ≤ 700)) && (risesStrictly curve || fallsStrictly curve)

/-- The valid staged curve becomes the active curve (R41). -/
def commitCurve (s : State) : State :=
  { s with scanner := { s.scanner with active := s.scanner.staged, loaded := true } }

end Sys2Proof.Machine
end

