-- ==== Sys2Proof/Machine/SettingsStore.lean ====
section
/-! DEFINITION. The Settings Store: what a SET stores and answers, how a changed effective value reaches its owner,
profile changes, and the read-only items (11_settings_and_profiles.md). -/

namespace Sys2Proof.Machine

/-- The status byte of a reply (R181). -/
inductive Status where
  | ok | clamped | unknownKind | badLength | unknownItem | readOnly | busy | notApplicable
  deriving DecidableEq, Repr

/-! ### A changed value reaches its owner (R182) -/

/-- SLOT is RUNNING the MIN phase of an ordinary slot, which SLOT_MIN governs, or of a fixed slot, which LOST_SERVE
governs (R51, R182, log 12). -/
def State.slotTimes (s : State) (fixed : Bool) : Bool :=
  match s.arb.holder with
  | .slot r => decide (r.phase = .min) && decide (r.fixed = fixed)
  | .nobody => false
  | .door => false
  | .defrost => false
  | .service => false

/-- The length a change of an item writes into a RUNNING counter (R161, R182): which counter, and what. -/
def governed (i : Item) (s : State) : State :=
  match i with
  | .slotMin => if s.slotTimes false then s.writeRunning .slot (s.effN .slotMin) else s
  | .lostServe => if s.slotTimes true then s.writeRunning .slot (s.effN .lostServe) else s
  | .svcMax => s.writeRunning .svc (s.effN .svcMax)
  | .minOn => if s.comp.guard = .minOn then s.writeRunning .guard (s.effN .minOn) else s
  | .minOff => if s.comp.guard = .minOff then s.writeRunning .guard (s.effN .minOff) else s
  | .heatMax => if s.defr.phase = .heat then s.writeRunning .phase (s.heatBudgetNow s.defr.coilTimed) else s
  | .dripTime => if s.defr.phase = .drip then s.writeRunning .phase (s.effN .dripTime) else s
  | .prechillTime => if s.defr.phase = .preChill then s.writeRunning .phase (s.effN .prechillTime) else s
  | .doorPauseMax => s.writeRunning .pause (s.effN .doorPauseMax)
  | .boostLen =>
    ((s.writeRunning (.boost .fresh) (s.effN .boostLen)).writeRunning (.boost .chill) (s.effN .boostLen)).writeRunning
      (.boost .freeze) (s.effN .boostLen)
  | .alarmDelay =>
    ((s.writeRunning (.alm .fresh) s.alarmLength).writeRunning (.alm .chill) s.alarmLength).writeRunning (.alm .freeze)
      s.alarmLength
  | _ => s

/-- A changed AMB_REF reaches both users of the ambient temperature while AMBIENT is LOST or pending (R42, log 14). -/
def onAmbRefChange (s : State) : State :=
  let c := s.channel .ambient
  if c.state = .lost ∨ c.tf = none then onAmbientSample s else s

/-- A change of an item's effective value is handed to its owner (R182). -/
def handChange (i : Item) (old : Int) (s : State) : State :=
  match i with
  | .setpoint z => onSetpointChange z s
  | .mode z => onModeChange z (Mode.ofCode old) (s.mode z) s
  | .weight z => s.recomputeU z
  | .uLost => onULostChange s
  | .alarmHi z => evalAlarm z .change s
  | .alarmLo z => evalAlarm z .change s
  | .alarmDelay => evalAllAlarms (governed .alarmDelay s)
  | .nMin => onLimitChange s
  | .nMax => onLimitChange s
  | .ambRef => onAmbRefChange s
  | .fDue => dueCheck s
  | .minGap => dueCheck s
  | .maxGap => dueCheck s
  | .ajarTime => onAjarTimeChange s
  | i => governed i s

/-- The settings become `t` and, if the effective value of `i` changes, its owner is told (R182). -/
def storeItem (i : Item) (v : Option Int) (s : State) : State :=
  let old := s.eff i
  let s' := { s with settings := s.settings.write i v }
  if s'.eff i = old then s' else handChange i old s'

/-! ### SET (R183, R184) -/

/-- What a SET of an item would store: none where it is refused (R183, R184). `some none` is FOLLOW. -/
def settleValue (s : State) (i : Item) (v : Int) : Option (Option Int) :=
  let stored : Option Int :=
    if v = -32768 then none
    else match i with
      | .nMin => some (limited i.range.1 i.range.2 v / 30 * 30)
      | .nMax => some (limited i.range.1 i.range.2 v / 30 * 30)
      | _ => some (limited i.range.1 i.range.2 v)
  let result := stored.getD (i.default s.settings.profile)
  match i with
  | .mode z =>
    if v = -32768 then some none
    else if v < 0 ∨ 3 < v then none
    else if (v = 3 ∧ z ≠ .chill) ∨ (v = 2 ∧ z ≠ .fresh) then none
    else some (some v)
  | .lossPolicy _ => if v = -32768 then some none else if v < 0 ∨ 2 < v then none else some (some v)
  | .nMin => if s.eff .nMax ≤ result then none else some stored
  | .nMax => if result ≤ s.eff .nMin then none else some stored
  | _ => some stored

/-- A repeated BOOST restarts the zone's BOOST counter (R6, R7). -/
def repeatBoost (i : Item) (v : Int) (s : State) : State :=
  match i with
  | .mode z => if v = 1 ∧ s.mode z = .boost then startBoost z s else s
  | _ => s

/-- A SET of a writable item (R183): the status and the state after it. -/
def setItem (i : Item) (v : Int) (s : State) : Status × State :=
  match settleValue s i v with
  | none => (.notApplicable, s)
  | some none => (.ok, storeItem i none s)
  | some (some w) => (if w = v then .ok else .clamped, storeItem i (some w) (repeatBoost i v s))

/-! ### Profiles (R185) -/

/-- Hand on the items whose effective value differs from what it was under the settings `old` (R185). -/
def handChanges (old : Settings) : List Item → State → State
  | [], s => s
  | i :: rest, s => handChanges old rest (if s.settings.eff i = old.eff i then s else handChange i (old.eff i) s)

/-- The active profile becomes `p`: every following item takes its default at that moment, then each changed value
is handed to its owner (R185). The spec gives the owners no order; in item id order is the model's choice (log 34). -/
def changeProfile (p : Nat) (s : State) : State :=
  if p = s.settings.profile then s
  else handChanges s.settings Item.profiled { s with settings := { s.settings with profile := p } }

/-- A SET of PROFILE (R183, R184, R185). -/
def setProfileItem (v : Int) (s : State) : Status × State :=
  if v = -32768 then (.notApplicable, s)
  else (if limited 0 3 v = v then .ok else .clamped, changeProfile (limited 0 3 v).toNat s)

/-! ### Read-only items (R187) -/

def boolCode (b : Bool) : Int := if b then 1 else 0

def ChanState.code : ChanState → Nat
  | .valid => 0
  | .suspect => 1
  | .lost => 2

def DefrostPhase.code : DefrostPhase → Nat
  | .idle => 0
  | .pending => 1
  | .preChill => 2
  | .stopWait => 3
  | .heat => 4
  | .drip => 5
  | .recover => 6

def CompState.code : CompState → Nat
  | .off => 0
  | .running => 1
  | .faulted => 2
  | .lockout => 3

def DamperState.code : DamperState → Nat
  | .unhomed => 0
  | .homing => 1
  | .ready => 2
  | .moving => 3

def FanState.code : FanState → Nat
  | .stopped => 0
  | .kick => 1
  | .run => 2
  | .rest => 3
  | .retryWait => 4

def PauseState.code : PauseState → Nat
  | .none => 0
  | .deferred => 1
  | .held => 2
  | .suspended => 3

/-- Tf as a read-only item: −32768 while pending (R45). -/
def tfValue (r : ChannelRec) : Int := r.tf.getD (-32768)

/-- A damper position as an item: −32768 while absent (R97). -/
def positionValue (r : DamperRec) : Int :=
  match r.position with
  | some p => (p : Int)
  | none => -32768

/-- A door's five items (R187). -/
def doorItem (r : DoorRec) : Nat → Int
  | 0 => boolCode r.isOpen
  | 1 => r.openCount
  | 2 => r.lastWidth
  | 3 => boolCode r.widthOverflow
  | _ => boolCode r.ajar

/-- A damper's three items (R187). -/
def damperItem (r : DamperRec) : Nat → Int
  | 0 => positionValue r
  | 1 => r.state.code
  | _ => r.target

/-- The owner's value of a read-only item, if 11.4 lists the id (R187). -/
def State.readOnly? (s : State) (n : Nat) : Option Int :=
  match allChannels.find? fun c => 0x80 + channelCode c == n with
  | some c => some (tfValue (s.channel c))
  | none =>
    match allChannels.find? fun c => 0x85 + channelCode c == n with
    | some c => some (s.channel c).state.code
    | none =>
      match allDoors.find? fun d => decide (0xC0 + 5 * doorCode d ≤ n) && decide (n < 0xC5 + 5 * doorCode d) with
      | some d => some (doorItem (s.door d) (n - (0xC0 + 5 * doorCode d)))
      | none =>
        match allDoors.find? fun d => 0xE0 + doorCode d == n with
        | some d => some (boolCode (s.door d).isOpen)
        | none =>
          match n with
          | 0x90 => some s.defr.frost
          | 0x91 => some (s.counter .gap).count
          | 0x92 => some s.defr.phase.code
          | 0x93 => some (boolCode s.defr.suspended)
          | 0x94 => some (boolCode s.defr.resumeHeat)
          | 0x95 => some s.defr.lastHeat
          | 0x98 => some s.comp.state.code
          | 0x99 => some (boolCode s.comp.stopHeld)
          | 0x9A => some s.comp.command
          | 0x9B => some s.comp.target
          | 0x9C => some s.comp.faultCount
          | 0xA0 => some (damperItem (s.damper .fresh) 0)
          | 0xA1 => some (damperItem (s.damper .fresh) 1)
          | 0xA2 => some (damperItem (s.damper .fresh) 2)
          | 0xA3 => some (damperItem (s.damper .chill) 0)
          | 0xA4 => some (damperItem (s.damper .chill) 1)
          | 0xA5 => some (damperItem (s.damper .chill) 2)
          | 0xA6 => some s.air.fan.rpm
          | 0xA7 => some s.air.fan.state.code
          | 0xA8 => some s.air.fan.stallCount
          | 0xA9 => some s.air.fan.drive
          | 0xB0 => some s.link.rxTimeout
          | 0xB1 => some s.link.rxLenErr
          | 0xB2 => some s.link.rxCrcErr
          | 0xB3 => some s.link.rxOverrun
          | 0xD4 => some s.doors.pause.code
          | 0xD5 => some (boolCode s.doors.pauseSpent)
          | 0xE4 => some (boolCode (s.scanner.heaterSense.getD false))
          | 0xE5 => some (boolCode (s.scanner.compFlt.getD false))
          | 0xE6 => some (boolCode s.defr.heaterDrive)
          | 0xE7 => some (boolCode s.comp.condFan)
          | _ => none

end Sys2Proof.Machine
end

