-- ==== Sys2Proof/WellFormed.lean ====
section
/-! DEFINITION. Which commands are well formed: the operands that a row of the table can carry. The meanings are
total and run ill-formed commands too; statements that rest on a row's form take `Instr.wf` as a premise. -/

namespace Sys2Proof

/-- The fourteen request kinds (R181). -/
def isRequestKind (kind : Byte) : Bool := decide (1 ≤ kind.toNat) && decide (kind.toNat ≤ 14)

/-- The item ids that rows of their own write: PROFILE (SET_PROFILE) and MODE_F, MODE_C, MODE_Z (SET_MODE) (R186). -/
def hasSetRowOfItsOwn (item : Byte) : Bool :=
  decide (item.toNat = 0x00) || (decide (0x13 ≤ item.toNat) && decide (item.toNat ≤ 0x15))

/-- A conversion set whose codes are twelve-bit (R30). -/
def SampleSet.wf (x : SampleSet) : Bool :=
  decide (x.codes.fresh ≤ 4095) && decide (x.codes.chill ≤ 4095) && decide (x.codes.freeze ≤ 4095) &&
    decide (x.codes.coil ≤ 4095) && decide (x.codes.ambient ≤ 4095)

/-- The bytes of one frame received whole: START, LEN in 2..64, and LEN bytes of content with a CRC byte after
them (R174, R181). -/
def isWholeFrame (bytes : List Byte) : Bool :=
  match bytes with
  | start :: len :: rest =>
    decide (start = 0xC3#8) && decide (2 ≤ len.toNat) && decide (len.toNat ≤ 64) &&
      decide (rest.length = len.toNat + 1)
  | _ => false

/-- The well-formed commands. -/
def Instr.wf : Instr → Bool
  | .requestFrameReceived bytes => isWholeFrame bytes
  | .unknownKind kind _ body => !isRequestKind kind && decide (body.length ≤ 62)
  | .set _ item _ => !hasSetRowOfItsOwn item
  | .curveLoad _ _ values => decide (1 ≤ values.length) && decide (values.length ≤ 17)
  | .roundCompletion sets => decide (sets.length = 8) && sets.all SampleSet.wf
  | .fullReset _ => true
  | .warmRestart _ => true
  | .rxTimeout => true
  | .ident _ => true
  | .get _ _ => true
  | .setProfile _ _ => true
  | .setMode _ _ _ => true
  | .startDefrost _ => true
  | .abortDefrost _ => true
  | .hold _ => true
  | .release _ => true
  | .clearFault _ => true
  | .restart _ => true
  | .planCommit _ => true
  | .curveCommit _ => true
  | .zoneView _ _ => true
  | .planStage _ _ _ _ _ _ => true
  | .planView _ _ => true
  | .conditions _ => true
  | .clearDeltas _ _ => true
  | .notifyMask _ _ => true
  | .stackView _ => true
  | .serviceDrive _ _ _ _ _ _ => true
  | .counterView _ _ => true
  | .frameSent => true
  | .boostExpiry _ => true
  | .slotExpiry => true
  | .svcExpiry => true
  | .damperMoveComplete _ => true
  | .homingEnd _ => true
  | .kickEnd => true
  | .fanRetry => true
  | .provingWindowEnd => true
  | .tachEdge => true
  | .tachOverflow => true
  | .rampExpiry => true
  | .guardExpiry => true
  | .condrunExpiry => true
  | .runsecCarry => true
  | .gapIncrement => true
  | .prechillExpiry => true
  | .heatTimeout => true
  | .dripExpiry => true
  | .recoverExpiry => true
  | .doorOpening _ => true
  | .doorClose _ => true
  | .doorWidthIncrement _ => true
  | .settleExpiry => true
  | .pauseExpiry => true
  | .almExpiry _ => true
  | .byteReceived _ => true

end Sys2Proof
end

