-- ==== Sys2Proof/Machine/Operands.lean ====
section
/-! DEFINITION. The layouts of the link (R174, R181): bytes of multi-byte fields, the CRC, frames, the fourteen
request kinds with the bodies they accept, the status byte and the item values as they are carried. These are the
operand forms of the block's request commands. -/

namespace Sys2Proof.Machine

/-! ### Multi-byte fields, most significant byte first (R181) -/

def halfBytes (h : Half) : List Byte := [h.extractLsb' 8 8, h.extractLsb' 0 8]

def setBytes (v : Set32) : List Byte :=
  [v.extractLsb' 24 8, v.extractLsb' 16 8, v.extractLsb' 8 8, v.extractLsb' 0 8]

def joinHalf (hi lo : Byte) : Half := hi ++ lo

def joinSet (a b c d : Byte) : Set32 := (a ++ b ++ c ++ d : BitVec (8 + 8 + 8 + 8))

/-- A 16-bit field read as a signed value (R181). -/
def signed (h : Half) : Int := h.toInt

def byteOf (n : Nat) : Byte := BitVec.ofNat 8 n

/-- A single-byte flag (R181). -/
def flagByte (b : Bool) : Byte := if b then 1#8 else 0#8

/-- A count as its 16-bit pattern (R181). -/
def natBytes (n : Nat) : List Byte := halfBytes (BitVec.ofNat 16 n)

/-- A signed value as its 16-bit pattern (R181). -/
def intBytes (v : Int) : List Byte := halfBytes (BitVec.ofInt 16 v)

/-! ### CRC (R174) -/

/-- The value shifted left `n` times, each bit of 1 shifted out XORing the result with 0x07. -/
def crcShift : Nat → Byte → Byte
  | 0, c => c
  | n + 1, c => crcShift n (if c.msb then (c <<< 1) ^^^ 0x07#8 else c <<< 1)

/-- One byte taken into the running CRC. -/
def crcByte (crc b : Byte) : Byte := crcShift 8 (crc ^^^ b)

/-- The CRC-8 of a list of bytes, from 0x00. -/
def crc8 (bytes : List Byte) : Byte := bytes.foldl crcByte 0#8

/-! ### Frames (R174, R181) -/

/-- START. -/
def startByte : Byte := 0xC3#8

/-- LEN of a frame: its KIND, TAG and BODY bytes. -/
def Frame.len (f : Frame) : Nat := f.body.length + 2

/-- KIND, TAG and BODY. -/
def Frame.content (f : Frame) : List Byte := f.kind :: f.tag :: f.body

/-- The frame as it goes over the line. -/
def Frame.bytes (f : Frame) : List Byte :=
  startByte :: byteOf f.len :: f.content ++ [crc8 (byteOf f.len :: f.content)]

/-- The frame with those content bytes. -/
def Frame.ofContent : List Byte → Frame
  | kind :: tag :: body => { kind := kind, tag := tag, body := body }
  | [kind] => { kind := kind, tag := 0, body := [] }
  | [] => { kind := 0, tag := 0, body := [] }

/-! ### Requests (R181) -/

/-- The orders by code (R181); another code names no order. -/
inductive Order where
  | startDefrost | abortDefrost | hold | release | clearFault | restart | planCommit | curveCommit
  deriving DecidableEq, Repr

def Order.code : Order → Byte
  | .startDefrost => 1
  | .abortDefrost => 2
  | .hold => 3
  | .release => 4
  | .clearFault => 5
  | .restart => 6
  | .planCommit => 7
  | .curveCommit => 8

def Order.all : List Order :=
  [.startDefrost, .abortDefrost, .hold, .release, .clearFault, .restart, .planCommit, .curveCommit]

def Order.ofCode (b : Byte) : Option Order := Order.all.find? fun o => o.code == b

/-- A request whose kind is known and whose body length the kind accepts. -/
inductive Request where
  | ident
  | get (item : Byte)
  | set (item : Byte) (value : Half)
  | order (code : Byte)
  | zoneView (zone : Byte)
  | planStage (entry : Byte) (freshOpen chillOpen fanDuty speedFloor : Half)
  | planView (selector : Byte)
  | curveLoad (start : Byte) (values : List Half)
  | conditions
  | clearDeltas (deltas : Set32)
  | notifyMask (mask : Set32)
  | stackView
  | serviceDrive (freshDamper chillDamper fan compressor heater : Half)
  | counterView (counter : Byte)
  deriving DecidableEq, Repr

/-- The KIND of a request. -/
def Request.kind : Request → Byte
  | .ident => 0x01
  | .get _ => 0x02
  | .set _ _ => 0x03
  | .order _ => 0x04
  | .zoneView _ => 0x05
  | .planStage _ _ _ _ _ => 0x06
  | .planView _ => 0x07
  | .curveLoad _ _ => 0x08
  | .conditions => 0x09
  | .clearDeltas _ => 0x0A
  | .notifyMask _ => 0x0B
  | .stackView => 0x0C
  | .serviceDrive _ _ _ _ _ => 0x0D
  | .counterView _ => 0x0E

/-- The BODY of a request. -/
def Request.body : Request → List Byte
  | .ident => []
  | .get i => [i]
  | .set i v => i :: halfBytes v
  | .order c => [c]
  | .zoneView z => [z]
  | .planStage e a b c d => e :: (halfBytes a ++ halfBytes b ++ halfBytes c ++ halfBytes d)
  | .planView p => [p]
  | .curveLoad i vs => i :: vs.flatMap halfBytes
  | .conditions => []
  | .clearDeltas v => setBytes v
  | .notifyMask v => setBytes v
  | .stackView => []
  | .serviceDrive a b c d e => halfBytes a ++ halfBytes b ++ halfBytes c ++ halfBytes d ++ halfBytes e
  | .counterView i => [i]

/-- A request as a frame. -/
def Request.frame (tag : Byte) (r : Request) : Frame := { kind := r.kind, tag := tag, body := r.body }

/-- A list of 16-bit fields; none for an odd number of bytes. -/
def readHalves : List Byte → Option (List Half)
  | [] => some []
  | [_] => none
  | hi :: lo :: rest => (readHalves rest).map (joinHalf hi lo :: ·)

/-- The body of a CURVE_LOAD: a start index and 1 to 17 breakpoints. -/
def readCurve : List Byte → Option Request
  | [] => none
  | start :: rest =>
    match readHalves rest with
    | none => none
    | some vs => if 1 ≤ vs.length ∧ vs.length ≤ 17 then some (.curveLoad start vs) else none

/-- The request of a known kind, if the kind accepts the body's length. -/
def readRequest (kind : Nat) (body : List Byte) : Option Request :=
  match kind with
  | 0x01 => match body with
    | [] => some .ident
    | _ => none
  | 0x02 => match body with
    | [i] => some (.get i)
    | _ => none
  | 0x03 => match body with
    | [i, a, b] => some (.set i (joinHalf a b))
    | _ => none
  | 0x04 => match body with
    | [c] => some (.order c)
    | _ => none
  | 0x05 => match body with
    | [z] => some (.zoneView z)
    | _ => none
  | 0x06 => match body with
    | [e, a, a', b, b', c, c', d, d'] =>
      some (.planStage e (joinHalf a a') (joinHalf b b') (joinHalf c c') (joinHalf d d'))
    | _ => none
  | 0x07 => match body with
    | [p] => some (.planView p)
    | _ => none
  | 0x08 => readCurve body
  | 0x09 => match body with
    | [] => some .conditions
    | _ => none
  | 0x0A => match body with
    | [a, b, c, d] => some (.clearDeltas (joinSet a b c d))
    | _ => none
  | 0x0B => match body with
    | [a, b, c, d] => some (.notifyMask (joinSet a b c d))
    | _ => none
  | 0x0C => match body with
    | [] => some .stackView
    | _ => none
  | 0x0D => match body with
    | [a, a', b, b', c, c', d, d', e, e'] =>
      some (.serviceDrive (joinHalf a a') (joinHalf b b') (joinHalf c c') (joinHalf d d') (joinHalf e e'))
    | _ => none
  | 0x0E => match body with
    | [i] => some (.counterView i)
    | _ => none
  | _ => none

/-- What the executor's first two checks make of a frame (R177): a request, or the status that refuses it. -/
inductive Checked where
  | request (r : Request)
  | refused (status : Status)
  deriving DecidableEq, Repr

def checkFrame (f : Frame) : Checked :=
  if isRequestKind f.kind then
    match readRequest f.kind.toNat f.body with
    | some r => .request r
    | none => .refused .badLength
  else .refused .unknownKind

/-! ### Replies (R177, R181) -/

def Status.byte : Status → Byte
  | .ok => 0x00
  | .clamped => 0x01
  | .unknownKind => 0x10
  | .badLength => 0x11
  | .unknownItem => 0x12
  | .readOnly => 0x13
  | .busy => 0x20
  | .notApplicable => 0x21

/-- OK or CLAMPED: the reply carries contents (R177). -/
def Status.accepts : Status → Bool
  | .ok => true
  | .clamped => true
  | .unknownKind => false
  | .badLength => false
  | .unknownItem => false
  | .readOnly => false
  | .busy => false
  | .notApplicable => false

/-- What an executed request answers. -/
structure Answer where
  status : Status
  contents : List Byte
  deriving DecidableEq, Repr

def Answer.refuse (st : Status) : Answer := { status := st, contents := [] }

/-- The KIND of the reply to a request (R177). A sum above 0xFF has no place in the byte (log 30). -/
def replyKind (kind : Byte) : Byte := if kind.toNat < 0x80 then kind + 0x80#8 else Config.replyKindOver kind

/-- The reply to a request frame (R177). -/
def replyTo (f : Frame) (a : Answer) : Frame :=
  { kind := replyKind f.kind, tag := f.tag, body := a.status.byte :: (if a.status.accepts then a.contents else []) }

/-! ### Codes of the records (R181) -/

def Zone.ofByte (b : Byte) : Option Zone := allZones.find? fun z => byteOf (zoneCode z) == b

def Subst.code : Subst → Nat
  | .absent => 0
  | .holdWindow => 1
  | .forceCall => 2
  | .timed => 3
  | .ignore => 4

def Holder.code : Holder → Nat
  | .nobody => 0
  | .slot _ => 1
  | .door => 2
  | .defrost => 3
  | .service => 4

def AllocState.code : AllocState → Nat
  | .idle => 0
  | .switching => 1
  | .serving => 2
  | .yielded => 3

/-- MIN, EXTEND, or MIN of a fixed slot. -/
def slotPhaseCode (p : SlotPhase) (fixed : Bool) : Nat :=
  match p with
  | .min => if fixed then 2 else 0
  | .extend => 1

def RouteSource.code : RouteSource → Nat
  | .plan => 0
  | .snapshot => 1

def CounterMode.code : CounterMode → Nat
  | .interval => 0
  | .oneShot => 1
  | .accumulate => 2
  | .width => 3
  | .period => 4

/-- The counters by id (R162). -/
def CounterId.all : List CounterId :=
  [.scan, .slot, .wait .fresh, .wait .chill, .wait .freeze, .ramp, .guard, .condrun, .runsec, .phase, .gap,
    .door .freshLeft, .door .freshRight, .door .chillDrawer, .door .freezeDrawer, .settle, .pause, .tach, .fantime,
    .boost .fresh, .boost .chill, .boost .freeze, .alm .fresh, .alm .chill, .alm .freeze, .svc]

def CounterId.ofByte (b : Byte) : Option CounterId := CounterId.all[b.toNat]?

/-! ### Records (R181) -/

/-- Route record, 5 bytes. -/
def routeRecord (r : Route) : List Byte :=
  [byteOf r.freshOpen, byteOf r.chillOpen, byteOf r.fanDuty] ++ natBytes (r.floor.getD 0)

/-- Zone record, 21 bytes, or 23 in BOOST (R27, R181). -/
def zoneRecord (z : Zone) (s : State) : List Byte :=
  let r := s.zone z
  let c := s.channel (zoneChannel z)
  [byteOf (zoneCode z), byteOf (s.mode z).code] ++ intBytes (s.eff (.setpoint z)) ++ intBytes (s.sEff z) ++
    [byteOf (s.effN (.hOn z)), byteOf (s.effN (.hOff z)), byteOf (s.effN (.weight z)), byteOf (s.wEff z)] ++
    natBytes r.debt ++ natBytes r.urgency ++
    [flagByte r.calling, byteOf r.subst.code, flagByte r.warmArmed, flagByte (s.doorOpen z)] ++
    intBytes (tfValue c) ++ [byteOf c.state.code] ++
    (if s.mode z = .boost then natBytes (s.counter (.boost z)).count else [])

/-- A frame of the suspension stack, 2, 6 or 11 bytes. -/
def suspFrameRecord : SuspFrame → List Byte
  | .slot mask zone phase fixed remaining route =>
    [0x00#8, byteOf mask, byteOf (zoneCode zone), byteOf (slotPhaseCode phase fixed)] ++ natBytes remaining ++
      match route with
      | some r => routeRecord r
      | none => []
  | .door mask => [0x01#8, byteOf mask]
  | .defrost mask => [0x02#8, byteOf mask]

/-- Stack record (R77, R181). -/
def stackRecord (s : State) : List Byte :=
  (match s.arb.holder with
    | .slot r =>
      [byteOf (Holder.slot r).code, byteOf (zoneCode r.zone), byteOf (Holder.slot r).alloc.code,
        byteOf (slotPhaseCode r.phase r.fixed), byteOf r.source.code]
    | h => [byteOf h.code, 0xFF#8, byteOf h.alloc.code, 0xFF#8, 0xFF#8]) ++
    byteOf s.arb.stack.length :: s.arb.stack.flatMap suspFrameRecord

/-- Drive record (R96, R114, R181). -/
def driveRecord (s : State) : List Byte :=
  natBytes (s.damper .fresh).target ++ intBytes (positionValue (s.damper .fresh)) ++
    natBytes (s.damper .chill).target ++ intBytes (positionValue (s.damper .chill)) ++
    [byteOf s.air.fan.requested] ++ natBytes s.air.fan.rpm ++ natBytes s.comp.command ++
    [byteOf s.comp.state.code, flagByte s.defr.heaterDrive, flagByte (s.scanner.heaterSense.getD false)]

/-- The gate as a COUNTER_VIEW reports it: false for a counter without one (R163). -/
def State.gateShown (s : State) : CounterId → Bool
  | .runsec => s.gate .runsec
  | .door d => s.gate (.door d)
  | _ => false

/-- The reload value as a COUNTER_VIEW reports it: for the chained counter, its limit (R163). -/
def State.reloadShown (s : State) : CounterId → Nat
  | .runsec => runsecLimit
  | i => (s.counter i).reload

/-- Counter record, 13 bytes (R163, R181). -/
def counterRecord (id : Byte) (i : CounterId) (s : State) : List Byte :=
  let c := s.counter i
  [id, byteOf i.mode.code, flagByte c.run] ++ natBytes c.count ++ natBytes (s.reloadShown i) ++
    [flagByte c.saturated, flagByte (s.gateShown i)] ++ natBytes c.result ++
    [flagByte c.resultOverflow, flagByte c.firstEdge]

/-- The four contents of a CONDITIONS reply (R169). -/
def conditionsRecord (s : State) : List Byte :=
  setBytes s.cond.levels ++ setBytes s.cond.deltas ++ setBytes s.cond.mask ++ [flagByte s.cond.notePending]

/-- The plan as a PLAN_VIEW reports it (R65). -/
def planRecord (selector : Byte) (p : Plan) (commitPending : Bool) : List Byte :=
  [selector, flagByte commitPending] ++ routeRecord p.fresh ++ routeRecord p.chill ++ routeRecord p.freeze ++
    routeRecord p.idle

/-- NOTE body (R172, R181). -/
def noteBody (c : Conditions) : List Byte := setBytes c.levels ++ setBytes c.maskedDeltas

/-- The NOTE frame (R178). -/
def noteFrame (c : Conditions) : Frame := { kind := 0x40, tag := 0, body := noteBody c }

end Sys2Proof.Machine
end

