-- ==== Sys2Proof/Machine/Expiry.lean ====
section
/-! DEFINITION. Where the expiry of each one-shot goes (R155, R162), and the one-shots that a step started at
count 0. -/

namespace Sys2Proof.Machine

/-- SVC has expired: the hold ends (R75). -/
def onSvcExpiry (s : State) : State := if s.arb.holder = .service then endService s else s

/-- The owner of a one-shot takes its expiry (R155, R162); the counter itself is STOPPED with count 0 already. -/
def onExpiry (i : CounterId) (s : State) : State :=
  match i with
  | .slot => onSlotExpiry s
  | .guard => onGuard s
  | .condrun => onCondrunExpiry s
  | .phase => onPhaseExpiry s
  | .settle => onSettleExpiry s
  | .pause => onPauseExpiry s
  | .fantime => onFantimeExpiry s
  | .boost z => onBoostExpiry z s
  | .alm z => onAlmExpiry z s
  | .svc => onSvcExpiry s
  | .scan => s
  | .wait _ => s
  | .ramp => s
  | .runsec => s
  | .gap => s
  | .door _ => s
  | .tach => s

/-- The one-shots started at count 0 signal their expiries (R155): at most `n` of them in one step (log 28). -/
def drain (n : Nat) (s : State) : State :=
  match n with
  | 0 => s
  | n + 1 =>
    match s.own.signalled with
    | [] => s
    | i :: rest => drain n (onExpiry i { s with own := { s.own with signalled := rest } })

/-- The signalled expiries of a step, all in practice (log 28). -/
def drainAll (s : State) : State := drain 4 s

/-- The expiry event of a RUNNING one-shot: STOPPED with count 0, then its owner's effect (R155). The expiry of a
STOPPED one-shot does not occur. -/
def fireOneShot (i : CounterId) (effect : State → State) (s : State) : State :=
  if (s.counter i).run then effect (s.onCounter i Counter.expire) else s

end Sys2Proof.Machine
end

