-- ==== Sys2Proof/Machine/Link.lean ====
section
/-! DEFINITION. The Message Link's receiver, request buffer, reply queue and transmitter (10_message_link.md, R175,
R176, R178). -/

namespace Sys2Proof.Machine

def State.onLink (f : Link → Link) (s : State) : State := { s with link := f s.link }

/-! ### Reception (R175) -/

/-- The receiver with no frame being assembled. -/
def Receiver.hunting : Receiver := { state := .hunt, len := 0, got := [], gap := 0 }

/-- The receiver waiting for LEN. -/
def Receiver.started : Receiver := { state := .length, len := 0, got := [], gap := 0 }

/-- The receiver that has taken LEN. -/
def Receiver.sized (len : Nat) : Receiver := { state := .content, len := len, got := [], gap := 0 }

/-- One content byte stored; after LEN of them, CHECK. -/
def Receiver.store (b : Byte) (r : Receiver) : Receiver :=
  { r with got := r.got ++ [b], gap := 0, state := if r.len ≤ r.got.length + 1 then .check else .content }

/-- A complete frame is offered to the request buffer (R176). -/
def offerFrame (f : Frame) (s : State) : State :=
  if s.link.requests.length < 2 then s.onLink fun l => { l with requests := l.requests ++ [f] }
  else (s.onLink fun l => { l with rxOverrun := sat16 (l.rxOverrun + 1) }).raise .linkOverrun

/-- LEN of a frame lies in 2..64 (R174). -/
def lenInRange (n : Nat) : Bool := decide (2 ≤ n) && decide (n ≤ 64)

/-- A received byte is taken by the receiver (R175). -/
def receiveByte (b : Byte) (s : State) : State :=
  let r := s.link.rx
  match r.state with
  | .hunt => if b = startByte then s.onLink fun l => { l with rx := .started } else s
  | .length =>
    if lenInRange b.toNat then s.onLink fun l => { l with rx := .sized b.toNat }
    else s.onLink fun l => { l with rx := .hunting, rxLenErr := sat16 (l.rxLenErr + 1) }
  | .content => s.onLink fun l => { l with rx := r.store b }
  | .check =>
    if b = crc8 (byteOf r.len :: r.got) then offerFrame (Frame.ofContent r.got) (s.onLink fun l => { l with rx := .hunting })
    else s.onLink fun l => { l with rx := .hunting, rxCrcErr := sat16 (l.rxCrcErr + 1) }

/-- Bytes received one after another without a gap. -/
def receiveBytes (bytes : List Byte) (s : State) : State := bytes.foldl (fun s b => receiveByte b s) s

/-- A gap longer than 20 ms while a frame is being assembled (R175). -/
def onRxTimeout (s : State) : State :=
  match s.link.rx.state with
  | .hunt => s
  | .length => s.onLink fun l => { l with rx := .hunting, rxTimeout := sat16 (l.rxTimeout + 1) }
  | .content => s.onLink fun l => { l with rx := .hunting, rxTimeout := sat16 (l.rxTimeout + 1) }
  | .check => s.onLink fun l => { l with rx := .hunting, rxTimeout := sat16 (l.rxTimeout + 1) }

/-! ### Transmission (R178) -/

/-- A transmission begins. -/
def send (f : Frame) (s : State) : State := s.onLink fun l => { l with tx := some { frame := f, elapsed := 0 } }

/-- An idle transmitter begins the oldest queued reply. -/
def startReply (s : State) : State :=
  match s.link.tx, s.link.replies with
  | none, f :: rest => send f (s.onLink fun l => { l with replies := rest })
  | none, [] => s
  | some _, _ => s

/-- With no reply queued, an idle transmitter begins the pending NOTE, or drops it if its set of masked deltas is
empty (R172, R178). -/
def startNote (s : State) : State :=
  if s.link.tx = none ∧ s.link.replies = [] ∧ s.cond.notePending = true then
    let s' := { s with cond := { s.cond with notePending := false } }
    if s.cond.maskedDeltas = 0#32 then s' else send (noteFrame s.cond) s'
  else s

/-- A reply is appended to the reply queue. -/
def queueReply (f : Frame) (s : State) : State := s.onLink fun l => { l with replies := l.replies ++ [f] }

end Sys2Proof.Machine
end

