-- ==== Sys2Proof/Machine/Requests.lean ====
section
/-! DEFINITION. What each request does and answers (R177, R181): the orders, the item requests, the views, the plan
and curve requests, the condition requests and SERVICE_DRIVE. -/

namespace Sys2Proof.Machine

/-- An answer with the state that stands once the effect has been made. -/
abbrev Done := Answer × State

def okWith (contents : List Byte) (s : State) : Done := ({ status := .ok, contents := contents }, s)

/-- A refused request leaves the state as it is. -/
def refuse (st : Status) (s : State) : Done := (.refuse st, s)

/-! ### Items (R182 to R188) -/

/-- IDENT (R188). -/
def performIdent (s : State) : Done :=
  okWith [0x3C#8, byteOf Config.revision, byteOf s.settings.profile, flagByte s.scanner.loaded] s

/-- The contents of an item reply (R181): id, value, follows flag. -/
def itemContents (id : Byte) (v : Int) (follows : Bool) : List Byte := id :: intBytes v ++ [flagByte follows]

/-- The item id of PROFILE (R186). -/
def profileId : Byte := 0x00#8

/-- The contents that report a writable item as it stands (R182). -/
def itemNow (id : Byte) (i : Item) (s : State) : List Byte := itemContents id (s.eff i) (s.settings.follows i)

/-- GET (R182). -/
def performGet (id : Byte) (s : State) : Done :=
  if id = profileId then okWith (itemContents id s.settings.profile false) s
  else match Item.ofId id.toNat with
    | some i => okWith (itemNow id i s) s
    | none =>
      match s.readOnly? id.toNat with
      | some v => okWith (itemContents id v false) s
      | none => refuse .unknownItem s

/-- The answer to a SET: the contents only where it is accepted. -/
def setAnswer (st : Status) (contents : List Byte) (s : State) : Done :=
  if st.accepts then ({ status := st, contents := contents }, s) else refuse st s

/-- SET (R182, R183, R184). -/
def performSet (id : Byte) (v : Int) (s : State) : Done :=
  if id = profileId then
    let (st, s') := setProfileItem v s
    setAnswer st (itemContents id s'.settings.profile false) s'
  else match Item.ofId id.toNat with
    | some i =>
      let (st, s') := setItem i v s
      setAnswer st (itemNow id i s') s'
    | none => refuse (if (s.readOnly? id.toNat).isSome then .readOnly else .unknownItem) s

/-! ### Orders -/

/-- START_DEFROST (R121). -/
def orderStartDefrost (s : State) : Status × State :=
  match s.defr.phase with
  | .idle => if s.level .heaterStuck then (.notApplicable, s) else (.ok, enterPending s)
  | .pending => (.busy, s)
  | .preChill => (.busy, s)
  | .stopWait => (.busy, s)
  | .heat => (.busy, s)
  | .drip => (.busy, s)
  | .recover => (.busy, s)

/-- An abort before HEAT (R134). -/
def abortBeforeHeat (s : State) : State := leaveDefrost (s.stopC .phase)

/-- ABORT_DEFROST (R134). -/
def orderAbortDefrost (s : State) : Status × State :=
  match s.defr.phase with
  | .pending => (.ok, setPhase .idle s)
  | .preChill => (.ok, abortBeforeHeat s)
  | .stopWait => (.ok, if s.defr.resumeHeat then endHeat .abort s else abortBeforeHeat s)
  | .heat => (.ok, endHeat .abort s)
  | .idle => (.notApplicable, s)
  | .drip => (.notApplicable, s)
  | .recover => (.notApplicable, s)

/-- HOLD (R75). -/
def orderHold (s : State) : Status × State :=
  if s.arb.holder = .service then (.notApplicable, s) else (.ok, claimService s)

/-- RELEASE (R75). -/
def orderRelease (s : State) : Status × State :=
  if s.arb.holder = .service then (.ok, endService (s.stopC .svc)) else (.notApplicable, s)

/-- CLEAR_FAULT (R110). -/
def orderClearFault (s : State) : Status × State :=
  if s.comp.state = .lockout then (.ok, clearLockout s) else (.notApplicable, s)

/-- RESTART (R179): from its taking the executor takes no further request. -/
def orderRestart (s : State) : Status × State := (.ok, s.onLink fun l => { l with restarting := true })

/-- PLAN_COMMIT (R63). -/
def orderPlanCommit (s : State) : Status × State := (.ok, commitPlan s)

/-- CURVE_COMMIT (R41). -/
def orderCurveCommit (s : State) : Status × State :=
  if curveValid s.scanner.staged then (.ok, commitCurve s) else (.notApplicable, s)

def doOrder (o : Order) (s : State) : Status × State :=
  match o with
  | .startDefrost => orderStartDefrost s
  | .abortDefrost => orderAbortDefrost s
  | .hold => orderHold s
  | .release => orderRelease s
  | .clearFault => orderClearFault s
  | .restart => orderRestart s
  | .planCommit => orderPlanCommit s
  | .curveCommit => orderCurveCommit s

/-- An ORDER request: a code that names no order is answered NOT_APPLICABLE (R181). -/
def performOrder (code : Byte) (s : State) : Done :=
  match Order.ofCode code with
  | some o =>
    let (st, s') := doOrder o s
    setAnswer st [code] s'
  | none => refuse .notApplicable s

/-! ### Views -/

/-- ZONE_VIEW (R27). -/
def performZoneView (zone : Byte) (s : State) : Done :=
  match Zone.ofByte zone with
  | some z => okWith (zoneRecord z s) s
  | none => refuse .notApplicable s

/-- PLAN_VIEW (R65). -/
def performPlanView (selector : Byte) (s : State) : Done :=
  if selector = 0#8 then okWith (planRecord selector s.arb.active s.arb.commitPending) s
  else if selector = 1#8 then okWith (planRecord selector s.arb.staged s.arb.commitPending) s
  else refuse .notApplicable s

/-- STACK_VIEW (R77). -/
def performStackView (s : State) : Done := okWith (stackRecord s) s

/-- COUNTER_VIEW (R163). -/
def performCounterView (id : Byte) (s : State) : Done :=
  match CounterId.ofByte id with
  | some i => okWith (counterRecord id i s) s
  | none => refuse .notApplicable s

/-! ### Plans (R62) -/

/-- The four entries of a plan (R61). -/
inductive PlanEntry where
  | zone (z : Zone)
  | idle
  deriving DecidableEq, Repr

/-- Entries on the link: 0 FRESH, 1 CHILL, 2 FREEZE, 3 IDLE (R181). -/
def PlanEntry.ofByte (b : Byte) : Option PlanEntry :=
  match Zone.ofByte b with
  | some z => some (.zone z)
  | none => if b = 3#8 then some .idle else none

/-- The plan with that entry replaced whole. -/
def Plan.put (p : Plan) (e : PlanEntry) (r : Route) : Plan :=
  match e with
  | .zone .fresh => { p with fresh := r }
  | .zone .chill => { p with chill := r }
  | .zone .freeze => { p with freeze := r }
  | .idle => { p with idle := r }

/-- An opening within the route limits (R62). -/
def limitOpening (v : Int) : Int := limited 0 100 v

/-- A fan duty within the route limits (R62). -/
def limitDuty (e : PlanEntry) (v : Int) : Int :=
  match e with
  | .zone _ => limited 25 100 v
  | .idle => if v ≤ 0 then 0 else limited 25 100 v

/-- A speed floor within the route limits, 0 standing for absent (R62). -/
def limitFloor (v : Int) : Int := if v = 0 then 0 else limited 900 5400 v / 30 * 30

/-- A floor field as the route holds it. -/
def floorOf (v : Int) : Option Nat := if v = 0 then none else some v.toNat

/-- PLAN_STAGE (R62). -/
def performPlanStage (entry : Byte) (freshOpen chillOpen fanDuty speedFloor : Int) (s : State) : Done :=
  match PlanEntry.ofByte entry with
  | none => refuse .notApplicable s
  | some e =>
    let fo := limitOpening freshOpen
    let co := limitOpening chillOpen
    let fd := limitDuty e fanDuty
    let sf := limitFloor speedFloor
    let r : Route := { freshOpen := fo.toNat, chillOpen := co.toNat, fanDuty := fd.toNat, floor := floorOf sf }
    let same := decide (fo = freshOpen) && decide (co = chillOpen) && decide (fd = fanDuty) && decide (sf = speedFloor)
    ({ status := if same then .ok else .clamped, contents := entry :: routeRecord r },
      s.onArb fun a => { a with staged := a.staged.put e r })

/-! ### Curves (R40) -/

/-- CURVE_LOAD (R40). -/
def performCurveLoad (start : Byte) (values : List Half) (s : State) : Done :=
  if start.toNat + values.length ≤ 17 then
    okWith [start, byteOf values.length]
      { s with scanner := { s.scanner with staged := writeCurve start.toNat (values.map signed) s.scanner.staged } }
  else refuse .notApplicable s

/-! ### Conditions (R169, R170) -/

/-- CONDITIONS (R169). -/
def performConditions (s : State) : Done := okWith (conditionsRecord s) s

/-- The deltas after a clear, ATTN re-evaluated (R169). -/
def Conditions.clearDeltas (v : Set32) (c : Conditions) : Conditions :=
  Conditions.refreshAttn { c with deltas := c.deltas &&& ~~~(v &&& conditionBits) }

/-- CLEAR_DELTAS (R169). -/
def performClearDeltas (v : Set32) (s : State) : Done :=
  let s' := { s with cond := s.cond.clearDeltas v }
  okWith (setBytes s'.cond.deltas) s'

/-- A new mask, ATTN re-evaluated; a newly selected set delta makes a NOTE pending (R170, R172). -/
def Conditions.setMask (m : Set32) (c : Conditions) : Conditions :=
  Conditions.refreshAttn
    { c with
      mask := m
      notePending := c.notePending || (m &&& ~~~c.mask &&& c.deltas &&& conditionBits) != 0#32 }

/-- NOTIFY_MASK (R170). -/
def performNotifyMask (m : Set32) (s : State) : Done :=
  let s' := { s with cond := s.cond.setMask m }
  okWith (setBytes s'.cond.mask) s'

/-! ### SERVICE_DRIVE (R76, R95, R96, R112, R113, R114) -/

/-- The field value that keeps what stands. -/
def keep : Int := -32768

/-- A damper field (R95): what it does, and whether it counts as a clamp. -/
def driveDamper (d : Damper) (v : Int) (s : State) : State :=
  if v = keep then s
  else if v = -1 then requestHoming d s
  else giveTarget d (limited 0 480 v).toNat s

def damperClamped (v : Int) : Bool := decide (v ≠ keep) && decide (v ≠ -1) && decide (limited 0 480 v ≠ v)

/-- The duty a fan field asks for (R96). -/
def driveDuty (v : Int) : Nat := if v ≤ 0 then 0 else (limited 25 100 v).toNat

def driveFan (v : Int) (s : State) : State := if v = keep then s else requestFan (driveDuty v) s

def fanClamped (v : Int) : Bool := decide (v ≠ keep) && decide ((driveDuty v : Int) ≠ v)

/-- The demand a compressor field sets (R112). -/
def driveDemand (v : Int) (nMin nMax : Nat) : Demand :=
  if v ≤ 0 then .stop
  else if v < nMin then .fixed nMin
  else if nMax < v then .fixed nMax
  else .fixed (v.toNat / 30 * 30)

def driveComp (v : Int) (s : State) : State := if v = keep then s else giveDemand (driveDemand v s.nMin s.nMax) s

def compClamped (v : Int) (nMin nMax : Nat) : Bool :=
  decide (v ≠ keep) && !(decide (v = 0) || (decide ((nMin : Int) ≤ v) && decide (v ≤ nMax) && decide (v % 30 = 0)))

/-- The service heater command after a heater field (R113). -/
def heaterAfter (v : Int) (now : Bool) : Bool := if v = keep then now else decide (0 < v)

def driveHeater (v : Int) (s : State) : State :=
  refreshHeater (s.onDefr fun d => { d with svcHeater := heaterAfter v d.svcHeater })

def heaterClamped (v : Int) : Bool := decide (v ≠ keep) && decide (v ≠ 0) && decide (v ≠ 1)

/-- A compressor field asks for a run (R113). -/
def asksRun (v : Int) : Bool := decide (0 < v)

def Demand.isFixed : Demand → Bool
  | .fixed _ => true
  | .auto _ => false
  | .stop => false

/-- The check of a SERVICE_DRIVE as a whole (R113): the status that refuses it, if one does. -/
def State.refusesDrive (s : State) (compressor heater : Int) : Option Status :=
  if s.arb.holder ≠ .service then some .notApplicable
  else if s.comp.state = .lockout ∧ asksRun compressor = true then some .notApplicable
  else if heaterAfter heater s.defr.svcHeater = true ∧
      (s.comp.state = .running ∨ asksRun compressor = true ∨ (compressor = keep ∧ s.comp.demand.isFixed = true)) then
    some .busy
  else none

/-- The fields of an accepted SERVICE_DRIVE, applied in the order the request carries them (log 23). -/
def applyDrive (fresh chill fan compressor heater : Int) (s : State) : State :=
  driveHeater heater (driveComp compressor (driveFan fan (driveDamper .chill chill (driveDamper .fresh fresh s))))

/-- SERVICE_DRIVE. -/
def performServiceDrive (fresh chill fan compressor heater : Int) (s : State) : Done :=
  match s.refusesDrive compressor heater with
  | some st => refuse st s
  | none =>
    let clamped := damperClamped fresh || damperClamped chill || fanClamped fan ||
      compClamped compressor s.nMin s.nMax || heaterClamped heater
    let s' := applyDrive fresh chill fan compressor heater s
    ({ status := if clamped then .clamped else .ok, contents := driveRecord s' }, s')

/-! ### Any request -/

/-- A request handed to its owning block (R177 step 3). -/
def perform (r : Request) (s : State) : Done :=
  match r with
  | .ident => performIdent s
  | .get i => performGet i s
  | .set i v => performSet i (signed v) s
  | .order c => performOrder c s
  | .zoneView z => performZoneView z s
  | .planStage e a b c d => performPlanStage e (signed a) (signed b) (signed c) (signed d) s
  | .planView p => performPlanView p s
  | .curveLoad i vs => performCurveLoad i vs s
  | .conditions => performConditions s
  | .clearDeltas v => performClearDeltas v s
  | .notifyMask m => performNotifyMask m s
  | .stackView => performStackView s
  | .serviceDrive a b c d e => performServiceDrive (signed a) (signed b) (signed c) (signed d) (signed e) s
  | .counterView i => performCounterView i s

/-- The executor's checks and the effect of a request frame (R177). -/
def performFrame (f : Frame) (s : State) : Done :=
  match checkFrame f with
  | .request r => perform r s
  | .refused st => refuse st s

end Sys2Proof.Machine
end

