-- ==== Sys2Proof/Machine/Executor.lean ====
section
/-! DEFINITION. The executor (R177) and the end of every step of the block: signalled expiries, then the
transmitter and the executor as far as they go (log 4). -/

namespace Sys2Proof.Machine

/-- The taking of a request that has left the buffer (R177): its effect is made, and its reply appended. -/
def takeFrame (f : Frame) (s : State) : State :=
  let (a, s') := performFrame f s
  queueReply (replyTo f a) s'

/-- The executor may take the oldest request (R177, R179). -/
def State.executorFree (s : State) : Bool := decide (s.link.replies.length < 4) && !s.link.restarting

/-- The executor takes up to `n` requests, and an idle transmitter begins each reply as it comes (R177, R178). -/
def execute (n : Nat) (s : State) : State :=
  match n with
  | 0 => s
  | n + 1 =>
    match s.link.requests with
    | [] => s
    | f :: rest =>
      if s.executorFree then
        execute n (startReply (drainAll (takeFrame f (s.onLink fun l => { l with requests := rest }))))
      else s

/-- The link goes on as far as it can: a queued reply, the requests in the buffer, then a pending NOTE (log 4). -/
def runLink (s : State) : State :=
  let s := startReply s
  startNote (execute s.link.requests.length s)

/-- The end of a step. -/
def finish (s : State) : State := runLink (drainAll s)

/-- A request frame that has been received whole and checked: it is offered to the buffer (R176), and the executor
takes it when it can (R177, log 3). -/
def submit (f : Frame) (s : State) : State := finish (offerFrame f s)

end Sys2Proof.Machine
end

