-- ==== Sys2Proof/Machine/Reset.lean ====
section
/-! DEFINITION. The two kinds of reset, each block by its chapter's reset rule (R3, R28, R46, R47, R78, R79, R98,
R116, R117, R138, R150, R164, R173, R180, R189). -/

namespace Sys2Proof.Machine

/-- The model's own fields over a reset: no expiry signalled, the indices of the free values kept (log 20). -/
def Own.afterReset (o : Own) : Own := { o with signalled := [] }

/-- The door records after a FULL reset that finds the lines so (R150). -/
def DoorMonitor.afterFull (lines : DoorLines) : DoorMonitor :=
  { recs :=
      { freshLeft := .cleared lines.freshLeft 0, freshRight := .cleared lines.freshRight 0
        chillDrawer := .cleared lines.chillDrawer 0, freezeDrawer := .cleared lines.freezeDrawer 0 }
    pause := .none, pauseSpent := false }

/-- A FULL reset, its low interval and its end as one step (log 5). -/
def fullReset (lines : DoorLines) (s : State) : State :=
  { State.reset with pending := s.pending, doors := .afterFull lines, own := s.own.afterReset }

/-! ### WARM restart -/

/-- The three MODE items return to following; all else is kept (R28, R189). -/
def Settings.afterWarm (t : Settings) : Settings :=
  ((t.write (.mode .fresh) none).write (.mode .chill) none).write (.mode .freeze) none

/-- Every channel comes up as after a FULL reset, its shift from its item as kept; the curves are kept (R47). -/
def Scanner.afterWarm (shift : Channel → Nat) (c : Scanner) : Scanner :=
  { c with
    chan :=
      { fresh := .cleared (shift .fresh), chill := .cleared (shift .chill), freeze := .cleared (shift .freeze)
        coil := .cleared (shift .coil), ambient := .cleared (shift .ambient) }
    heaterSense := none, compFlt := none, sets := [] }

/-- The plans are kept, a waiting commit is lost, the rest is as after a FULL reset (R79). -/
def Arbiter.afterWarm (a : Arbiter) : Arbiter :=
  { State.reset.arb with active := a.active, staged := a.staged }

/-- LOCKOUT is kept with its fault count; otherwise the compressor is OFF, its fault count kept (R117). -/
def Compressor.afterWarm (ambRef : Int) (c : Compressor) : Compressor :=
  { Compressor.cleared ambRef with
    state := if c.state = .lockout then .lockout else .off
    faultCount := if c.state = .lockout then 3 else c.faultCount }

/-- F and last_heat are kept; comp_state is LOCKOUT if the compressor has kept it (R138). -/
def Defrost.afterWarm (ambRef : Int) (lockout : Bool) (d : Defrost) : Defrost :=
  { Defrost.cleared ambRef with
    frost := d.frost, lastHeat := d.lastHeat, compState := if lockout then .lockout else .off }

/-- The opening counts are kept (R150). -/
def DoorMonitor.afterWarm (lines : DoorLines) (m : DoorMonitor) : DoorMonitor :=
  { recs :=
      { freshLeft := .cleared lines.freshLeft m.recs.freshLeft.openCount
        freshRight := .cleared lines.freshRight m.recs.freshRight.openCount
        chillDrawer := .cleared lines.chillDrawer m.recs.chillDrawer.openCount
        freezeDrawer := .cleared lines.freezeDrawer m.recs.freezeDrawer.openCount }
    pause := .none, pauseSpent := false }

/-- GAP is kept whole; GUARD is restarted with MIN_OFF as it stands (R164, R117). -/
def Bank.afterWarm (minOff : Nat) (b : Bank) : Bank := { Bank.cleared minOff with gap := b.gap }

/-- The levels the blocks come up with: COMP_FAULT and COMP_LOCKOUT if LOCKOUT is kept, no other (R173). -/
def levelsAfterWarm (lockout : Bool) : Set32 :=
  if lockout then putBit (putBit 0#32 (Cond.id .compFault) true) (Cond.id .compLockout) true else 0#32

/-- The Arbiter gives its IDLE entry at the reset: the openings are stored while the dampers home, and a non-zero
duty kicks the fan (R78, R98). -/
def giveIdleEntry (s : State) : State :=
  requestFan s.arb.active.idle.fanDuty (giveOpenings s.arb.active.idle.freshOpen s.arb.active.idle.chillOpen s)

/-- A WARM restart, the door lines being found at `lines` (R150, R179). -/
def warmReset (lines : DoorLines) (s : State) : State :=
  let t := s.settings.afterWarm
  let ambRef := t.eff .ambRef
  let lockout := decide (s.comp.state = .lockout)
  giveIdleEntry
    { pending := s.pending
      settings := t
      zones := State.reset.zones
      scanner := s.scanner.afterWarm fun c => (t.eff (.filterShift c)).toNat
      arb := s.arb.afterWarm
      air := State.reset.air
      comp := s.comp.afterWarm ambRef
      defr := s.defr.afterWarm ambRef lockout
      doors := s.doors.afterWarm lines
      bank := s.bank.afterWarm (t.eff .minOff).toNat
      cond := .cleared (levelsAfterWarm lockout)
      link := .cleared
      own := s.own.afterReset }

/-- The raw door lines as they stand. -/
def State.rawLines (s : State) : DoorLines :=
  { freshLeft := (s.door .freshLeft).raw, freshRight := (s.door .freshRight).raw
    chillDrawer := (s.door .chillDrawer).raw, freezeDrawer := (s.door .freezeDrawer).raw }

end Sys2Proof.Machine
end

