-- ==== Sys2Proof/Machine/Events.lean ====
section
/-! DEFINITION. The events of the part, each with what its counter, drive or line does at it: shared by the event
commands and by the clock (Machine/Clock.lean). An event whose counter is STOPPED, or whose owner is not in the state
the event belongs to, does not occur (log 2). -/

namespace Sys2Proof.Machine

/-- The SCAN expiry closes the round with those conversion sets (R30, R154). -/
def roundCloses (sets : List SampleSet) (s : State) : State :=
  if (s.counter .scan).run then onRound sets (s.onCounter .scan Counter.rewind) else s

/-- The RAMP expiry (R104, R154). -/
def rampExpires (s : State) : State :=
  if (s.counter .ramp).run then onRamp (s.onCounter .ramp Counter.rewind) else s

/-- The PHASE expiry in one phase of the defrost (R124, R127, R130, R131, R155). -/
def phaseExpires (p : DefrostPhase) (effect : State → State) (s : State) : State :=
  if s.defr.phase = p then fireOneShot .phase effect s else s

/-- A GAP increment, and the due check it makes (R120, R156). A saturated GAP signals none. -/
def gapIncrements (s : State) : State :=
  if (s.counter .gap).run && decide ((s.counter .gap).count < 65535) then dueCheck (s.onCounter .gap Counter.increment)
  else s

/-- A RUNSEC carry (R119, R157). -/
def runsecCarries (s : State) : State :=
  if (s.counter .runsec).run && s.gate .runsec then onRunsecCarry (s.onCounter .runsec Counter.carry) else s

/-- A door width increment, compared with AJAR_TIME (R146, R159). -/
def doorIncrements (d : Door) (s : State) : State :=
  let c := s.counter (.door d)
  if c.run && s.gate (.door d) && decide (c.count < 65535) then checkAjar d (s.onCounter (.door d) Counter.increment)
  else s

/-- A TACH overflow (R90, R160). -/
def tachOverflows (s : State) : State := if (s.counter .tach).run then onTachOverflow s else s

/-- FANTIME expires while the fan is in one of those states (R89, R91, R92). -/
def fanTimeExpires (during : FanState → Bool) (effect : State → State) (s : State) : State :=
  if during s.air.fan.state then fireOneShot .fantime effect s else s

/-- A move reaches its target (R82), and the completion is reported (R86). -/
def damperArrives (d : Damper) (s : State) : State :=
  if (s.damper d).state = .moving then onCompletion (s.onDamper d DamperRec.complete) else s

/-- The last step of a homing (R84); a damper it leaves settled is reported (R86). -/
def homingEnds (d : Damper) (s : State) : State :=
  if (s.damper d).state = .homing then
    let s := s.onDamper d DamperRec.endHoming
    if (s.damper d).settled then onCompletion s else s
  else s

/-- A filtered door line goes high (R139, R141). -/
def doorOpens (d : Door) (s : State) : State := if (s.door d).isOpen then s else onOpening d s

/-- A filtered door line goes low (R139, R142). -/
def doorCloses (d : Door) (s : State) : State := if (s.door d).isOpen then onClose d s else s

/-- The last byte of a frame has gone: the transmitter is free (R178), or, after the RESTART reply, the WARM restart
takes effect (R179; the reply is known by the executor having taken RESTART and the reply queue being empty,
log 27). With the transmitter idle no frame ends (log 2), and the link begins what it could (log 4). -/
def frameEnds (s : State) : State :=
  match s.link.tx with
  | none => finish s
  | some _ =>
    if s.link.restarting = true ∧ s.link.replies = [] then warmReset s.rawLines s
    else finish (s.onLink fun l => { l with tx := none })

end Sys2Proof.Machine
end

