-- ==== Sys2Proof/Machine/Clock.lean ====
section
/-! DEFINITION. One tick of the clock, 1/2 400 000 s: what step does on an empty queue (log 1). Everything that
measures time advances by one unit, then what has fallen due happens (R30, R82, R84, R139, R152, R175, R178). -/

namespace Sys2Proof.Machine

/-! ### Time goes on -/

def PerZone.mapWith {α : Type} (f : Zone → α → α) (p : PerZone α) : PerZone α :=
  { fresh := f .fresh p.fresh, chill := f .chill p.chill, freeze := f .freeze p.freeze }

def PerDoor.mapWith {α : Type} (f : Door → α → α) (p : PerDoor α) : PerDoor α :=
  { freshLeft := f .freshLeft p.freshLeft, freshRight := f .freshRight p.freshRight
    chillDrawer := f .chillDrawer p.chillDrawer, freezeDrawer := f .freezeDrawer p.freezeDrawer }

def PerDamper.mapWith {α : Type} (f : Damper → α → α) (p : PerDamper α) : PerDamper α :=
  { fresh := f .fresh p.fresh, chill := f .chill p.chill }

def Bank.mapWith (f : CounterId → Counter → Counter) (b : Bank) : Bank :=
  { scan := f .scan b.scan
    slot := f .slot b.slot
    wait := PerZone.mapWith (fun z => f (.wait z)) b.wait
    ramp := f .ramp b.ramp
    guard := f .guard b.guard
    condrun := f .condrun b.condrun
    runsec := f .runsec b.runsec
    phase := f .phase b.phase
    gap := f .gap b.gap
    door := PerDoor.mapWith (fun d => f (.door d)) b.door
    settle := f .settle b.settle
    pause := f .pause b.pause
    tach := f .tach b.tach
    fantime := f .fantime b.fantime
    boost := PerZone.mapWith (fun z => f (.boost z)) b.boost
    alm := PerZone.mapWith (fun z => f (.alm z)) b.alm
    svc := f .svc b.svc }

/-- Part advances while the counter is RUNNING and its gate is true (R152, R158). -/
def Counter.advance (gate : Bool) (c : Counter) : Counter := if c.run && gate then { c with part := c.part + 1 } else c

/-- A damper's drive runs while MOVING or HOMING (R82, R84). -/
def DamperRec.advance (r : DamperRec) : DamperRec :=
  match r.state with
  | .moving => { r with stepPart := r.stepPart + 1 }
  | .homing => { r with stepPart := r.stepPart + 1 }
  | .unhomed => r
  | .ready => r

/-- How long the raw line has differed from the filtered level (R139). -/
def DoorRec.advance (r : DoorRec) : DoorRec := { r with differs := if r.raw = r.isOpen then 0 else r.differs + 1 }

/-- The gap timer runs while a frame is being assembled (R175). -/
def Receiver.advance (r : Receiver) : Receiver :=
  match r.state with
  | .hunt => r
  | .length => { r with gap := r.gap + 1 }
  | .content => { r with gap := r.gap + 1 }
  | .check => { r with gap := r.gap + 1 }

def Sending.advance (t : Sending) : Sending := { t with elapsed := t.elapsed + 1 }

/-- Everything that measures time advances by one unit. -/
def advance (s : State) : State :=
  { s with
    bank := s.bank.mapWith fun i c => c.advance (s.gate i)
    air := { s.air with dampers := PerDamper.mapWith (fun _ r => r.advance) s.air.dampers }
    doors := { s.doors with recs := PerDoor.mapWith (fun _ r => r.advance) s.doors.recs }
    link := { s.link with rx := s.link.rx.advance, tx := s.link.tx.map Sending.advance } }

/-! ### Conversion sets (R30) -/

/-- Time since the last SCAN expiry, from its count and part. -/
def State.roundTime (s : State) : Nat :=
  (1000 - (s.counter .scan).count) * Config.millisecond + (s.counter .scan).part

/-- The times of a round's eight conversion sets (R30). -/
def setTimes : List Nat := (List.range 8).map fun k => Config.firstSet + k * Config.setSpacing

/-- The conversion set the inputs give at that index: free values (log 9). -/
def conversion (n : Nat) : SampleSet :=
  { codes :=
      { fresh := (Config.codeAt n 0).toNat, chill := (Config.codeAt n 1).toNat, freeze := (Config.codeAt n 2).toNat
        coil := (Config.codeAt n 3).toNat, ambient := (Config.codeAt n 4).toNat }
    heaterSense := Config.heaterSenseAt n, compFlt := Config.compFltAt n }

/-- A conversion set is taken at its time (R30). -/
def takeConversion (s : State) : State :=
  if (s.counter .scan).run && setTimes.contains s.roundTime then
    { s with
      scanner := { s.scanner with sets := s.scanner.sets ++ [conversion s.own.setNo] }
      own := { s.own with setNo := s.own.setNo + 1 } }
  else s

/-! ### What falls due -/

/-- Whatever can fall due at a tick. -/
inductive Timer where
  | counter (i : CounterId)
  | damper (d : Damper)
  | door (d : Door)
  | rxGap
  | txEnd
  deriving DecidableEq, Repr

def Timer.all : List Timer :=
  CounterId.all.map .counter ++ [.damper .fresh, .damper .chill] ++ allDoors.map .door ++ [.rxGap, .txEnd]

/-- A place for each timer, the second argument of the free order (log 7). -/
def Timer.index (t : Timer) : Nat := Timer.all.findIdx (· == t)

/-- Bytes of a frame on the line: START, LEN, its content and the CRC (R174). -/
def Frame.lineBytes (f : Frame) : Nat := f.body.length + 5

def State.isDue (s : State) : Timer → Bool
  | .counter i => (s.counter i).run && s.gate i && decide (i.period ≤ (s.counter i).part)
  | .damper d => decide (Config.damperStep ≤ (s.damper d).stepPart)
  | .door d => decide ((s.door d).raw ≠ (s.door d).isOpen) && decide (Config.doorFilter ≤ (s.door d).differs)
  | .rxGap => decide (s.link.rx.state ≠ .hunt) && decide (Config.gapLimit + Config.byteTime < s.link.rx.gap)
  | .txEnd =>
    match s.link.tx with
    | some t => decide (t.frame.lineBytes * Config.byteTime ≤ t.elapsed)
    | none => false

/-- A tick of a counter down by one (R154, R155). -/
def Counter.down (c : Counter) : Counter := { c with count := c.count - 1, part := 0 }

/-- A tick of a counter up by one (R157, R160). -/
def Counter.up (c : Counter) : Counter := { c with count := c.count + 1, part := 0 }

/-- A tick of a one-shot (R155). -/
def oneShotTick (i : CounterId) (s : State) : State :=
  if (s.counter i).count ≤ 1 then fireOneShot i (onExpiry i) s else s.onCounter i Counter.down

/-- A tick of a saturated counter, which signals nothing (R156, R159), discards the part. -/
def saturatedTick (i : CounterId) (s : State) : State := s.onCounter i Counter.increment

/-- A tick of a counter, by its mode (R154 to R160). -/
def counterTick (i : CounterId) (s : State) : State :=
  let c := s.counter i
  match i with
  | .scan => if c.count ≤ 1 then roundCloses s.scanner.sets s else s.onCounter .scan Counter.down
  | .ramp => if c.count ≤ 1 then rampExpires s else s.onCounter .ramp Counter.down
  | .wait z => s.onCounter (.wait z) Counter.increment
  | .gap => if c.count < 65535 then gapIncrements s else saturatedTick .gap s
  | .runsec => if runsecLimit ≤ c.count + 1 then runsecCarries s else s.onCounter .runsec Counter.up
  | .door d => if c.count < 65535 then doorIncrements d s else saturatedTick (.door d) s
  | .tach => if 65535 ≤ c.count then tachOverflows s else s.onCounter .tach Counter.up
  | i => oneShotTick i s

/-- One step of a damper's drive (R82, R84). -/
def damperTick (d : Damper) (s : State) : State :=
  let r := (s.damper d).step
  match r.state with
  | .moving => if r.position = some r.target then damperArrives d (s.onDamper d fun _ => r) else s.onDamper d fun _ => r
  | .homing => if r.homingSteps = 0 then homingEnds d (s.onDamper d fun _ => r) else s.onDamper d fun _ => r
  | .unhomed => s
  | .ready => s

/-- What a due timer does. -/
def timerFires (t : Timer) (s : State) : State :=
  match t with
  | .counter i => counterTick i s
  | .damper d => damperTick d s
  | .door d => if (s.door d).raw then doorOpens d s else doorCloses d s
  | .rxGap => onRxTimeout s
  | .txEnd => frameEnds s

/-! ### The tick -/

/-- Insertion by key, for the free order. -/
def insertBy (key : Timer → Nat) (t : Timer) : List Timer → List Timer
  | [] => [t]
  | u :: rest => if key t ≤ key u then t :: u :: rest else u :: insertBy key t rest

/-- The due timers in the free order (log 7). -/
def orderBy (key : Timer → Nat) : List Timer → List Timer
  | [] => []
  | t :: rest => insertBy key t (orderBy key rest)

/-- The due timers happen one after another, each if it is still due when its turn comes. -/
def fireAll : List Timer → State → State
  | [], s => s
  | t :: rest, s => fireAll rest (if s.isDue t then finish (timerFires t s) else s)

/-- Two or more timers due at one instant use up one order choice (log 7). -/
def countChoice (due : List Timer) (s : State) : State :=
  if 2 ≤ due.length then { s with own := { s.own with choices := s.own.choices + 1 } } else s

/-- RUNSEC holds a full period where its gate closed at the very instant of its tick; that tick falls as soon as the
gate is true again, before time goes on (R158). The other gated counters, the door widths, hold no part while their
gate is false (R159). -/
def takeHeldTick (s : State) : State :=
  if s.isDue (.counter .runsec) then finish (timerFires (.counter .runsec) s) else s

/-- One tick (log 1). -/
def tick (s : State) : State :=
  let s := takeConversion (advance (takeHeldTick s))
  let due := Timer.all.filter s.isDue
  let order := orderBy (fun t => Config.tieBreak s.own.choices t.index) due
  finish (fireAll order (countChoice due s))

end Sys2Proof.Machine
end

