-- ==== Sys2Proof/Machine/ResetCommands.lean ====
section
/-! DEFINITION. The meanings of the two resets (R3). -/

namespace Sys2Proof.Machine

/-- What every meaning answers. -/
abbrev Result := Host.Outcome State Fault Refusal

/-- FULL_RESET: power-on, or RESET low and high again, with the door lines found so at its end (R3, R150). -/
def execFullReset (lines : DoorLines) (s : State) : Result := .next (fullReset lines s)

/-- WARM_RESTART: the restart takes effect across the part (R3, R179), with the door lines found so (log 6). -/
def execWarmRestart (lines : DoorLines) (s : State) : Result := .next (warmReset lines s)

end Sys2Proof.Machine
end

