-- ==== Sys2Proof/Machine/EventCommands.lean ====
section
/-! DEFINITION. The meanings of the event commands: the counters, the scan round, the drives and the door lines. An
event that does not occur in the state it finds has no effect of its own (log 2). -/

namespace Sys2Proof.Machine

/-! ### The scan round -/

/-- ROUND_COMPLETION, with the round's conversion sets (R30). -/
def execRoundCompletion (sets : List SampleSet) (s : State) : Result := .next (finish (roundCloses sets s))

/-! ### Zone Table, Arbiter and Condition Unit timers -/

/-- BOOST_EXPIRY (R8). -/
def execBoostExpiry (zone : Zone) (s : State) : Result := .next (finish (fireOneShot (.boost zone) (onBoostExpiry zone) s))

/-- SLOT_EXPIRY (R53, R54, R55). -/
def execSlotExpiry (s : State) : Result := .next (finish (fireOneShot .slot onSlotExpiry s))

/-- SVC_EXPIRY (R75). -/
def execSvcExpiry (s : State) : Result := .next (finish (fireOneShot .svc onSvcExpiry s))

/-- ALM_EXPIRY (R167, R168). -/
def execAlmExpiry (zone : Zone) (s : State) : Result := .next (finish (fireOneShot (.alm zone) (onAlmExpiry zone) s))

/-! ### Air path -/

/-- DAMPER_MOVE_COMPLETE (R82, R86). -/
def execDamperMoveComplete (damper : Damper) (s : State) : Result := .next (finish (damperArrives damper s))

/-- HOMING_END (R84, R86). -/
def execHomingEnd (damper : Damper) (s : State) : Result := .next (finish (homingEnds damper s))

/-- KICK_END: FANTIME expires in KICK (R89). -/
def execKickEnd (s : State) : Result := .next (finish (fanTimeExpires (fun f => f == .kick) onKickEnd s))

/-- FAN_RETRY: FANTIME expires in REST or RETRY_WAIT (R91). -/
def execFanRetry (s : State) : Result :=
  .next (finish (fanTimeExpires (fun f => f == .rest || f == .retryWait) onFanRetry s))

/-- PROVING_WINDOW_END: FANTIME expires in RUN (R92). -/
def execProvingWindowEnd (s : State) : Result := .next (finish (fanTimeExpires (fun f => f == .run) onProvingEnd s))

/-- TACH_EDGE (R90, R160). -/
def execTachEdge (s : State) : Result := .next (finish (onTachEdge s))

/-- TACH_OVERFLOW (R90, R91). -/
def execTachOverflow (s : State) : Result := .next (finish (tachOverflows s))

/-! ### Compressor -/

/-- RAMP_EXPIRY (R101, R104). -/
def execRampExpiry (s : State) : Result := .next (finish (rampExpires s))

/-- GUARD_EXPIRY (R106). -/
def execGuardExpiry (s : State) : Result := .next (finish (fireOneShot .guard onGuard s))

/-- CONDRUN_EXPIRY (R111). -/
def execCondrunExpiry (s : State) : Result := .next (finish (fireOneShot .condrun onCondrunExpiry s))

/-! ### Defrost -/

/-- RUNSEC_CARRY (R119). -/
def execRunsecCarry (s : State) : Result := .next (finish (runsecCarries s))

/-- GAP_INCREMENT (R120). -/
def execGapIncrement (s : State) : Result := .next (finish (gapIncrements s))

/-- PRECHILL_EXPIRY: PHASE expires in PRE_CHILL (R124). -/
def execPrechillExpiry (s : State) : Result := .next (finish (phaseExpires .preChill onPhaseExpiry s))

/-- HEAT_TIMEOUT: PHASE expires in HEAT (R127). -/
def execHeatTimeout (s : State) : Result := .next (finish (phaseExpires .heat onPhaseExpiry s))

/-- DRIP_EXPIRY: PHASE expires in DRIP (R130). -/
def execDripExpiry (s : State) : Result := .next (finish (phaseExpires .drip onPhaseExpiry s))

/-- RECOVER_EXPIRY: PHASE expires in RECOVER (R131). -/
def execRecoverExpiry (s : State) : Result := .next (finish (phaseExpires .recover onPhaseExpiry s))

/-! ### Doors -/

/-- DOOR_OPENING: the line has been high for 50 ms (R139, R141; log 22). -/
def execDoorOpening (door : Door) (s : State) : Result := .next (finish (doorOpens door s))

/-- DOOR_CLOSE: the line has been low for 50 ms (R139, R142; log 22). -/
def execDoorClose (door : Door) (s : State) : Result := .next (finish (doorCloses door s))

/-- DOOR_WIDTH_INCREMENT (R146, R159). -/
def execDoorWidthIncrement (door : Door) (s : State) : Result := .next (finish (doorIncrements door s))

/-- SETTLE_EXPIRY (R147). -/
def execSettleExpiry (s : State) : Result := .next (finish (fireOneShot .settle onSettleExpiry s))

/-- PAUSE_EXPIRY (R148). -/
def execPauseExpiry (s : State) : Result := .next (finish (fireOneShot .pause onPauseExpiry s))

end Sys2Proof.Machine
end

