-- ==== Sys2Proof/Machine/LinkCommands.lean ====
section
/-! DEFINITION. The meanings of the link's own events (R175, R176, R178). -/

namespace Sys2Proof.Machine

/-- REQUEST_FRAME_RECEIVED: the bytes of a frame are received one after another (R175), and a frame that passes the
checks is offered to the buffer (R176). -/
def execRequestFrameReceived (bytes : List Byte) (s : State) : Result := .next (finish (receiveBytes bytes s))

/-- BYTE_RECEIVED: one byte is taken by the receiver (R175). -/
def execByteReceived (byte : Byte) (s : State) : Result := .next (finish (receiveByte byte s))

/-- RX_TIMEOUT: a gap longer than 20 ms (R175). -/
def execRxTimeout (s : State) : Result := .next (finish (onRxTimeout s))

/-- FRAME_SENT: the last byte of the frame being sent has gone (R178, R179). -/
def execFrameSent (s : State) : Result := .next (frameEnds s)

end Sys2Proof.Machine
end

