-- ==== Sys2Proof/Machine/RequestCommands.lean ====
section
/-! DEFINITION. The meanings of the request commands: each is its frame (R181), received whole and checked, offered
to the request buffer, where the executor takes it (R177, log 3). -/

namespace Sys2Proof.Machine

/-- UNKNOWN_KIND: a frame of a kind that is not one of the fourteen (R177). -/
def execUnknownKind (kind tag : Byte) (body : List Byte) (s : State) : Result :=
  .next (submit { kind := kind, tag := tag, body := body } s)

/-- IDENT (R188). -/
def execIdent (tag : Byte) (s : State) : Result := .next (submit (Request.frame tag .ident) s)

/-- GET (R182). -/
def execGet (tag item : Byte) (s : State) : Result := .next (submit (Request.frame tag (.get item)) s)

/-- SET (R183). -/
def execSet (tag item : Byte) (value : Half) (s : State) : Result :=
  .next (submit (Request.frame tag (.set item value)) s)

/-- SET_PROFILE: a SET of PROFILE, item 0x00 (R185). -/
def execSetProfile (tag : Byte) (value : Half) (s : State) : Result :=
  .next (submit (Request.frame tag (.set profileId value)) s)

/-- The item id of a zone's MODE (R186). -/
def modeId (z : Zone) : Byte := byteOf (Item.id (.mode z))

/-- SET_MODE: a SET of MODE_z (R6, R183). -/
def execSetMode (tag : Byte) (zone : Zone) (value : Half) (s : State) : Result :=
  .next (submit (Request.frame tag (.set (modeId zone) value)) s)

/-- An ORDER request's frame (R181). -/
def orderFrame (tag : Byte) (o : Order) : Frame := Request.frame tag (.order o.code)

/-- START_DEFROST (R121). -/
def execStartDefrost (tag : Byte) (s : State) : Result := .next (submit (orderFrame tag .startDefrost) s)

/-- ABORT_DEFROST (R134). -/
def execAbortDefrost (tag : Byte) (s : State) : Result := .next (submit (orderFrame tag .abortDefrost) s)

/-- HOLD (R75). -/
def execHold (tag : Byte) (s : State) : Result := .next (submit (orderFrame tag .hold) s)

/-- RELEASE (R75). -/
def execRelease (tag : Byte) (s : State) : Result := .next (submit (orderFrame tag .release) s)

/-- CLEAR_FAULT (R110). -/
def execClearFault (tag : Byte) (s : State) : Result := .next (submit (orderFrame tag .clearFault) s)

/-- RESTART (R179). -/
def execRestart (tag : Byte) (s : State) : Result := .next (submit (orderFrame tag .restart) s)

/-- PLAN_COMMIT (R63). -/
def execPlanCommit (tag : Byte) (s : State) : Result := .next (submit (orderFrame tag .planCommit) s)

/-- CURVE_COMMIT (R41). -/
def execCurveCommit (tag : Byte) (s : State) : Result := .next (submit (orderFrame tag .curveCommit) s)

/-- ZONE_VIEW (R27). -/
def execZoneView (tag zone : Byte) (s : State) : Result := .next (submit (Request.frame tag (.zoneView zone)) s)

/-- PLAN_STAGE (R62). -/
def execPlanStage (tag entry : Byte) (freshOpen chillOpen fanDuty speedFloor : Half) (s : State) : Result :=
  .next (submit (Request.frame tag (.planStage entry freshOpen chillOpen fanDuty speedFloor)) s)

/-- PLAN_VIEW (R65). -/
def execPlanView (tag selector : Byte) (s : State) : Result :=
  .next (submit (Request.frame tag (.planView selector)) s)

/-- CURVE_LOAD (R40). -/
def execCurveLoad (tag start : Byte) (values : List Half) (s : State) : Result :=
  .next (submit (Request.frame tag (.curveLoad start values)) s)

/-- CONDITIONS (R169). -/
def execConditions (tag : Byte) (s : State) : Result := .next (submit (Request.frame tag .conditions) s)

/-- CLEAR_DELTAS (R169). -/
def execClearDeltas (tag : Byte) (deltas : Set32) (s : State) : Result :=
  .next (submit (Request.frame tag (.clearDeltas deltas)) s)

/-- NOTIFY_MASK (R170). -/
def execNotifyMask (tag : Byte) (mask : Set32) (s : State) : Result :=
  .next (submit (Request.frame tag (.notifyMask mask)) s)

/-- STACK_VIEW (R77). -/
def execStackView (tag : Byte) (s : State) : Result := .next (submit (Request.frame tag .stackView) s)

/-- SERVICE_DRIVE (R76, R113). -/
def execServiceDrive (tag : Byte) (freshDamper chillDamper fan compressor heater : Half) (s : State) : Result :=
  .next (submit (Request.frame tag (.serviceDrive freshDamper chillDamper fan compressor heater)) s)

/-- COUNTER_VIEW (R163). -/
def execCounterView (tag counter : Byte) (s : State) : Result :=
  .next (submit (Request.frame tag (.counterView counter)) s)

end Sys2Proof.Machine
end

