-- ==== Sys2Proof/Machine/Dispatch.lean ====
section
/-! DEFINITION. One arm for each command, each one call of its meaning. -/

namespace Sys2Proof.Machine

def exec (i : Instr) (s : State) : Host.Outcome State Fault Refusal :=
  match i with
  | .fullReset lines => Sys2Proof.Machine.execFullReset lines s
  | .warmRestart lines => Sys2Proof.Machine.execWarmRestart lines s
  | .requestFrameReceived bytes => Sys2Proof.Machine.execRequestFrameReceived bytes s
  | .rxTimeout => Sys2Proof.Machine.execRxTimeout s
  | .unknownKind kind tag body => Sys2Proof.Machine.execUnknownKind kind tag body s
  | .ident tag => Sys2Proof.Machine.execIdent tag s
  | .get tag item => Sys2Proof.Machine.execGet tag item s
  | .set tag item value => Sys2Proof.Machine.execSet tag item value s
  | .setProfile tag value => Sys2Proof.Machine.execSetProfile tag value s
  | .setMode tag zone value => Sys2Proof.Machine.execSetMode tag zone value s
  | .startDefrost tag => Sys2Proof.Machine.execStartDefrost tag s
  | .abortDefrost tag => Sys2Proof.Machine.execAbortDefrost tag s
  | .hold tag => Sys2Proof.Machine.execHold tag s
  | .release tag => Sys2Proof.Machine.execRelease tag s
  | .clearFault tag => Sys2Proof.Machine.execClearFault tag s
  | .restart tag => Sys2Proof.Machine.execRestart tag s
  | .planCommit tag => Sys2Proof.Machine.execPlanCommit tag s
  | .curveCommit tag => Sys2Proof.Machine.execCurveCommit tag s
  | .zoneView tag zone => Sys2Proof.Machine.execZoneView tag zone s
  | .planStage tag entry freshOpen chillOpen fanDuty speedFloor => Sys2Proof.Machine.execPlanStage tag entry freshOpen chillOpen fanDuty speedFloor s
  | .planView tag selector => Sys2Proof.Machine.execPlanView tag selector s
  | .curveLoad tag start values => Sys2Proof.Machine.execCurveLoad tag start values s
  | .conditions tag => Sys2Proof.Machine.execConditions tag s
  | .clearDeltas tag deltas => Sys2Proof.Machine.execClearDeltas tag deltas s
  | .notifyMask tag mask => Sys2Proof.Machine.execNotifyMask tag mask s
  | .stackView tag => Sys2Proof.Machine.execStackView tag s
  | .serviceDrive tag freshDamper chillDamper fan compressor heater => Sys2Proof.Machine.execServiceDrive tag freshDamper chillDamper fan compressor heater s
  | .counterView tag counter => Sys2Proof.Machine.execCounterView tag counter s
  | .frameSent => Sys2Proof.Machine.execFrameSent s
  | .roundCompletion sets => Sys2Proof.Machine.execRoundCompletion sets s
  | .boostExpiry zone => Sys2Proof.Machine.execBoostExpiry zone s
  | .slotExpiry => Sys2Proof.Machine.execSlotExpiry s
  | .svcExpiry => Sys2Proof.Machine.execSvcExpiry s
  | .damperMoveComplete damper => Sys2Proof.Machine.execDamperMoveComplete damper s
  | .homingEnd damper => Sys2Proof.Machine.execHomingEnd damper s
  | .kickEnd => Sys2Proof.Machine.execKickEnd s
  | .fanRetry => Sys2Proof.Machine.execFanRetry s
  | .provingWindowEnd => Sys2Proof.Machine.execProvingWindowEnd s
  | .tachEdge => Sys2Proof.Machine.execTachEdge s
  | .tachOverflow => Sys2Proof.Machine.execTachOverflow s
  | .rampExpiry => Sys2Proof.Machine.execRampExpiry s
  | .guardExpiry => Sys2Proof.Machine.execGuardExpiry s
  | .condrunExpiry => Sys2Proof.Machine.execCondrunExpiry s
  | .runsecCarry => Sys2Proof.Machine.execRunsecCarry s
  | .gapIncrement => Sys2Proof.Machine.execGapIncrement s
  | .prechillExpiry => Sys2Proof.Machine.execPrechillExpiry s
  | .heatTimeout => Sys2Proof.Machine.execHeatTimeout s
  | .dripExpiry => Sys2Proof.Machine.execDripExpiry s
  | .recoverExpiry => Sys2Proof.Machine.execRecoverExpiry s
  | .doorOpening door => Sys2Proof.Machine.execDoorOpening door s
  | .doorClose door => Sys2Proof.Machine.execDoorClose door s
  | .doorWidthIncrement door => Sys2Proof.Machine.execDoorWidthIncrement door s
  | .settleExpiry => Sys2Proof.Machine.execSettleExpiry s
  | .pauseExpiry => Sys2Proof.Machine.execPauseExpiry s
  | .almExpiry zone => Sys2Proof.Machine.execAlmExpiry zone s
  | .byteReceived byte => Sys2Proof.Machine.execByteReceived byte s

end Sys2Proof.Machine
end

