-- ==== Sys2Proof/Laws/State.lean ====
section
/-! SUPPORT. One lemma per field per update of State, true by `rfl`, so that no proof unfolds a record update; and
the laws of the records indexed by a name. -/

namespace Sys2Proof

/-! ### Records indexed by a name -/

@[simp] theorem PerZone.get_set_self {α : Type} (p : PerZone α) (k : Zone) (a : α) : (p.set k a).get k = a := by
  cases k <;> rfl

theorem PerZone.get_set_of_ne {α : Type} (p : PerZone α) (k j : Zone) (a : α) (h : j ≠ k) : (p.set k a).get j = p.get j := by
  cases k <;> cases j <;> first | rfl | exact absurd rfl h

@[simp] theorem PerZone.set_get {α : Type} (p : PerZone α) (k : Zone) : p.set k (p.get k) = p := by
  cases k <;> rfl

@[simp] theorem PerZone.set_set {α : Type} (p : PerZone α) (k : Zone) (a b : α) : (p.set k a).set k b = p.set k b := by
  cases k <;> rfl

@[simp] theorem PerChannel.get_set_self {α : Type} (p : PerChannel α) (k : Channel) (a : α) : (p.set k a).get k = a := by
  cases k <;> rfl

theorem PerChannel.get_set_of_ne {α : Type} (p : PerChannel α) (k j : Channel) (a : α) (h : j ≠ k) : (p.set k a).get j = p.get j := by
  cases k <;> cases j <;> first | rfl | exact absurd rfl h

@[simp] theorem PerChannel.set_get {α : Type} (p : PerChannel α) (k : Channel) : p.set k (p.get k) = p := by
  cases k <;> rfl

@[simp] theorem PerChannel.set_set {α : Type} (p : PerChannel α) (k : Channel) (a b : α) : (p.set k a).set k b = p.set k b := by
  cases k <;> rfl

@[simp] theorem PerDoor.get_set_self {α : Type} (p : PerDoor α) (k : Door) (a : α) : (p.set k a).get k = a := by
  cases k <;> rfl

theorem PerDoor.get_set_of_ne {α : Type} (p : PerDoor α) (k j : Door) (a : α) (h : j ≠ k) : (p.set k a).get j = p.get j := by
  cases k <;> cases j <;> first | rfl | exact absurd rfl h

@[simp] theorem PerDoor.set_get {α : Type} (p : PerDoor α) (k : Door) : p.set k (p.get k) = p := by
  cases k <;> rfl

@[simp] theorem PerDoor.set_set {α : Type} (p : PerDoor α) (k : Door) (a b : α) : (p.set k a).set k b = p.set k b := by
  cases k <;> rfl

@[simp] theorem PerDamper.get_set_self {α : Type} (p : PerDamper α) (k : Damper) (a : α) : (p.set k a).get k = a := by
  cases k <;> rfl

theorem PerDamper.get_set_of_ne {α : Type} (p : PerDamper α) (k j : Damper) (a : α) (h : j ≠ k) : (p.set k a).get j = p.get j := by
  cases k <;> cases j <;> first | rfl | exact absurd rfl h

@[simp] theorem PerDamper.set_get {α : Type} (p : PerDamper α) (k : Damper) : p.set k (p.get k) = p := by
  cases k <;> rfl

@[simp] theorem PerDamper.set_set {α : Type} (p : PerDamper α) (k : Damper) (a b : α) : (p.set k a).set k b = p.set k b := by
  cases k <;> rfl

namespace Machine

@[simp] theorem Bank.get_set_self (b : Bank) (i : CounterId) (c : Counter) : (b.set i c).get i = c := by
  cases i <;> simp [Bank.get, Bank.set]

theorem Bank.get_set_of_ne (b : Bank) (i j : CounterId) (c : Counter) (h : j ≠ i) : (b.set i c).get j = b.get j := by
  cases i <;> cases j <;> first
    | rfl
    | exact absurd rfl h
    | exact PerZone.get_set_of_ne _ _ _ _ fun e => h (congrArg _ e)
    | exact PerDoor.get_set_of_ne _ _ _ _ fun e => h (congrArg _ e)

/-! ### One lemma per field per update -/

variable (s : State)

@[simp] theorem State.setCounter_pending (i : CounterId) (c : Counter) : (s.setCounter i c).pending = s.pending := rfl
@[simp] theorem State.setCounter_settings (i : CounterId) (c : Counter) :
    (s.setCounter i c).settings = s.settings := rfl
@[simp] theorem State.setCounter_zones (i : CounterId) (c : Counter) : (s.setCounter i c).zones = s.zones := rfl
@[simp] theorem State.setCounter_scanner (i : CounterId) (c : Counter) : (s.setCounter i c).scanner = s.scanner := rfl
@[simp] theorem State.setCounter_arb (i : CounterId) (c : Counter) : (s.setCounter i c).arb = s.arb := rfl
@[simp] theorem State.setCounter_air (i : CounterId) (c : Counter) : (s.setCounter i c).air = s.air := rfl
@[simp] theorem State.setCounter_comp (i : CounterId) (c : Counter) : (s.setCounter i c).comp = s.comp := rfl
@[simp] theorem State.setCounter_defr (i : CounterId) (c : Counter) : (s.setCounter i c).defr = s.defr := rfl
@[simp] theorem State.setCounter_doors (i : CounterId) (c : Counter) : (s.setCounter i c).doors = s.doors := rfl
@[simp] theorem State.setCounter_bank (i : CounterId) (c : Counter) : (s.setCounter i c).bank = s.bank.set i c := rfl
@[simp] theorem State.setCounter_cond (i : CounterId) (c : Counter) : (s.setCounter i c).cond = s.cond := rfl
@[simp] theorem State.setCounter_link (i : CounterId) (c : Counter) : (s.setCounter i c).link = s.link := rfl
@[simp] theorem State.setCounter_own (i : CounterId) (c : Counter) : (s.setCounter i c).own = s.own := rfl

@[simp] theorem State.onCounter_pending (i : CounterId) (f : Counter → Counter) :
    (s.onCounter i f).pending = s.pending := rfl
@[simp] theorem State.onCounter_settings (i : CounterId) (f : Counter → Counter) :
    (s.onCounter i f).settings = s.settings := rfl
@[simp] theorem State.onCounter_zones (i : CounterId) (f : Counter → Counter) : (s.onCounter i f).zones = s.zones := rfl
@[simp] theorem State.onCounter_scanner (i : CounterId) (f : Counter → Counter) :
    (s.onCounter i f).scanner = s.scanner := rfl
@[simp] theorem State.onCounter_arb (i : CounterId) (f : Counter → Counter) : (s.onCounter i f).arb = s.arb := rfl
@[simp] theorem State.onCounter_air (i : CounterId) (f : Counter → Counter) : (s.onCounter i f).air = s.air := rfl
@[simp] theorem State.onCounter_comp (i : CounterId) (f : Counter → Counter) : (s.onCounter i f).comp = s.comp := rfl
@[simp] theorem State.onCounter_defr (i : CounterId) (f : Counter → Counter) : (s.onCounter i f).defr = s.defr := rfl
@[simp] theorem State.onCounter_doors (i : CounterId) (f : Counter → Counter) : (s.onCounter i f).doors = s.doors := rfl
@[simp] theorem State.onCounter_bank (i : CounterId) (f : Counter → Counter) :
    (s.onCounter i f).bank = s.bank.set i (f (s.bank.get i)) := rfl
@[simp] theorem State.onCounter_cond (i : CounterId) (f : Counter → Counter) : (s.onCounter i f).cond = s.cond := rfl
@[simp] theorem State.onCounter_link (i : CounterId) (f : Counter → Counter) : (s.onCounter i f).link = s.link := rfl
@[simp] theorem State.onCounter_own (i : CounterId) (f : Counter → Counter) : (s.onCounter i f).own = s.own := rfl

@[simp] theorem State.onZone_pending (z : Zone) (f : ZoneRec → ZoneRec) : (s.onZone z f).pending = s.pending := rfl
@[simp] theorem State.onZone_settings (z : Zone) (f : ZoneRec → ZoneRec) : (s.onZone z f).settings = s.settings := rfl
@[simp] theorem State.onZone_zones (z : Zone) (f : ZoneRec → ZoneRec) :
    (s.onZone z f).zones = s.zones.set z (f (s.zones.get z)) := rfl
@[simp] theorem State.onZone_scanner (z : Zone) (f : ZoneRec → ZoneRec) : (s.onZone z f).scanner = s.scanner := rfl
@[simp] theorem State.onZone_arb (z : Zone) (f : ZoneRec → ZoneRec) : (s.onZone z f).arb = s.arb := rfl
@[simp] theorem State.onZone_air (z : Zone) (f : ZoneRec → ZoneRec) : (s.onZone z f).air = s.air := rfl
@[simp] theorem State.onZone_comp (z : Zone) (f : ZoneRec → ZoneRec) : (s.onZone z f).comp = s.comp := rfl
@[simp] theorem State.onZone_defr (z : Zone) (f : ZoneRec → ZoneRec) : (s.onZone z f).defr = s.defr := rfl
@[simp] theorem State.onZone_doors (z : Zone) (f : ZoneRec → ZoneRec) : (s.onZone z f).doors = s.doors := rfl
@[simp] theorem State.onZone_bank (z : Zone) (f : ZoneRec → ZoneRec) : (s.onZone z f).bank = s.bank := rfl
@[simp] theorem State.onZone_cond (z : Zone) (f : ZoneRec → ZoneRec) : (s.onZone z f).cond = s.cond := rfl
@[simp] theorem State.onZone_link (z : Zone) (f : ZoneRec → ZoneRec) : (s.onZone z f).link = s.link := rfl
@[simp] theorem State.onZone_own (z : Zone) (f : ZoneRec → ZoneRec) : (s.onZone z f).own = s.own := rfl

@[simp] theorem State.recomputeU_pending (z : Zone) : (s.recomputeU z).pending = s.pending := rfl
@[simp] theorem State.recomputeU_settings (z : Zone) : (s.recomputeU z).settings = s.settings := rfl
@[simp] theorem State.recomputeU_zones (z : Zone) :
    (s.recomputeU z).zones = s.zones.set z { s.zones.get z with urgency := s.urgencyNow z } := rfl
@[simp] theorem State.recomputeU_scanner (z : Zone) : (s.recomputeU z).scanner = s.scanner := rfl
@[simp] theorem State.recomputeU_arb (z : Zone) : (s.recomputeU z).arb = s.arb := rfl
@[simp] theorem State.recomputeU_air (z : Zone) : (s.recomputeU z).air = s.air := rfl
@[simp] theorem State.recomputeU_comp (z : Zone) : (s.recomputeU z).comp = s.comp := rfl
@[simp] theorem State.recomputeU_defr (z : Zone) : (s.recomputeU z).defr = s.defr := rfl
@[simp] theorem State.recomputeU_doors (z : Zone) : (s.recomputeU z).doors = s.doors := rfl
@[simp] theorem State.recomputeU_bank (z : Zone) : (s.recomputeU z).bank = s.bank := rfl
@[simp] theorem State.recomputeU_cond (z : Zone) : (s.recomputeU z).cond = s.cond := rfl
@[simp] theorem State.recomputeU_link (z : Zone) : (s.recomputeU z).link = s.link := rfl
@[simp] theorem State.recomputeU_own (z : Zone) : (s.recomputeU z).own = s.own := rfl

@[simp] theorem State.onDoor_pending (d : Door) (f : DoorRec → DoorRec) : (s.onDoor d f).pending = s.pending := rfl
@[simp] theorem State.onDoor_settings (d : Door) (f : DoorRec → DoorRec) : (s.onDoor d f).settings = s.settings := rfl
@[simp] theorem State.onDoor_zones (d : Door) (f : DoorRec → DoorRec) : (s.onDoor d f).zones = s.zones := rfl
@[simp] theorem State.onDoor_scanner (d : Door) (f : DoorRec → DoorRec) : (s.onDoor d f).scanner = s.scanner := rfl
@[simp] theorem State.onDoor_arb (d : Door) (f : DoorRec → DoorRec) : (s.onDoor d f).arb = s.arb := rfl
@[simp] theorem State.onDoor_air (d : Door) (f : DoorRec → DoorRec) : (s.onDoor d f).air = s.air := rfl
@[simp] theorem State.onDoor_comp (d : Door) (f : DoorRec → DoorRec) : (s.onDoor d f).comp = s.comp := rfl
@[simp] theorem State.onDoor_defr (d : Door) (f : DoorRec → DoorRec) : (s.onDoor d f).defr = s.defr := rfl
@[simp] theorem State.onDoor_doors (d : Door) (f : DoorRec → DoorRec) :
    (s.onDoor d f).doors = { s.doors with recs := s.doors.recs.set d (f (s.doors.recs.get d)) } := rfl
@[simp] theorem State.onDoor_bank (d : Door) (f : DoorRec → DoorRec) : (s.onDoor d f).bank = s.bank := rfl
@[simp] theorem State.onDoor_cond (d : Door) (f : DoorRec → DoorRec) : (s.onDoor d f).cond = s.cond := rfl
@[simp] theorem State.onDoor_link (d : Door) (f : DoorRec → DoorRec) : (s.onDoor d f).link = s.link := rfl
@[simp] theorem State.onDoor_own (d : Door) (f : DoorRec → DoorRec) : (s.onDoor d f).own = s.own := rfl

@[simp] theorem State.setLevel_pending (i : Cond) (b : Bool) : (s.setLevel i b).pending = s.pending := rfl
@[simp] theorem State.setLevel_settings (i : Cond) (b : Bool) : (s.setLevel i b).settings = s.settings := rfl
@[simp] theorem State.setLevel_zones (i : Cond) (b : Bool) : (s.setLevel i b).zones = s.zones := rfl
@[simp] theorem State.setLevel_scanner (i : Cond) (b : Bool) : (s.setLevel i b).scanner = s.scanner := rfl
@[simp] theorem State.setLevel_arb (i : Cond) (b : Bool) : (s.setLevel i b).arb = s.arb := rfl
@[simp] theorem State.setLevel_air (i : Cond) (b : Bool) : (s.setLevel i b).air = s.air := rfl
@[simp] theorem State.setLevel_comp (i : Cond) (b : Bool) : (s.setLevel i b).comp = s.comp := rfl
@[simp] theorem State.setLevel_defr (i : Cond) (b : Bool) : (s.setLevel i b).defr = s.defr := rfl
@[simp] theorem State.setLevel_doors (i : Cond) (b : Bool) : (s.setLevel i b).doors = s.doors := rfl
@[simp] theorem State.setLevel_bank (i : Cond) (b : Bool) : (s.setLevel i b).bank = s.bank := rfl
@[simp] theorem State.setLevel_cond (i : Cond) (b : Bool) : (s.setLevel i b).cond = s.cond.setLevel i b := rfl
@[simp] theorem State.setLevel_link (i : Cond) (b : Bool) : (s.setLevel i b).link = s.link := rfl
@[simp] theorem State.setLevel_own (i : Cond) (b : Bool) : (s.setLevel i b).own = s.own := rfl

@[simp] theorem State.raise_pending (i : Cond) : (s.raise i).pending = s.pending := rfl
@[simp] theorem State.raise_settings (i : Cond) : (s.raise i).settings = s.settings := rfl
@[simp] theorem State.raise_zones (i : Cond) : (s.raise i).zones = s.zones := rfl
@[simp] theorem State.raise_scanner (i : Cond) : (s.raise i).scanner = s.scanner := rfl
@[simp] theorem State.raise_arb (i : Cond) : (s.raise i).arb = s.arb := rfl
@[simp] theorem State.raise_air (i : Cond) : (s.raise i).air = s.air := rfl
@[simp] theorem State.raise_comp (i : Cond) : (s.raise i).comp = s.comp := rfl
@[simp] theorem State.raise_defr (i : Cond) : (s.raise i).defr = s.defr := rfl
@[simp] theorem State.raise_doors (i : Cond) : (s.raise i).doors = s.doors := rfl
@[simp] theorem State.raise_bank (i : Cond) : (s.raise i).bank = s.bank := rfl
@[simp] theorem State.raise_cond (i : Cond) : (s.raise i).cond = s.cond.mark i := rfl
@[simp] theorem State.raise_link (i : Cond) : (s.raise i).link = s.link := rfl
@[simp] theorem State.raise_own (i : Cond) : (s.raise i).own = s.own := rfl

@[simp] theorem State.onAlarm_pending (z : Zone) (f : AlarmRec → AlarmRec) : (s.onAlarm z f).pending = s.pending := rfl
@[simp] theorem State.onAlarm_settings (z : Zone) (f : AlarmRec → AlarmRec) :
    (s.onAlarm z f).settings = s.settings := rfl
@[simp] theorem State.onAlarm_zones (z : Zone) (f : AlarmRec → AlarmRec) : (s.onAlarm z f).zones = s.zones := rfl
@[simp] theorem State.onAlarm_scanner (z : Zone) (f : AlarmRec → AlarmRec) : (s.onAlarm z f).scanner = s.scanner := rfl
@[simp] theorem State.onAlarm_arb (z : Zone) (f : AlarmRec → AlarmRec) : (s.onAlarm z f).arb = s.arb := rfl
@[simp] theorem State.onAlarm_air (z : Zone) (f : AlarmRec → AlarmRec) : (s.onAlarm z f).air = s.air := rfl
@[simp] theorem State.onAlarm_comp (z : Zone) (f : AlarmRec → AlarmRec) : (s.onAlarm z f).comp = s.comp := rfl
@[simp] theorem State.onAlarm_defr (z : Zone) (f : AlarmRec → AlarmRec) : (s.onAlarm z f).defr = s.defr := rfl
@[simp] theorem State.onAlarm_doors (z : Zone) (f : AlarmRec → AlarmRec) : (s.onAlarm z f).doors = s.doors := rfl
@[simp] theorem State.onAlarm_bank (z : Zone) (f : AlarmRec → AlarmRec) : (s.onAlarm z f).bank = s.bank := rfl
@[simp] theorem State.onAlarm_cond (z : Zone) (f : AlarmRec → AlarmRec) :
    (s.onAlarm z f).cond = { s.cond with alarms := s.cond.alarms.set z (f (s.cond.alarms.get z)) } := rfl
@[simp] theorem State.onAlarm_link (z : Zone) (f : AlarmRec → AlarmRec) : (s.onAlarm z f).link = s.link := rfl
@[simp] theorem State.onAlarm_own (z : Zone) (f : AlarmRec → AlarmRec) : (s.onAlarm z f).own = s.own := rfl

@[simp] theorem State.onDamper_pending (d : Damper) (f : DamperRec → DamperRec) :
    (s.onDamper d f).pending = s.pending := rfl
@[simp] theorem State.onDamper_settings (d : Damper) (f : DamperRec → DamperRec) :
    (s.onDamper d f).settings = s.settings := rfl
@[simp] theorem State.onDamper_zones (d : Damper) (f : DamperRec → DamperRec) : (s.onDamper d f).zones = s.zones := rfl
@[simp] theorem State.onDamper_scanner (d : Damper) (f : DamperRec → DamperRec) :
    (s.onDamper d f).scanner = s.scanner := rfl
@[simp] theorem State.onDamper_arb (d : Damper) (f : DamperRec → DamperRec) : (s.onDamper d f).arb = s.arb := rfl
@[simp] theorem State.onDamper_air (d : Damper) (f : DamperRec → DamperRec) :
    (s.onDamper d f).air = { s.air with dampers := s.air.dampers.set d (f (s.air.dampers.get d)) } := rfl
@[simp] theorem State.onDamper_comp (d : Damper) (f : DamperRec → DamperRec) : (s.onDamper d f).comp = s.comp := rfl
@[simp] theorem State.onDamper_defr (d : Damper) (f : DamperRec → DamperRec) : (s.onDamper d f).defr = s.defr := rfl
@[simp] theorem State.onDamper_doors (d : Damper) (f : DamperRec → DamperRec) : (s.onDamper d f).doors = s.doors := rfl
@[simp] theorem State.onDamper_bank (d : Damper) (f : DamperRec → DamperRec) : (s.onDamper d f).bank = s.bank := rfl
@[simp] theorem State.onDamper_cond (d : Damper) (f : DamperRec → DamperRec) : (s.onDamper d f).cond = s.cond := rfl
@[simp] theorem State.onDamper_link (d : Damper) (f : DamperRec → DamperRec) : (s.onDamper d f).link = s.link := rfl
@[simp] theorem State.onDamper_own (d : Damper) (f : DamperRec → DamperRec) : (s.onDamper d f).own = s.own := rfl

@[simp] theorem State.onFan_pending (f : Fan → Fan) : (s.onFan f).pending = s.pending := rfl
@[simp] theorem State.onFan_settings (f : Fan → Fan) : (s.onFan f).settings = s.settings := rfl
@[simp] theorem State.onFan_zones (f : Fan → Fan) : (s.onFan f).zones = s.zones := rfl
@[simp] theorem State.onFan_scanner (f : Fan → Fan) : (s.onFan f).scanner = s.scanner := rfl
@[simp] theorem State.onFan_arb (f : Fan → Fan) : (s.onFan f).arb = s.arb := rfl
@[simp] theorem State.onFan_air (f : Fan → Fan) : (s.onFan f).air = { s.air with fan := f s.air.fan } := rfl
@[simp] theorem State.onFan_comp (f : Fan → Fan) : (s.onFan f).comp = s.comp := rfl
@[simp] theorem State.onFan_defr (f : Fan → Fan) : (s.onFan f).defr = s.defr := rfl
@[simp] theorem State.onFan_doors (f : Fan → Fan) : (s.onFan f).doors = s.doors := rfl
@[simp] theorem State.onFan_bank (f : Fan → Fan) : (s.onFan f).bank = s.bank := rfl
@[simp] theorem State.onFan_cond (f : Fan → Fan) : (s.onFan f).cond = s.cond := rfl
@[simp] theorem State.onFan_link (f : Fan → Fan) : (s.onFan f).link = s.link := rfl
@[simp] theorem State.onFan_own (f : Fan → Fan) : (s.onFan f).own = s.own := rfl

@[simp] theorem State.onComp_pending (f : Compressor → Compressor) : (s.onComp f).pending = s.pending := rfl
@[simp] theorem State.onComp_settings (f : Compressor → Compressor) : (s.onComp f).settings = s.settings := rfl
@[simp] theorem State.onComp_zones (f : Compressor → Compressor) : (s.onComp f).zones = s.zones := rfl
@[simp] theorem State.onComp_scanner (f : Compressor → Compressor) : (s.onComp f).scanner = s.scanner := rfl
@[simp] theorem State.onComp_arb (f : Compressor → Compressor) : (s.onComp f).arb = s.arb := rfl
@[simp] theorem State.onComp_air (f : Compressor → Compressor) : (s.onComp f).air = s.air := rfl
@[simp] theorem State.onComp_comp (f : Compressor → Compressor) : (s.onComp f).comp = f s.comp := rfl
@[simp] theorem State.onComp_defr (f : Compressor → Compressor) : (s.onComp f).defr = s.defr := rfl
@[simp] theorem State.onComp_doors (f : Compressor → Compressor) : (s.onComp f).doors = s.doors := rfl
@[simp] theorem State.onComp_bank (f : Compressor → Compressor) : (s.onComp f).bank = s.bank := rfl
@[simp] theorem State.onComp_cond (f : Compressor → Compressor) : (s.onComp f).cond = s.cond := rfl
@[simp] theorem State.onComp_link (f : Compressor → Compressor) : (s.onComp f).link = s.link := rfl
@[simp] theorem State.onComp_own (f : Compressor → Compressor) : (s.onComp f).own = s.own := rfl

@[simp] theorem State.onDefr_pending (f : Defrost → Defrost) : (s.onDefr f).pending = s.pending := rfl
@[simp] theorem State.onDefr_settings (f : Defrost → Defrost) : (s.onDefr f).settings = s.settings := rfl
@[simp] theorem State.onDefr_zones (f : Defrost → Defrost) : (s.onDefr f).zones = s.zones := rfl
@[simp] theorem State.onDefr_scanner (f : Defrost → Defrost) : (s.onDefr f).scanner = s.scanner := rfl
@[simp] theorem State.onDefr_arb (f : Defrost → Defrost) : (s.onDefr f).arb = s.arb := rfl
@[simp] theorem State.onDefr_air (f : Defrost → Defrost) : (s.onDefr f).air = s.air := rfl
@[simp] theorem State.onDefr_comp (f : Defrost → Defrost) : (s.onDefr f).comp = s.comp := rfl
@[simp] theorem State.onDefr_defr (f : Defrost → Defrost) : (s.onDefr f).defr = f s.defr := rfl
@[simp] theorem State.onDefr_doors (f : Defrost → Defrost) : (s.onDefr f).doors = s.doors := rfl
@[simp] theorem State.onDefr_bank (f : Defrost → Defrost) : (s.onDefr f).bank = s.bank := rfl
@[simp] theorem State.onDefr_cond (f : Defrost → Defrost) : (s.onDefr f).cond = s.cond := rfl
@[simp] theorem State.onDefr_link (f : Defrost → Defrost) : (s.onDefr f).link = s.link := rfl
@[simp] theorem State.onDefr_own (f : Defrost → Defrost) : (s.onDefr f).own = s.own := rfl

@[simp] theorem State.onArb_pending (f : Arbiter → Arbiter) : (s.onArb f).pending = s.pending := rfl
@[simp] theorem State.onArb_settings (f : Arbiter → Arbiter) : (s.onArb f).settings = s.settings := rfl
@[simp] theorem State.onArb_zones (f : Arbiter → Arbiter) : (s.onArb f).zones = s.zones := rfl
@[simp] theorem State.onArb_scanner (f : Arbiter → Arbiter) : (s.onArb f).scanner = s.scanner := rfl
@[simp] theorem State.onArb_arb (f : Arbiter → Arbiter) : (s.onArb f).arb = f s.arb := rfl
@[simp] theorem State.onArb_air (f : Arbiter → Arbiter) : (s.onArb f).air = s.air := rfl
@[simp] theorem State.onArb_comp (f : Arbiter → Arbiter) : (s.onArb f).comp = s.comp := rfl
@[simp] theorem State.onArb_defr (f : Arbiter → Arbiter) : (s.onArb f).defr = s.defr := rfl
@[simp] theorem State.onArb_doors (f : Arbiter → Arbiter) : (s.onArb f).doors = s.doors := rfl
@[simp] theorem State.onArb_bank (f : Arbiter → Arbiter) : (s.onArb f).bank = s.bank := rfl
@[simp] theorem State.onArb_cond (f : Arbiter → Arbiter) : (s.onArb f).cond = s.cond := rfl
@[simp] theorem State.onArb_link (f : Arbiter → Arbiter) : (s.onArb f).link = s.link := rfl
@[simp] theorem State.onArb_own (f : Arbiter → Arbiter) : (s.onArb f).own = s.own := rfl

@[simp] theorem setHolder_pending (h : Holder) : (setHolder h s).pending = s.pending := rfl
@[simp] theorem setHolder_settings (h : Holder) : (setHolder h s).settings = s.settings := rfl
@[simp] theorem setHolder_zones (h : Holder) : (setHolder h s).zones = s.zones := rfl
@[simp] theorem setHolder_scanner (h : Holder) : (setHolder h s).scanner = s.scanner := rfl
@[simp] theorem setHolder_arb (h : Holder) : (setHolder h s).arb = { s.arb with holder := h } := rfl
@[simp] theorem setHolder_air (h : Holder) : (setHolder h s).air = s.air := rfl
@[simp] theorem setHolder_comp (h : Holder) : (setHolder h s).comp = s.comp := rfl
@[simp] theorem setHolder_defr (h : Holder) : (setHolder h s).defr = s.defr := rfl
@[simp] theorem setHolder_doors (h : Holder) : (setHolder h s).doors = s.doors := rfl
@[simp] theorem setHolder_bank (h : Holder) : (setHolder h s).bank = s.bank := rfl
@[simp] theorem setHolder_cond (h : Holder) : (setHolder h s).cond = s.cond := rfl
@[simp] theorem setHolder_link (h : Holder) : (setHolder h s).link = s.link := rfl
@[simp] theorem setHolder_own (h : Holder) : (setHolder h s).own = s.own := rfl

@[simp] theorem State.onLink_pending (f : Link → Link) : (s.onLink f).pending = s.pending := rfl
@[simp] theorem State.onLink_settings (f : Link → Link) : (s.onLink f).settings = s.settings := rfl
@[simp] theorem State.onLink_zones (f : Link → Link) : (s.onLink f).zones = s.zones := rfl
@[simp] theorem State.onLink_scanner (f : Link → Link) : (s.onLink f).scanner = s.scanner := rfl
@[simp] theorem State.onLink_arb (f : Link → Link) : (s.onLink f).arb = s.arb := rfl
@[simp] theorem State.onLink_air (f : Link → Link) : (s.onLink f).air = s.air := rfl
@[simp] theorem State.onLink_comp (f : Link → Link) : (s.onLink f).comp = s.comp := rfl
@[simp] theorem State.onLink_defr (f : Link → Link) : (s.onLink f).defr = s.defr := rfl
@[simp] theorem State.onLink_doors (f : Link → Link) : (s.onLink f).doors = s.doors := rfl
@[simp] theorem State.onLink_bank (f : Link → Link) : (s.onLink f).bank = s.bank := rfl
@[simp] theorem State.onLink_cond (f : Link → Link) : (s.onLink f).cond = s.cond := rfl
@[simp] theorem State.onLink_link (f : Link → Link) : (s.onLink f).link = f s.link := rfl
@[simp] theorem State.onLink_own (f : Link → Link) : (s.onLink f).own = s.own := rfl

@[simp] theorem setPause_pending (p : PauseState) : (setPause p s).pending = s.pending := rfl
@[simp] theorem setPause_settings (p : PauseState) : (setPause p s).settings = s.settings := rfl
@[simp] theorem setPause_zones (p : PauseState) : (setPause p s).zones = s.zones := rfl
@[simp] theorem setPause_scanner (p : PauseState) : (setPause p s).scanner = s.scanner := rfl
@[simp] theorem setPause_arb (p : PauseState) : (setPause p s).arb = s.arb := rfl
@[simp] theorem setPause_air (p : PauseState) : (setPause p s).air = s.air := rfl
@[simp] theorem setPause_comp (p : PauseState) : (setPause p s).comp = s.comp := rfl
@[simp] theorem setPause_defr (p : PauseState) : (setPause p s).defr = s.defr := rfl
@[simp] theorem setPause_doors (p : PauseState) : (setPause p s).doors = { s.doors with pause := p } := rfl
@[simp] theorem setPause_bank (p : PauseState) : (setPause p s).bank = s.bank := rfl
@[simp] theorem setPause_cond (p : PauseState) : (setPause p s).cond = s.cond := rfl
@[simp] theorem setPause_link (p : PauseState) : (setPause p s).link = s.link := rfl
@[simp] theorem setPause_own (p : PauseState) : (setPause p s).own = s.own := rfl

@[simp] theorem setPauseSpent_pending (b : Bool) : (setPauseSpent b s).pending = s.pending := rfl
@[simp] theorem setPauseSpent_settings (b : Bool) : (setPauseSpent b s).settings = s.settings := rfl
@[simp] theorem setPauseSpent_zones (b : Bool) : (setPauseSpent b s).zones = s.zones := rfl
@[simp] theorem setPauseSpent_scanner (b : Bool) : (setPauseSpent b s).scanner = s.scanner := rfl
@[simp] theorem setPauseSpent_arb (b : Bool) : (setPauseSpent b s).arb = s.arb := rfl
@[simp] theorem setPauseSpent_air (b : Bool) : (setPauseSpent b s).air = s.air := rfl
@[simp] theorem setPauseSpent_comp (b : Bool) : (setPauseSpent b s).comp = s.comp := rfl
@[simp] theorem setPauseSpent_defr (b : Bool) : (setPauseSpent b s).defr = s.defr := rfl
@[simp] theorem setPauseSpent_doors (b : Bool) : (setPauseSpent b s).doors = { s.doors with pauseSpent := b } := rfl
@[simp] theorem setPauseSpent_bank (b : Bool) : (setPauseSpent b s).bank = s.bank := rfl
@[simp] theorem setPauseSpent_cond (b : Bool) : (setPauseSpent b s).cond = s.cond := rfl
@[simp] theorem setPauseSpent_link (b : Bool) : (setPauseSpent b s).link = s.link := rfl
@[simp] theorem setPauseSpent_own (b : Bool) : (setPauseSpent b s).own = s.own := rfl

@[simp] theorem refreshHeater_pending : (refreshHeater s).pending = s.pending := rfl
@[simp] theorem refreshHeater_settings : (refreshHeater s).settings = s.settings := rfl
@[simp] theorem refreshHeater_zones : (refreshHeater s).zones = s.zones := rfl
@[simp] theorem refreshHeater_scanner : (refreshHeater s).scanner = s.scanner := rfl
@[simp] theorem refreshHeater_arb : (refreshHeater s).arb = s.arb := rfl
@[simp] theorem refreshHeater_air : (refreshHeater s).air = s.air := rfl
@[simp] theorem refreshHeater_comp : (refreshHeater s).comp = s.comp := rfl
@[simp] theorem refreshHeater_defr : (refreshHeater s).defr = { s.defr with heaterDrive := s.heaterWanted } := rfl
@[simp] theorem refreshHeater_doors : (refreshHeater s).doors = s.doors := rfl
@[simp] theorem refreshHeater_bank : (refreshHeater s).bank = s.bank := rfl
@[simp] theorem refreshHeater_cond : (refreshHeater s).cond = s.cond := rfl
@[simp] theorem refreshHeater_link : (refreshHeater s).link = s.link := rfl
@[simp] theorem refreshHeater_own : (refreshHeater s).own = s.own := rfl

end Machine

end Sys2Proof
end

