-- ==== Sys2Proof/Laws/FramesPath.lean ====
section
/-! SUPPORT. One lemma per operation that says what it leaves alone: the operations of the counters, the Condition Unit, the air path, the compressor and the Arbiter. -/

namespace Sys2Proof.Machine

/-- A property of the state an operation answers, with the operation written once: for the proofs below. -/
def Holds (P : State → Prop) (t : State) : Prop := P t

theorem holds_elim (P : State → Prop) {t : State} (h : Holds P t) : P t := h

variable (s : State)

/-! ### Machine/Ops.lean -/

@[simp] theorem State.stopC_keeps (i : CounterId) :
    (State.stopC i s).pending = s.pending ∧ (State.stopC i s).settings = s.settings ∧
    (State.stopC i s).zones = s.zones ∧ (State.stopC i s).scanner = s.scanner ∧ (State.stopC i s).arb = s.arb ∧
    (State.stopC i s).air = s.air ∧ (State.stopC i s).comp = s.comp ∧ (State.stopC i s).defr = s.defr ∧
    (State.stopC i s).doors = s.doors ∧ (State.stopC i s).cond = s.cond ∧ (State.stopC i s).link = s.link ∧
    (State.stopC i s).own = s.own := by
  refine holds_elim (fun t =>
      t.pending = s.pending ∧ t.settings = s.settings ∧ t.zones = s.zones ∧ t.scanner = s.scanner ∧ t.arb = s.arb ∧
      t.air = s.air ∧ t.comp = s.comp ∧ t.defr = s.defr ∧ t.doors = s.doors ∧ t.cond = s.cond ∧ t.link = s.link ∧
      t.own = s.own) ?_
  simp [Holds, State.stopC]

@[simp] theorem State.clearC_keeps (i : CounterId) :
    (State.clearC i s).pending = s.pending ∧ (State.clearC i s).settings = s.settings ∧
    (State.clearC i s).zones = s.zones ∧ (State.clearC i s).scanner = s.scanner ∧ (State.clearC i s).arb = s.arb ∧
    (State.clearC i s).air = s.air ∧ (State.clearC i s).comp = s.comp ∧ (State.clearC i s).defr = s.defr ∧
    (State.clearC i s).doors = s.doors ∧ (State.clearC i s).cond = s.cond ∧ (State.clearC i s).link = s.link ∧
    (State.clearC i s).own = s.own := by
  refine holds_elim (fun t =>
      t.pending = s.pending ∧ t.settings = s.settings ∧ t.zones = s.zones ∧ t.scanner = s.scanner ∧ t.arb = s.arb ∧
      t.air = s.air ∧ t.comp = s.comp ∧ t.defr = s.defr ∧ t.doors = s.doors ∧ t.cond = s.cond ∧ t.link = s.link ∧
      t.own = s.own) ?_
  simp [Holds, State.clearC]

@[simp] theorem State.writeC_keeps (i : CounterId) (n : Nat) :
    (State.writeC i n s).pending = s.pending ∧ (State.writeC i n s).settings = s.settings ∧
    (State.writeC i n s).zones = s.zones ∧ (State.writeC i n s).scanner = s.scanner ∧
    (State.writeC i n s).arb = s.arb ∧ (State.writeC i n s).air = s.air ∧ (State.writeC i n s).comp = s.comp ∧
    (State.writeC i n s).defr = s.defr ∧ (State.writeC i n s).doors = s.doors ∧
    (State.writeC i n s).cond = s.cond ∧ (State.writeC i n s).link = s.link ∧ (State.writeC i n s).own = s.own := by
  refine holds_elim (fun t =>
      t.pending = s.pending ∧ t.settings = s.settings ∧ t.zones = s.zones ∧ t.scanner = s.scanner ∧ t.arb = s.arb ∧
      t.air = s.air ∧ t.comp = s.comp ∧ t.defr = s.defr ∧ t.doors = s.doors ∧ t.cond = s.cond ∧ t.link = s.link ∧
      t.own = s.own) ?_
  simp [Holds, State.writeC]

@[simp] theorem State.startC_keeps (i : CounterId) :
    (State.startC i s).pending = s.pending ∧ (State.startC i s).settings = s.settings ∧
    (State.startC i s).zones = s.zones ∧ (State.startC i s).scanner = s.scanner ∧ (State.startC i s).arb = s.arb ∧
    (State.startC i s).air = s.air ∧ (State.startC i s).comp = s.comp ∧ (State.startC i s).defr = s.defr ∧
    (State.startC i s).doors = s.doors ∧ (State.startC i s).cond = s.cond ∧ (State.startC i s).link = s.link := by
  refine holds_elim (fun t =>
      t.pending = s.pending ∧ t.settings = s.settings ∧ t.zones = s.zones ∧ t.scanner = s.scanner ∧ t.arb = s.arb ∧
      t.air = s.air ∧ t.comp = s.comp ∧ t.defr = s.defr ∧ t.doors = s.doors ∧ t.cond = s.cond ∧ t.link = s.link) ?_
  unfold State.startC
  dsimp only
  split <;> simp [Holds]

@[simp] theorem State.restartC_keeps (i : CounterId) (n : Nat) :
    (State.restartC i n s).pending = s.pending ∧ (State.restartC i n s).settings = s.settings ∧
    (State.restartC i n s).zones = s.zones ∧ (State.restartC i n s).scanner = s.scanner ∧
    (State.restartC i n s).arb = s.arb ∧ (State.restartC i n s).air = s.air ∧
    (State.restartC i n s).comp = s.comp ∧ (State.restartC i n s).defr = s.defr ∧
    (State.restartC i n s).doors = s.doors ∧ (State.restartC i n s).cond = s.cond ∧
    (State.restartC i n s).link = s.link := by
  refine holds_elim (fun t =>
      t.pending = s.pending ∧ t.settings = s.settings ∧ t.zones = s.zones ∧ t.scanner = s.scanner ∧ t.arb = s.arb ∧
      t.air = s.air ∧ t.comp = s.comp ∧ t.defr = s.defr ∧ t.doors = s.doors ∧ t.cond = s.cond ∧ t.link = s.link) ?_
  simp [Holds, State.restartC]

@[simp] theorem State.writeRunning_keeps (i : CounterId) (n : Nat) :
    (State.writeRunning i n s).pending = s.pending ∧ (State.writeRunning i n s).settings = s.settings ∧
    (State.writeRunning i n s).zones = s.zones ∧ (State.writeRunning i n s).scanner = s.scanner ∧
    (State.writeRunning i n s).arb = s.arb ∧ (State.writeRunning i n s).air = s.air ∧
    (State.writeRunning i n s).comp = s.comp ∧ (State.writeRunning i n s).defr = s.defr ∧
    (State.writeRunning i n s).doors = s.doors ∧ (State.writeRunning i n s).cond = s.cond ∧
    (State.writeRunning i n s).link = s.link ∧ (State.writeRunning i n s).own = s.own := by
  refine holds_elim (fun t =>
      t.pending = s.pending ∧ t.settings = s.settings ∧ t.zones = s.zones ∧ t.scanner = s.scanner ∧ t.arb = s.arb ∧
      t.air = s.air ∧ t.comp = s.comp ∧ t.defr = s.defr ∧ t.doors = s.doors ∧ t.cond = s.cond ∧ t.link = s.link ∧
      t.own = s.own) ?_
  unfold State.writeRunning
  split <;> simp [Holds]

/-! ### Machine/Flags.lean -/

@[simp] theorem warmDeassert_keeps (z : Zone) (cause : AlarmCause) :
    (warmDeassert z cause s).pending = s.pending ∧ (warmDeassert z cause s).settings = s.settings ∧
    (warmDeassert z cause s).zones = s.zones ∧ (warmDeassert z cause s).scanner = s.scanner ∧
    (warmDeassert z cause s).arb = s.arb ∧ (warmDeassert z cause s).air = s.air ∧
    (warmDeassert z cause s).comp = s.comp ∧ (warmDeassert z cause s).defr = s.defr ∧
    (warmDeassert z cause s).doors = s.doors ∧ (warmDeassert z cause s).bank = s.bank ∧
    (warmDeassert z cause s).link = s.link ∧ (warmDeassert z cause s).own = s.own := by
  refine holds_elim (fun t =>
      t.pending = s.pending ∧ t.settings = s.settings ∧ t.zones = s.zones ∧ t.scanner = s.scanner ∧ t.arb = s.arb ∧
      t.air = s.air ∧ t.comp = s.comp ∧ t.defr = s.defr ∧ t.doors = s.doors ∧ t.bank = s.bank ∧ t.link = s.link ∧
      t.own = s.own) ?_
  unfold warmDeassert
  repeat' split
  all_goals simp [Holds]

@[simp] theorem coldDeassert_keeps (z : Zone) (cause : AlarmCause) :
    (coldDeassert z cause s).pending = s.pending ∧ (coldDeassert z cause s).settings = s.settings ∧
    (coldDeassert z cause s).zones = s.zones ∧ (coldDeassert z cause s).scanner = s.scanner ∧
    (coldDeassert z cause s).arb = s.arb ∧ (coldDeassert z cause s).air = s.air ∧
    (coldDeassert z cause s).comp = s.comp ∧ (coldDeassert z cause s).defr = s.defr ∧
    (coldDeassert z cause s).doors = s.doors ∧ (coldDeassert z cause s).bank = s.bank ∧
    (coldDeassert z cause s).link = s.link ∧ (coldDeassert z cause s).own = s.own := by
  refine holds_elim (fun t =>
      t.pending = s.pending ∧ t.settings = s.settings ∧ t.zones = s.zones ∧ t.scanner = s.scanner ∧ t.arb = s.arb ∧
      t.air = s.air ∧ t.comp = s.comp ∧ t.defr = s.defr ∧ t.doors = s.doors ∧ t.bank = s.bank ∧ t.link = s.link ∧
      t.own = s.own) ?_
  unfold coldDeassert
  repeat' split
  all_goals simp [Holds]

@[simp] theorem stopAlarm_keeps (z : Zone) :
    (stopAlarm z s).pending = s.pending ∧ (stopAlarm z s).settings = s.settings ∧ (stopAlarm z s).zones = s.zones ∧
    (stopAlarm z s).scanner = s.scanner ∧ (stopAlarm z s).arb = s.arb ∧ (stopAlarm z s).air = s.air ∧
    (stopAlarm z s).comp = s.comp ∧ (stopAlarm z s).defr = s.defr ∧ (stopAlarm z s).doors = s.doors ∧
    (stopAlarm z s).link = s.link ∧ (stopAlarm z s).own = s.own := by
  refine holds_elim (fun t =>
      t.pending = s.pending ∧ t.settings = s.settings ∧ t.zones = s.zones ∧ t.scanner = s.scanner ∧ t.arb = s.arb ∧
      t.air = s.air ∧ t.comp = s.comp ∧ t.defr = s.defr ∧ t.doors = s.doors ∧ t.link = s.link ∧ t.own = s.own) ?_
  simp [Holds, stopAlarm]

@[simp] theorem startAlarm_keeps (z : Zone) (what : AlmFor) :
    (startAlarm z what s).pending = s.pending ∧ (startAlarm z what s).settings = s.settings ∧
    (startAlarm z what s).zones = s.zones ∧ (startAlarm z what s).scanner = s.scanner ∧
    (startAlarm z what s).arb = s.arb ∧ (startAlarm z what s).air = s.air ∧ (startAlarm z what s).comp = s.comp ∧
    (startAlarm z what s).defr = s.defr ∧ (startAlarm z what s).doors = s.doors ∧
    (startAlarm z what s).link = s.link := by
  refine holds_elim (fun t =>
      t.pending = s.pending ∧ t.settings = s.settings ∧ t.zones = s.zones ∧ t.scanner = s.scanner ∧ t.arb = s.arb ∧
      t.air = s.air ∧ t.comp = s.comp ∧ t.defr = s.defr ∧ t.doors = s.doors ∧ t.link = s.link) ?_
  simp [Holds, startAlarm]

@[simp] theorem warmTiming_keeps (z : Zone) (cause : AlarmCause) :
    (warmTiming z cause s).pending = s.pending ∧ (warmTiming z cause s).settings = s.settings ∧
    (warmTiming z cause s).zones = s.zones ∧ (warmTiming z cause s).scanner = s.scanner ∧
    (warmTiming z cause s).arb = s.arb ∧ (warmTiming z cause s).air = s.air ∧
    (warmTiming z cause s).comp = s.comp ∧ (warmTiming z cause s).defr = s.defr ∧
    (warmTiming z cause s).doors = s.doors ∧ (warmTiming z cause s).link = s.link := by
  refine holds_elim (fun t =>
      t.pending = s.pending ∧ t.settings = s.settings ∧ t.zones = s.zones ∧ t.scanner = s.scanner ∧ t.arb = s.arb ∧
      t.air = s.air ∧ t.comp = s.comp ∧ t.defr = s.defr ∧ t.doors = s.doors ∧ t.link = s.link) ?_
  unfold warmTiming
  dsimp only
  repeat' split
  all_goals simp [Holds]

@[simp] theorem coldTiming_keeps (z : Zone) (cause : AlarmCause) :
    (coldTiming z cause s).pending = s.pending ∧ (coldTiming z cause s).settings = s.settings ∧
    (coldTiming z cause s).zones = s.zones ∧ (coldTiming z cause s).scanner = s.scanner ∧
    (coldTiming z cause s).arb = s.arb ∧ (coldTiming z cause s).air = s.air ∧
    (coldTiming z cause s).comp = s.comp ∧ (coldTiming z cause s).defr = s.defr ∧
    (coldTiming z cause s).doors = s.doors ∧ (coldTiming z cause s).link = s.link := by
  refine holds_elim (fun t =>
      t.pending = s.pending ∧ t.settings = s.settings ∧ t.zones = s.zones ∧ t.scanner = s.scanner ∧ t.arb = s.arb ∧
      t.air = s.air ∧ t.comp = s.comp ∧ t.defr = s.defr ∧ t.doors = s.doors ∧ t.link = s.link) ?_
  unfold coldTiming
  dsimp only
  repeat' split
  all_goals simp [Holds]

@[simp] theorem evalAlarm_keeps (z : Zone) (cause : AlarmCause) :
    (evalAlarm z cause s).pending = s.pending ∧ (evalAlarm z cause s).settings = s.settings ∧
    (evalAlarm z cause s).zones = s.zones ∧ (evalAlarm z cause s).scanner = s.scanner ∧
    (evalAlarm z cause s).arb = s.arb ∧ (evalAlarm z cause s).air = s.air ∧ (evalAlarm z cause s).comp = s.comp ∧
    (evalAlarm z cause s).defr = s.defr ∧ (evalAlarm z cause s).doors = s.doors ∧
    (evalAlarm z cause s).link = s.link := by
  refine holds_elim (fun t =>
      t.pending = s.pending ∧ t.settings = s.settings ∧ t.zones = s.zones ∧ t.scanner = s.scanner ∧ t.arb = s.arb ∧
      t.air = s.air ∧ t.comp = s.comp ∧ t.defr = s.defr ∧ t.doors = s.doors ∧ t.link = s.link) ?_
  simp [Holds, evalAlarm]

@[simp] theorem alarmSample_keeps (z : Zone) :
    (alarmSample z s).pending = s.pending ∧ (alarmSample z s).settings = s.settings ∧
    (alarmSample z s).zones = s.zones ∧ (alarmSample z s).scanner = s.scanner ∧ (alarmSample z s).arb = s.arb ∧
    (alarmSample z s).air = s.air ∧ (alarmSample z s).comp = s.comp ∧ (alarmSample z s).defr = s.defr ∧
    (alarmSample z s).doors = s.doors ∧ (alarmSample z s).link = s.link := by
  refine holds_elim (fun t =>
      t.pending = s.pending ∧ t.settings = s.settings ∧ t.zones = s.zones ∧ t.scanner = s.scanner ∧ t.arb = s.arb ∧
      t.air = s.air ∧ t.comp = s.comp ∧ t.defr = s.defr ∧ t.doors = s.doors ∧ t.link = s.link) ?_
  unfold alarmSample
  dsimp only
  split <;> simp [Holds]

@[simp] theorem onAlmExpiry_keeps (z : Zone) :
    (onAlmExpiry z s).pending = s.pending ∧ (onAlmExpiry z s).settings = s.settings ∧
    (onAlmExpiry z s).zones = s.zones ∧ (onAlmExpiry z s).scanner = s.scanner ∧ (onAlmExpiry z s).arb = s.arb ∧
    (onAlmExpiry z s).air = s.air ∧ (onAlmExpiry z s).comp = s.comp ∧ (onAlmExpiry z s).defr = s.defr ∧
    (onAlmExpiry z s).doors = s.doors ∧ (onAlmExpiry z s).bank = s.bank ∧ (onAlmExpiry z s).link = s.link ∧
    (onAlmExpiry z s).own = s.own := by
  refine holds_elim (fun t =>
      t.pending = s.pending ∧ t.settings = s.settings ∧ t.zones = s.zones ∧ t.scanner = s.scanner ∧ t.arb = s.arb ∧
      t.air = s.air ∧ t.comp = s.comp ∧ t.defr = s.defr ∧ t.doors = s.doors ∧ t.bank = s.bank ∧ t.link = s.link ∧
      t.own = s.own) ?_
  unfold onAlmExpiry
  split <;> simp [Holds]

@[simp] theorem clearAlarms_keeps (z : Zone) :
    (clearAlarms z s).pending = s.pending ∧ (clearAlarms z s).settings = s.settings ∧
    (clearAlarms z s).zones = s.zones ∧ (clearAlarms z s).scanner = s.scanner ∧ (clearAlarms z s).arb = s.arb ∧
    (clearAlarms z s).air = s.air ∧ (clearAlarms z s).comp = s.comp ∧ (clearAlarms z s).defr = s.defr ∧
    (clearAlarms z s).doors = s.doors ∧ (clearAlarms z s).link = s.link ∧ (clearAlarms z s).own = s.own := by
  refine holds_elim (fun t =>
      t.pending = s.pending ∧ t.settings = s.settings ∧ t.zones = s.zones ∧ t.scanner = s.scanner ∧ t.arb = s.arb ∧
      t.air = s.air ∧ t.comp = s.comp ∧ t.defr = s.defr ∧ t.doors = s.doors ∧ t.link = s.link ∧ t.own = s.own) ?_
  simp [Holds, clearAlarms]

/-! ### Machine/AirPath.lean -/

@[simp] theorem giveTarget_keeps (d : Damper) (t : Nat) :
    (giveTarget d t s).pending = s.pending ∧ (giveTarget d t s).settings = s.settings ∧
    (giveTarget d t s).zones = s.zones ∧ (giveTarget d t s).scanner = s.scanner ∧ (giveTarget d t s).arb = s.arb ∧
    (giveTarget d t s).comp = s.comp ∧ (giveTarget d t s).defr = s.defr ∧ (giveTarget d t s).doors = s.doors ∧
    (giveTarget d t s).bank = s.bank ∧ (giveTarget d t s).cond = s.cond ∧ (giveTarget d t s).link = s.link ∧
    (giveTarget d t s).own = s.own := by
  refine holds_elim (fun t =>
      t.pending = s.pending ∧ t.settings = s.settings ∧ t.zones = s.zones ∧ t.scanner = s.scanner ∧ t.arb = s.arb ∧
      t.comp = s.comp ∧ t.defr = s.defr ∧ t.doors = s.doors ∧ t.bank = s.bank ∧ t.cond = s.cond ∧ t.link = s.link ∧
      t.own = s.own) ?_
  simp [Holds, giveTarget]

@[simp] theorem giveOpenings_keeps (fresh chill : Nat) :
    (giveOpenings fresh chill s).pending = s.pending ∧ (giveOpenings fresh chill s).settings = s.settings ∧
    (giveOpenings fresh chill s).zones = s.zones ∧ (giveOpenings fresh chill s).scanner = s.scanner ∧
    (giveOpenings fresh chill s).arb = s.arb ∧ (giveOpenings fresh chill s).comp = s.comp ∧
    (giveOpenings fresh chill s).defr = s.defr ∧ (giveOpenings fresh chill s).doors = s.doors ∧
    (giveOpenings fresh chill s).bank = s.bank ∧ (giveOpenings fresh chill s).cond = s.cond ∧
    (giveOpenings fresh chill s).link = s.link ∧ (giveOpenings fresh chill s).own = s.own := by
  refine holds_elim (fun t =>
      t.pending = s.pending ∧ t.settings = s.settings ∧ t.zones = s.zones ∧ t.scanner = s.scanner ∧ t.arb = s.arb ∧
      t.comp = s.comp ∧ t.defr = s.defr ∧ t.doors = s.doors ∧ t.bank = s.bank ∧ t.cond = s.cond ∧ t.link = s.link ∧
      t.own = s.own) ?_
  simp [Holds, giveOpenings]

@[simp] theorem requestHoming_keeps (d : Damper) :
    (requestHoming d s).pending = s.pending ∧ (requestHoming d s).settings = s.settings ∧
    (requestHoming d s).zones = s.zones ∧ (requestHoming d s).scanner = s.scanner ∧
    (requestHoming d s).arb = s.arb ∧ (requestHoming d s).comp = s.comp ∧ (requestHoming d s).defr = s.defr ∧
    (requestHoming d s).doors = s.doors ∧ (requestHoming d s).bank = s.bank ∧ (requestHoming d s).cond = s.cond ∧
    (requestHoming d s).link = s.link ∧ (requestHoming d s).own = s.own := by
  refine holds_elim (fun t =>
      t.pending = s.pending ∧ t.settings = s.settings ∧ t.zones = s.zones ∧ t.scanner = s.scanner ∧ t.arb = s.arb ∧
      t.comp = s.comp ∧ t.defr = s.defr ∧ t.doors = s.doors ∧ t.bank = s.bank ∧ t.cond = s.cond ∧ t.link = s.link ∧
      t.own = s.own) ?_
  simp [Holds, requestHoming]

@[simp] theorem kickFan_keeps :
    (kickFan s).pending = s.pending ∧ (kickFan s).settings = s.settings ∧ (kickFan s).zones = s.zones ∧
    (kickFan s).scanner = s.scanner ∧ (kickFan s).arb = s.arb ∧ (kickFan s).comp = s.comp ∧
    (kickFan s).defr = s.defr ∧ (kickFan s).doors = s.doors ∧ (kickFan s).cond = s.cond ∧ (kickFan s).link = s.link := by
  refine holds_elim (fun t =>
      t.pending = s.pending ∧ t.settings = s.settings ∧ t.zones = s.zones ∧ t.scanner = s.scanner ∧ t.arb = s.arb ∧
      t.comp = s.comp ∧ t.defr = s.defr ∧ t.doors = s.doors ∧ t.cond = s.cond ∧ t.link = s.link) ?_
  simp [Holds, kickFan]

@[simp] theorem stopFan_keeps :
    (stopFan s).pending = s.pending ∧ (stopFan s).settings = s.settings ∧ (stopFan s).zones = s.zones ∧
    (stopFan s).scanner = s.scanner ∧ (stopFan s).arb = s.arb ∧ (stopFan s).comp = s.comp ∧
    (stopFan s).defr = s.defr ∧ (stopFan s).doors = s.doors ∧ (stopFan s).cond = s.cond ∧
    (stopFan s).link = s.link ∧ (stopFan s).own = s.own := by
  refine holds_elim (fun t =>
      t.pending = s.pending ∧ t.settings = s.settings ∧ t.zones = s.zones ∧ t.scanner = s.scanner ∧ t.arb = s.arb ∧
      t.comp = s.comp ∧ t.defr = s.defr ∧ t.doors = s.doors ∧ t.cond = s.cond ∧ t.link = s.link ∧ t.own = s.own) ?_
  simp [Holds, stopFan]

@[simp] theorem requestFan_keeps (duty : Nat) :
    (requestFan duty s).pending = s.pending ∧ (requestFan duty s).settings = s.settings ∧
    (requestFan duty s).zones = s.zones ∧ (requestFan duty s).scanner = s.scanner ∧
    (requestFan duty s).arb = s.arb ∧ (requestFan duty s).comp = s.comp ∧ (requestFan duty s).defr = s.defr ∧
    (requestFan duty s).doors = s.doors ∧ (requestFan duty s).cond = s.cond ∧ (requestFan duty s).link = s.link := by
  refine holds_elim (fun t =>
      t.pending = s.pending ∧ t.settings = s.settings ∧ t.zones = s.zones ∧ t.scanner = s.scanner ∧ t.arb = s.arb ∧
      t.comp = s.comp ∧ t.defr = s.defr ∧ t.doors = s.doors ∧ t.cond = s.cond ∧ t.link = s.link) ?_
  unfold requestFan
  dsimp only
  repeat' split
  all_goals simp [Holds]

@[simp] theorem setFanFault_keeps (b : Bool) :
    (setFanFault b s).pending = s.pending ∧ (setFanFault b s).settings = s.settings ∧
    (setFanFault b s).zones = s.zones ∧ (setFanFault b s).scanner = s.scanner ∧ (setFanFault b s).arb = s.arb ∧
    (setFanFault b s).defr = s.defr ∧ (setFanFault b s).doors = s.doors ∧ (setFanFault b s).bank = s.bank ∧
    (setFanFault b s).link = s.link ∧ (setFanFault b s).own = s.own := by
  refine holds_elim (fun t =>
      t.pending = s.pending ∧ t.settings = s.settings ∧ t.zones = s.zones ∧ t.scanner = s.scanner ∧ t.arb = s.arb ∧
      t.defr = s.defr ∧ t.doors = s.doors ∧ t.bank = s.bank ∧ t.link = s.link ∧ t.own = s.own) ?_
  simp [Holds, setFanFault]

@[simp] theorem onKickEnd_keeps :
    (onKickEnd s).pending = s.pending ∧ (onKickEnd s).settings = s.settings ∧ (onKickEnd s).zones = s.zones ∧
    (onKickEnd s).scanner = s.scanner ∧ (onKickEnd s).arb = s.arb ∧ (onKickEnd s).comp = s.comp ∧
    (onKickEnd s).defr = s.defr ∧ (onKickEnd s).doors = s.doors ∧ (onKickEnd s).bank = s.bank ∧
    (onKickEnd s).cond = s.cond ∧ (onKickEnd s).link = s.link ∧ (onKickEnd s).own = s.own := by
  refine holds_elim (fun t =>
      t.pending = s.pending ∧ t.settings = s.settings ∧ t.zones = s.zones ∧ t.scanner = s.scanner ∧ t.arb = s.arb ∧
      t.comp = s.comp ∧ t.defr = s.defr ∧ t.doors = s.doors ∧ t.bank = s.bank ∧ t.cond = s.cond ∧ t.link = s.link ∧
      t.own = s.own) ?_
  simp [Holds, onKickEnd]

@[simp] theorem onFanRetry_keeps :
    (onFanRetry s).pending = s.pending ∧ (onFanRetry s).settings = s.settings ∧ (onFanRetry s).zones = s.zones ∧
    (onFanRetry s).scanner = s.scanner ∧ (onFanRetry s).arb = s.arb ∧ (onFanRetry s).comp = s.comp ∧
    (onFanRetry s).defr = s.defr ∧ (onFanRetry s).doors = s.doors ∧ (onFanRetry s).cond = s.cond ∧
    (onFanRetry s).link = s.link := by
  refine holds_elim (fun t =>
      t.pending = s.pending ∧ t.settings = s.settings ∧ t.zones = s.zones ∧ t.scanner = s.scanner ∧ t.arb = s.arb ∧
      t.comp = s.comp ∧ t.defr = s.defr ∧ t.doors = s.doors ∧ t.cond = s.cond ∧ t.link = s.link) ?_
  unfold onFanRetry
  split <;> simp [Holds]

@[simp] theorem onProvingEnd_keeps :
    (onProvingEnd s).pending = s.pending ∧ (onProvingEnd s).settings = s.settings ∧
    (onProvingEnd s).zones = s.zones ∧ (onProvingEnd s).scanner = s.scanner ∧ (onProvingEnd s).arb = s.arb ∧
    (onProvingEnd s).defr = s.defr ∧ (onProvingEnd s).doors = s.doors ∧ (onProvingEnd s).bank = s.bank ∧
    (onProvingEnd s).link = s.link ∧ (onProvingEnd s).own = s.own := by
  refine holds_elim (fun t =>
      t.pending = s.pending ∧ t.settings = s.settings ∧ t.zones = s.zones ∧ t.scanner = s.scanner ∧ t.arb = s.arb ∧
      t.defr = s.defr ∧ t.doors = s.doors ∧ t.bank = s.bank ∧ t.link = s.link ∧ t.own = s.own) ?_
  simp [Holds, onProvingEnd]

@[simp] theorem stallFan_keeps :
    (stallFan s).pending = s.pending ∧ (stallFan s).settings = s.settings ∧ (stallFan s).zones = s.zones ∧
    (stallFan s).scanner = s.scanner ∧ (stallFan s).arb = s.arb ∧ (stallFan s).defr = s.defr ∧
    (stallFan s).doors = s.doors ∧ (stallFan s).link = s.link := by
  refine holds_elim (fun t =>
      t.pending = s.pending ∧ t.settings = s.settings ∧ t.zones = s.zones ∧ t.scanner = s.scanner ∧ t.arb = s.arb ∧
      t.defr = s.defr ∧ t.doors = s.doors ∧ t.link = s.link) ?_
  unfold stallFan
  dsimp only
  split <;> simp [Holds]

@[simp] theorem onTachResult_keeps (period : Nat) :
    (onTachResult period s).pending = s.pending ∧ (onTachResult period s).settings = s.settings ∧
    (onTachResult period s).zones = s.zones ∧ (onTachResult period s).scanner = s.scanner ∧
    (onTachResult period s).arb = s.arb ∧ (onTachResult period s).comp = s.comp ∧
    (onTachResult period s).defr = s.defr ∧ (onTachResult period s).doors = s.doors ∧
    (onTachResult period s).cond = s.cond ∧ (onTachResult period s).link = s.link := by
  refine holds_elim (fun t =>
      t.pending = s.pending ∧ t.settings = s.settings ∧ t.zones = s.zones ∧ t.scanner = s.scanner ∧ t.arb = s.arb ∧
      t.comp = s.comp ∧ t.defr = s.defr ∧ t.doors = s.doors ∧ t.cond = s.cond ∧ t.link = s.link) ?_
  unfold onTachResult
  dsimp only
  split <;> simp [Holds]

@[simp] theorem onTachEdge_keeps :
    (onTachEdge s).pending = s.pending ∧ (onTachEdge s).settings = s.settings ∧ (onTachEdge s).zones = s.zones ∧
    (onTachEdge s).scanner = s.scanner ∧ (onTachEdge s).arb = s.arb ∧ (onTachEdge s).comp = s.comp ∧
    (onTachEdge s).defr = s.defr ∧ (onTachEdge s).doors = s.doors ∧ (onTachEdge s).cond = s.cond ∧
    (onTachEdge s).link = s.link := by
  refine holds_elim (fun t =>
      t.pending = s.pending ∧ t.settings = s.settings ∧ t.zones = s.zones ∧ t.scanner = s.scanner ∧ t.arb = s.arb ∧
      t.comp = s.comp ∧ t.defr = s.defr ∧ t.doors = s.doors ∧ t.cond = s.cond ∧ t.link = s.link) ?_
  unfold onTachEdge
  dsimp only
  repeat' split
  all_goals simp [Holds]

@[simp] theorem onTachOverflow_keeps :
    (onTachOverflow s).pending = s.pending ∧ (onTachOverflow s).settings = s.settings ∧
    (onTachOverflow s).zones = s.zones ∧ (onTachOverflow s).scanner = s.scanner ∧ (onTachOverflow s).arb = s.arb ∧
    (onTachOverflow s).defr = s.defr ∧ (onTachOverflow s).doors = s.doors ∧ (onTachOverflow s).link = s.link := by
  refine holds_elim (fun t =>
      t.pending = s.pending ∧ t.settings = s.settings ∧ t.zones = s.zones ∧ t.scanner = s.scanner ∧ t.arb = s.arb ∧
      t.defr = s.defr ∧ t.doors = s.doors ∧ t.link = s.link) ?_
  unfold onTachOverflow
  dsimp only
  repeat' split
  all_goals simp [Holds]

@[simp] theorem onFantimeExpiry_keeps :
    (onFantimeExpiry s).pending = s.pending ∧ (onFantimeExpiry s).settings = s.settings ∧
    (onFantimeExpiry s).zones = s.zones ∧ (onFantimeExpiry s).scanner = s.scanner ∧
    (onFantimeExpiry s).arb = s.arb ∧ (onFantimeExpiry s).defr = s.defr ∧ (onFantimeExpiry s).doors = s.doors ∧
    (onFantimeExpiry s).link = s.link := by
  refine holds_elim (fun t =>
      t.pending = s.pending ∧ t.settings = s.settings ∧ t.zones = s.zones ∧ t.scanner = s.scanner ∧ t.arb = s.arb ∧
      t.defr = s.defr ∧ t.doors = s.doors ∧ t.link = s.link) ?_
  unfold onFantimeExpiry
  split <;> simp [Holds]

/-! ### Machine/Compressor.lean -/

@[simp] theorem setCompState_keeps (st : CompState) :
    (setCompState st s).pending = s.pending ∧ (setCompState st s).settings = s.settings ∧
    (setCompState st s).zones = s.zones ∧ (setCompState st s).scanner = s.scanner ∧
    (setCompState st s).arb = s.arb ∧ (setCompState st s).air = s.air ∧ (setCompState st s).doors = s.doors ∧
    (setCompState st s).bank = s.bank ∧ (setCompState st s).cond = s.cond ∧ (setCompState st s).link = s.link ∧
    (setCompState st s).own = s.own := by
  refine holds_elim (fun t =>
      t.pending = s.pending ∧ t.settings = s.settings ∧ t.zones = s.zones ∧ t.scanner = s.scanner ∧ t.arb = s.arb ∧
      t.air = s.air ∧ t.doors = s.doors ∧ t.bank = s.bank ∧ t.cond = s.cond ∧ t.link = s.link ∧ t.own = s.own) ?_
  simp [Holds, setCompState]

@[simp] theorem beginPostRun_keeps :
    (beginPostRun s).pending = s.pending ∧ (beginPostRun s).settings = s.settings ∧
    (beginPostRun s).zones = s.zones ∧ (beginPostRun s).scanner = s.scanner ∧ (beginPostRun s).arb = s.arb ∧
    (beginPostRun s).air = s.air ∧ (beginPostRun s).comp = s.comp ∧ (beginPostRun s).defr = s.defr ∧
    (beginPostRun s).doors = s.doors ∧ (beginPostRun s).cond = s.cond ∧ (beginPostRun s).link = s.link := by
  refine holds_elim (fun t =>
      t.pending = s.pending ∧ t.settings = s.settings ∧ t.zones = s.zones ∧ t.scanner = s.scanner ∧ t.arb = s.arb ∧
      t.air = s.air ∧ t.comp = s.comp ∧ t.defr = s.defr ∧ t.doors = s.doors ∧ t.cond = s.cond ∧ t.link = s.link) ?_
  simp [Holds, beginPostRun]

@[simp] theorem startComp_keeps (target : Nat) :
    (startComp target s).pending = s.pending ∧ (startComp target s).settings = s.settings ∧
    (startComp target s).zones = s.zones ∧ (startComp target s).scanner = s.scanner ∧
    (startComp target s).arb = s.arb ∧ (startComp target s).air = s.air ∧ (startComp target s).doors = s.doors ∧
    (startComp target s).cond = s.cond ∧ (startComp target s).link = s.link := by
  refine holds_elim (fun t =>
      t.pending = s.pending ∧ t.settings = s.settings ∧ t.zones = s.zones ∧ t.scanner = s.scanner ∧ t.arb = s.arb ∧
      t.air = s.air ∧ t.doors = s.doors ∧ t.cond = s.cond ∧ t.link = s.link) ?_
  simp [Holds, startComp]

@[simp] theorem stopComp_keeps :
    (stopComp s).pending = s.pending ∧ (stopComp s).settings = s.settings ∧ (stopComp s).zones = s.zones ∧
    (stopComp s).scanner = s.scanner ∧ (stopComp s).arb = s.arb ∧ (stopComp s).air = s.air ∧
    (stopComp s).doors = s.doors ∧ (stopComp s).cond = s.cond ∧ (stopComp s).link = s.link := by
  refine holds_elim (fun t =>
      t.pending = s.pending ∧ t.settings = s.settings ∧ t.zones = s.zones ∧ t.scanner = s.scanner ∧ t.arb = s.arb ∧
      t.air = s.air ∧ t.doors = s.doors ∧ t.cond = s.cond ∧ t.link = s.link) ?_
  simp [Holds, stopComp]

@[simp] theorem decideStop_keeps :
    (decideStop s).pending = s.pending ∧ (decideStop s).settings = s.settings ∧ (decideStop s).zones = s.zones ∧
    (decideStop s).scanner = s.scanner ∧ (decideStop s).arb = s.arb ∧ (decideStop s).air = s.air ∧
    (decideStop s).doors = s.doors ∧ (decideStop s).cond = s.cond ∧ (decideStop s).link = s.link := by
  refine holds_elim (fun t =>
      t.pending = s.pending ∧ t.settings = s.settings ∧ t.zones = s.zones ∧ t.scanner = s.scanner ∧ t.arb = s.arb ∧
      t.air = s.air ∧ t.doors = s.doors ∧ t.cond = s.cond ∧ t.link = s.link) ?_
  unfold decideStop
  split <;> simp [Holds]

@[simp] theorem resolveDemand_keeps (at_ : ResolveAt) :
    (resolveDemand at_ s).pending = s.pending ∧ (resolveDemand at_ s).settings = s.settings ∧
    (resolveDemand at_ s).zones = s.zones ∧ (resolveDemand at_ s).scanner = s.scanner ∧
    (resolveDemand at_ s).arb = s.arb ∧ (resolveDemand at_ s).air = s.air ∧ (resolveDemand at_ s).doors = s.doors ∧
    (resolveDemand at_ s).cond = s.cond ∧ (resolveDemand at_ s).link = s.link := by
  refine holds_elim (fun t =>
      t.pending = s.pending ∧ t.settings = s.settings ∧ t.zones = s.zones ∧ t.scanner = s.scanner ∧ t.arb = s.arb ∧
      t.air = s.air ∧ t.doors = s.doors ∧ t.cond = s.cond ∧ t.link = s.link) ?_
  unfold resolveDemand
  repeat' split
  all_goals simp [Holds]

@[simp] theorem giveDemand_keeps (d : Demand) :
    (giveDemand d s).pending = s.pending ∧ (giveDemand d s).settings = s.settings ∧
    (giveDemand d s).zones = s.zones ∧ (giveDemand d s).scanner = s.scanner ∧ (giveDemand d s).arb = s.arb ∧
    (giveDemand d s).air = s.air ∧ (giveDemand d s).doors = s.doors ∧ (giveDemand d s).cond = s.cond ∧
    (giveDemand d s).link = s.link := by
  refine holds_elim (fun t =>
      t.pending = s.pending ∧ t.settings = s.settings ∧ t.zones = s.zones ∧ t.scanner = s.scanner ∧ t.arb = s.arb ∧
      t.air = s.air ∧ t.doors = s.doors ∧ t.cond = s.cond ∧ t.link = s.link) ?_
  simp [Holds, giveDemand]

@[simp] theorem onRampExpiry_keeps :
    (onRampExpiry s).pending = s.pending ∧ (onRampExpiry s).settings = s.settings ∧
    (onRampExpiry s).zones = s.zones ∧ (onRampExpiry s).scanner = s.scanner ∧ (onRampExpiry s).arb = s.arb ∧
    (onRampExpiry s).air = s.air ∧ (onRampExpiry s).doors = s.doors ∧ (onRampExpiry s).cond = s.cond ∧
    (onRampExpiry s).link = s.link := by
  refine holds_elim (fun t =>
      t.pending = s.pending ∧ t.settings = s.settings ∧ t.zones = s.zones ∧ t.scanner = s.scanner ∧ t.arb = s.arb ∧
      t.air = s.air ∧ t.doors = s.doors ∧ t.cond = s.cond ∧ t.link = s.link) ?_
  unfold onRampExpiry
  dsimp only
  repeat' split
  all_goals simp [Holds]

@[simp] theorem onLimitChange_keeps :
    (onLimitChange s).pending = s.pending ∧ (onLimitChange s).settings = s.settings ∧
    (onLimitChange s).zones = s.zones ∧ (onLimitChange s).scanner = s.scanner ∧ (onLimitChange s).arb = s.arb ∧
    (onLimitChange s).air = s.air ∧ (onLimitChange s).defr = s.defr ∧ (onLimitChange s).doors = s.doors ∧
    (onLimitChange s).bank = s.bank ∧ (onLimitChange s).cond = s.cond ∧ (onLimitChange s).link = s.link ∧
    (onLimitChange s).own = s.own := by
  refine holds_elim (fun t =>
      t.pending = s.pending ∧ t.settings = s.settings ∧ t.zones = s.zones ∧ t.scanner = s.scanner ∧ t.arb = s.arb ∧
      t.air = s.air ∧ t.defr = s.defr ∧ t.doors = s.doors ∧ t.bank = s.bank ∧ t.cond = s.cond ∧ t.link = s.link ∧
      t.own = s.own) ?_
  unfold onLimitChange
  split <;> simp [Holds]

@[simp] theorem leaveFaulted_keeps :
    (leaveFaulted s).pending = s.pending ∧ (leaveFaulted s).settings = s.settings ∧
    (leaveFaulted s).zones = s.zones ∧ (leaveFaulted s).scanner = s.scanner ∧ (leaveFaulted s).arb = s.arb ∧
    (leaveFaulted s).air = s.air ∧ (leaveFaulted s).doors = s.doors ∧ (leaveFaulted s).link = s.link := by
  refine holds_elim (fun t =>
      t.pending = s.pending ∧ t.settings = s.settings ∧ t.zones = s.zones ∧ t.scanner = s.scanner ∧ t.arb = s.arb ∧
      t.air = s.air ∧ t.doors = s.doors ∧ t.link = s.link) ?_
  simp [Holds, leaveFaulted]

@[simp] theorem onGuardExpiry_keeps :
    (onGuardExpiry s).pending = s.pending ∧ (onGuardExpiry s).settings = s.settings ∧
    (onGuardExpiry s).zones = s.zones ∧ (onGuardExpiry s).scanner = s.scanner ∧ (onGuardExpiry s).arb = s.arb ∧
    (onGuardExpiry s).air = s.air ∧ (onGuardExpiry s).doors = s.doors ∧ (onGuardExpiry s).link = s.link := by
  refine holds_elim (fun t =>
      t.pending = s.pending ∧ t.settings = s.settings ∧ t.zones = s.zones ∧ t.scanner = s.scanner ∧ t.arb = s.arb ∧
      t.air = s.air ∧ t.doors = s.doors ∧ t.link = s.link) ?_
  unfold onGuardExpiry
  dsimp only
  repeat' split
  all_goals simp [Holds]

@[simp] theorem takeFault_keeps :
    (takeFault s).pending = s.pending ∧ (takeFault s).settings = s.settings ∧ (takeFault s).zones = s.zones ∧
    (takeFault s).scanner = s.scanner ∧ (takeFault s).arb = s.arb ∧ (takeFault s).air = s.air ∧
    (takeFault s).doors = s.doors ∧ (takeFault s).link = s.link := by
  refine holds_elim (fun t =>
      t.pending = s.pending ∧ t.settings = s.settings ∧ t.zones = s.zones ∧ t.scanner = s.scanner ∧ t.arb = s.arb ∧
      t.air = s.air ∧ t.doors = s.doors ∧ t.link = s.link) ?_
  unfold takeFault
  dsimp only
  repeat' split
  all_goals simp [Holds]

@[simp] theorem onCompFltRound_keeps (asserted : Bool) :
    (onCompFltRound asserted s).pending = s.pending ∧ (onCompFltRound asserted s).settings = s.settings ∧
    (onCompFltRound asserted s).zones = s.zones ∧ (onCompFltRound asserted s).scanner = s.scanner ∧
    (onCompFltRound asserted s).arb = s.arb ∧ (onCompFltRound asserted s).air = s.air ∧
    (onCompFltRound asserted s).doors = s.doors ∧ (onCompFltRound asserted s).link = s.link := by
  refine holds_elim (fun t =>
      t.pending = s.pending ∧ t.settings = s.settings ∧ t.zones = s.zones ∧ t.scanner = s.scanner ∧ t.arb = s.arb ∧
      t.air = s.air ∧ t.doors = s.doors ∧ t.link = s.link) ?_
  unfold onCompFltRound
  dsimp only
  repeat' split
  all_goals simp [Holds]

@[simp] theorem clearLockout_keeps :
    (clearLockout s).pending = s.pending ∧ (clearLockout s).settings = s.settings ∧
    (clearLockout s).zones = s.zones ∧ (clearLockout s).scanner = s.scanner ∧ (clearLockout s).arb = s.arb ∧
    (clearLockout s).air = s.air ∧ (clearLockout s).doors = s.doors ∧ (clearLockout s).link = s.link := by
  refine holds_elim (fun t =>
      t.pending = s.pending ∧ t.settings = s.settings ∧ t.zones = s.zones ∧ t.scanner = s.scanner ∧ t.arb = s.arb ∧
      t.air = s.air ∧ t.doors = s.doors ∧ t.link = s.link) ?_
  simp [Holds, clearLockout]

@[simp] theorem onCondrunExpiry_keeps :
    (onCondrunExpiry s).pending = s.pending ∧ (onCondrunExpiry s).settings = s.settings ∧
    (onCondrunExpiry s).zones = s.zones ∧ (onCondrunExpiry s).scanner = s.scanner ∧
    (onCondrunExpiry s).arb = s.arb ∧ (onCondrunExpiry s).air = s.air ∧ (onCondrunExpiry s).defr = s.defr ∧
    (onCondrunExpiry s).doors = s.doors ∧ (onCondrunExpiry s).bank = s.bank ∧ (onCondrunExpiry s).cond = s.cond ∧
    (onCondrunExpiry s).link = s.link ∧ (onCondrunExpiry s).own = s.own := by
  refine holds_elim (fun t =>
      t.pending = s.pending ∧ t.settings = s.settings ∧ t.zones = s.zones ∧ t.scanner = s.scanner ∧ t.arb = s.arb ∧
      t.air = s.air ∧ t.defr = s.defr ∧ t.doors = s.doors ∧ t.bank = s.bank ∧ t.cond = s.cond ∧ t.link = s.link ∧
      t.own = s.own) ?_
  simp [Holds, onCondrunExpiry]

/-! ### Machine/Arbiter.lean -/

@[simp] theorem applyPlan_keeps :
    (applyPlan s).pending = s.pending ∧ (applyPlan s).settings = s.settings ∧ (applyPlan s).zones = s.zones ∧
    (applyPlan s).scanner = s.scanner ∧ (applyPlan s).air = s.air ∧ (applyPlan s).comp = s.comp ∧
    (applyPlan s).defr = s.defr ∧ (applyPlan s).doors = s.doors ∧ (applyPlan s).bank = s.bank ∧
    (applyPlan s).link = s.link ∧ (applyPlan s).own = s.own := by
  refine holds_elim (fun t =>
      t.pending = s.pending ∧ t.settings = s.settings ∧ t.zones = s.zones ∧ t.scanner = s.scanner ∧ t.air = s.air ∧
      t.comp = s.comp ∧ t.defr = s.defr ∧ t.doors = s.doors ∧ t.bank = s.bank ∧ t.link = s.link ∧ t.own = s.own) ?_
  simp [Holds, applyPlan]

@[simp] theorem applyPending_keeps :
    (applyPending s).pending = s.pending ∧ (applyPending s).settings = s.settings ∧
    (applyPending s).zones = s.zones ∧ (applyPending s).scanner = s.scanner ∧ (applyPending s).air = s.air ∧
    (applyPending s).comp = s.comp ∧ (applyPending s).defr = s.defr ∧ (applyPending s).doors = s.doors ∧
    (applyPending s).bank = s.bank ∧ (applyPending s).link = s.link ∧ (applyPending s).own = s.own := by
  refine holds_elim (fun t =>
      t.pending = s.pending ∧ t.settings = s.settings ∧ t.zones = s.zones ∧ t.scanner = s.scanner ∧ t.air = s.air ∧
      t.comp = s.comp ∧ t.defr = s.defr ∧ t.doors = s.doors ∧ t.bank = s.bank ∧ t.link = s.link ∧ t.own = s.own) ?_
  unfold applyPending
  split <;> simp [Holds]

@[simp] theorem giveIdleOutputs_keeps :
    (giveIdleOutputs s).pending = s.pending ∧ (giveIdleOutputs s).settings = s.settings ∧
    (giveIdleOutputs s).zones = s.zones ∧ (giveIdleOutputs s).scanner = s.scanner ∧
    (giveIdleOutputs s).arb = s.arb ∧ (giveIdleOutputs s).doors = s.doors ∧ (giveIdleOutputs s).cond = s.cond ∧
    (giveIdleOutputs s).link = s.link := by
  refine holds_elim (fun t =>
      t.pending = s.pending ∧ t.settings = s.settings ∧ t.zones = s.zones ∧ t.scanner = s.scanner ∧ t.arb = s.arb ∧
      t.doors = s.doors ∧ t.cond = s.cond ∧ t.link = s.link) ?_
  simp [Holds, giveIdleOutputs]

@[simp] theorem serveSlot_keeps (r : Slot) :
    (serveSlot r s).pending = s.pending ∧ (serveSlot r s).settings = s.settings ∧ (serveSlot r s).zones = s.zones ∧
    (serveSlot r s).scanner = s.scanner ∧ (serveSlot r s).doors = s.doors ∧ (serveSlot r s).cond = s.cond ∧
    (serveSlot r s).link = s.link := by
  refine holds_elim (fun t =>
      t.pending = s.pending ∧ t.settings = s.settings ∧ t.zones = s.zones ∧ t.scanner = s.scanner ∧
      t.doors = s.doors ∧ t.cond = s.cond ∧ t.link = s.link) ?_
  simp [Holds, serveSlot]

@[simp] theorem switchSlot_keeps (r : Slot) :
    (switchSlot r s).pending = s.pending ∧ (switchSlot r s).settings = s.settings ∧
    (switchSlot r s).zones = s.zones ∧ (switchSlot r s).scanner = s.scanner ∧ (switchSlot r s).doors = s.doors ∧
    (switchSlot r s).cond = s.cond ∧ (switchSlot r s).link = s.link := by
  refine holds_elim (fun t =>
      t.pending = s.pending ∧ t.settings = s.settings ∧ t.zones = s.zones ∧ t.scanner = s.scanner ∧
      t.doors = s.doors ∧ t.cond = s.cond ∧ t.link = s.link) ?_
  simp [Holds, switchSlot]

@[simp] theorem placeSlot_keeps (r : Slot) :
    (placeSlot r s).pending = s.pending ∧ (placeSlot r s).settings = s.settings ∧ (placeSlot r s).zones = s.zones ∧
    (placeSlot r s).scanner = s.scanner ∧ (placeSlot r s).doors = s.doors ∧ (placeSlot r s).cond = s.cond ∧
    (placeSlot r s).link = s.link := by
  refine holds_elim (fun t =>
      t.pending = s.pending ∧ t.settings = s.settings ∧ t.zones = s.zones ∧ t.scanner = s.scanner ∧
      t.doors = s.doors ∧ t.cond = s.cond ∧ t.link = s.link) ?_
  unfold placeSlot
  dsimp only
  split <;> simp [Holds]

@[simp] theorem giveDoorOutputs_keeps :
    (giveDoorOutputs s).pending = s.pending ∧ (giveDoorOutputs s).settings = s.settings ∧
    (giveDoorOutputs s).zones = s.zones ∧ (giveDoorOutputs s).scanner = s.scanner ∧
    (giveDoorOutputs s).arb = s.arb ∧ (giveDoorOutputs s).doors = s.doors ∧ (giveDoorOutputs s).cond = s.cond ∧
    (giveDoorOutputs s).link = s.link := by
  refine holds_elim (fun t =>
      t.pending = s.pending ∧ t.settings = s.settings ∧ t.zones = s.zones ∧ t.scanner = s.scanner ∧ t.arb = s.arb ∧
      t.doors = s.doors ∧ t.cond = s.cond ∧ t.link = s.link) ?_
  simp [Holds, giveDoorOutputs]

@[simp] theorem giveServiceOutputs_keeps :
    (giveServiceOutputs s).pending = s.pending ∧ (giveServiceOutputs s).settings = s.settings ∧
    (giveServiceOutputs s).zones = s.zones ∧ (giveServiceOutputs s).scanner = s.scanner ∧
    (giveServiceOutputs s).arb = s.arb ∧ (giveServiceOutputs s).doors = s.doors ∧
    (giveServiceOutputs s).cond = s.cond ∧ (giveServiceOutputs s).link = s.link := by
  refine holds_elim (fun t =>
      t.pending = s.pending ∧ t.settings = s.settings ∧ t.zones = s.zones ∧ t.scanner = s.scanner ∧ t.arb = s.arb ∧
      t.doors = s.doors ∧ t.cond = s.cond ∧ t.link = s.link) ?_
  simp [Holds, giveServiceOutputs]

@[simp] theorem endSwitching_keeps :
    (endSwitching s).pending = s.pending ∧ (endSwitching s).settings = s.settings ∧
    (endSwitching s).zones = s.zones ∧ (endSwitching s).scanner = s.scanner ∧ (endSwitching s).doors = s.doors ∧
    (endSwitching s).cond = s.cond ∧ (endSwitching s).link = s.link := by
  refine holds_elim (fun t =>
      t.pending = s.pending ∧ t.settings = s.settings ∧ t.zones = s.zones ∧ t.scanner = s.scanner ∧
      t.doors = s.doors ∧ t.cond = s.cond ∧ t.link = s.link) ?_
  unfold endSwitching
  repeat' split
  all_goals simp [Holds]

@[simp] theorem grantSlot_keeps (z : Zone) :
    (grantSlot z s).pending = s.pending ∧ (grantSlot z s).settings = s.settings ∧ (grantSlot z s).zones = s.zones ∧
    (grantSlot z s).scanner = s.scanner ∧ (grantSlot z s).doors = s.doors ∧ (grantSlot z s).link = s.link := by
  refine holds_elim (fun t =>
      t.pending = s.pending ∧ t.settings = s.settings ∧ t.zones = s.zones ∧ t.scanner = s.scanner ∧
      t.doors = s.doors ∧ t.link = s.link) ?_
  simp [Holds, grantSlot]

@[simp] theorem enterIdle_keeps :
    (enterIdle s).pending = s.pending ∧ (enterIdle s).settings = s.settings ∧ (enterIdle s).zones = s.zones ∧
    (enterIdle s).scanner = s.scanner ∧ (enterIdle s).doors = s.doors ∧ (enterIdle s).link = s.link := by
  refine holds_elim (fun t =>
      t.pending = s.pending ∧ t.settings = s.settings ∧ t.zones = s.zones ∧ t.scanner = s.scanner ∧
      t.doors = s.doors ∧ t.link = s.link) ?_
  simp [Holds, enterIdle]

@[simp] theorem arbitrate_keeps :
    (arbitrate s).pending = s.pending ∧ (arbitrate s).settings = s.settings ∧ (arbitrate s).zones = s.zones ∧
    (arbitrate s).scanner = s.scanner ∧ (arbitrate s).doors = s.doors ∧ (arbitrate s).link = s.link := by
  refine holds_elim (fun t =>
      t.pending = s.pending ∧ t.settings = s.settings ∧ t.zones = s.zones ∧ t.scanner = s.scanner ∧
      t.doors = s.doors ∧ t.link = s.link) ?_
  unfold arbitrate
  dsimp only
  split <;> simp [Holds]

@[simp] theorem endSlot_keeps (z : Zone) (full : Bool) :
    (endSlot z full s).pending = s.pending ∧ (endSlot z full s).settings = s.settings ∧
    (endSlot z full s).scanner = s.scanner ∧ (endSlot z full s).air = s.air ∧ (endSlot z full s).comp = s.comp ∧
    (endSlot z full s).defr = s.defr ∧ (endSlot z full s).doors = s.doors ∧ (endSlot z full s).cond = s.cond ∧
    (endSlot z full s).link = s.link := by
  refine holds_elim (fun t =>
      t.pending = s.pending ∧ t.settings = s.settings ∧ t.scanner = s.scanner ∧ t.air = s.air ∧ t.comp = s.comp ∧
      t.defr = s.defr ∧ t.doors = s.doors ∧ t.cond = s.cond ∧ t.link = s.link) ?_
  unfold endSlot
  dsimp only
  repeat' split
  all_goals simp [Holds]

@[simp] theorem endHeldSlot_keeps (z : Zone) (full : Bool) :
    (endHeldSlot z full s).pending = s.pending ∧ (endHeldSlot z full s).settings = s.settings ∧
    (endHeldSlot z full s).scanner = s.scanner ∧ (endHeldSlot z full s).doors = s.doors ∧
    (endHeldSlot z full s).link = s.link := by
  refine holds_elim (fun t =>
      t.pending = s.pending ∧ t.settings = s.settings ∧ t.scanner = s.scanner ∧ t.doors = s.doors ∧ t.link = s.link) ?_
  simp [Holds, endHeldSlot]

@[simp] theorem pushFrame_keeps (mask : Nat) :
    (pushFrame mask s).pending = s.pending ∧ (pushFrame mask s).settings = s.settings ∧
    (pushFrame mask s).zones = s.zones ∧ (pushFrame mask s).scanner = s.scanner ∧ (pushFrame mask s).air = s.air ∧
    (pushFrame mask s).comp = s.comp ∧ (pushFrame mask s).defr = s.defr ∧ (pushFrame mask s).doors = s.doors ∧
    (pushFrame mask s).cond = s.cond ∧ (pushFrame mask s).link = s.link ∧ (pushFrame mask s).own = s.own := by
  refine holds_elim (fun t =>
      t.pending = s.pending ∧ t.settings = s.settings ∧ t.zones = s.zones ∧ t.scanner = s.scanner ∧ t.air = s.air ∧
      t.comp = s.comp ∧ t.defr = s.defr ∧ t.doors = s.doors ∧ t.cond = s.cond ∧ t.link = s.link ∧ t.own = s.own) ?_
  unfold pushFrame
  split <;> simp [Holds]

@[simp] theorem dropTop_keeps :
    (dropTop s).pending = s.pending ∧ (dropTop s).settings = s.settings ∧ (dropTop s).zones = s.zones ∧
    (dropTop s).scanner = s.scanner ∧ (dropTop s).air = s.air ∧ (dropTop s).comp = s.comp ∧
    (dropTop s).defr = s.defr ∧ (dropTop s).doors = s.doors ∧ (dropTop s).bank = s.bank ∧
    (dropTop s).cond = s.cond ∧ (dropTop s).link = s.link ∧ (dropTop s).own = s.own := by
  refine holds_elim (fun t =>
      t.pending = s.pending ∧ t.settings = s.settings ∧ t.zones = s.zones ∧ t.scanner = s.scanner ∧ t.air = s.air ∧
      t.comp = s.comp ∧ t.defr = s.defr ∧ t.doors = s.doors ∧ t.bank = s.bank ∧ t.cond = s.cond ∧ t.link = s.link ∧
      t.own = s.own) ?_
  simp [Holds, dropTop]

@[simp] theorem resumeSlot_keeps (z : Zone) (phase : SlotPhase) (fixed : Bool) (remaining : Nat) (snapshot : Option Route) :
    (resumeSlot z phase fixed remaining snapshot s).pending = s.pending ∧
    (resumeSlot z phase fixed remaining snapshot s).settings = s.settings ∧
    (resumeSlot z phase fixed remaining snapshot s).zones = s.zones ∧
    (resumeSlot z phase fixed remaining snapshot s).scanner = s.scanner ∧
    (resumeSlot z phase fixed remaining snapshot s).doors = s.doors ∧
    (resumeSlot z phase fixed remaining snapshot s).link = s.link := by
  refine holds_elim (fun t =>
      t.pending = s.pending ∧ t.settings = s.settings ∧ t.zones = s.zones ∧ t.scanner = s.scanner ∧
      t.doors = s.doors ∧ t.link = s.link) ?_
  unfold resumeSlot
  split <;> simp [Holds]

@[simp] theorem popSlot_keeps (mask : Nat) (z : Zone) (phase : SlotPhase) (fixed : Bool) (remaining : Nat) (snapshot : Option Route) :
    (popSlot mask z phase fixed remaining snapshot s).pending = s.pending ∧
    (popSlot mask z phase fixed remaining snapshot s).settings = s.settings ∧
    (popSlot mask z phase fixed remaining snapshot s).scanner = s.scanner ∧
    (popSlot mask z phase fixed remaining snapshot s).doors = s.doors ∧
    (popSlot mask z phase fixed remaining snapshot s).link = s.link := by
  refine holds_elim (fun t =>
      t.pending = s.pending ∧ t.settings = s.settings ∧ t.scanner = s.scanner ∧ t.doors = s.doors ∧ t.link = s.link) ?_
  unfold popSlot
  split <;> simp [Holds]

@[simp] theorem removeFrames_keeps (p : SuspFrame → Bool) :
    (removeFrames p s).pending = s.pending ∧ (removeFrames p s).settings = s.settings ∧
    (removeFrames p s).zones = s.zones ∧ (removeFrames p s).scanner = s.scanner ∧ (removeFrames p s).air = s.air ∧
    (removeFrames p s).comp = s.comp ∧ (removeFrames p s).defr = s.defr ∧ (removeFrames p s).doors = s.doors ∧
    (removeFrames p s).bank = s.bank ∧ (removeFrames p s).cond = s.cond ∧ (removeFrames p s).link = s.link ∧
    (removeFrames p s).own = s.own := by
  refine holds_elim (fun t =>
      t.pending = s.pending ∧ t.settings = s.settings ∧ t.zones = s.zones ∧ t.scanner = s.scanner ∧ t.air = s.air ∧
      t.comp = s.comp ∧ t.defr = s.defr ∧ t.doors = s.doors ∧ t.bank = s.bank ∧ t.cond = s.cond ∧ t.link = s.link ∧
      t.own = s.own) ?_
  simp [Holds, removeFrames]

end Sys2Proof.Machine
end

