-- ==== Sys2Proof/Laws/FramesBlocks.lean ====
section
/-! SUPPORT. One lemma per operation that says what it leaves alone: the operations of the Defrost Sequencer, the claims and releases, the Zone Table, the Sensor Scanner and the Door Monitor. -/

namespace Sys2Proof.Machine

variable (s : State)

/-! ### Machine/Defrost.lean -/

@[simp] theorem setPhase_keeps (p : DefrostPhase) :
    (setPhase p s).pending = s.pending ∧ (setPhase p s).settings = s.settings ∧ (setPhase p s).zones = s.zones ∧
    (setPhase p s).scanner = s.scanner ∧ (setPhase p s).arb = s.arb ∧ (setPhase p s).air = s.air ∧
    (setPhase p s).comp = s.comp ∧ (setPhase p s).doors = s.doors ∧ (setPhase p s).bank = s.bank ∧
    (setPhase p s).cond = s.cond ∧ (setPhase p s).link = s.link ∧ (setPhase p s).own = s.own := by
  refine holds_elim (fun t =>
      t.pending = s.pending ∧ t.settings = s.settings ∧ t.zones = s.zones ∧ t.scanner = s.scanner ∧ t.arb = s.arb ∧
      t.air = s.air ∧ t.comp = s.comp ∧ t.doors = s.doors ∧ t.bank = s.bank ∧ t.cond = s.cond ∧ t.link = s.link ∧
      t.own = s.own) ?_
  simp [Holds, setPhase]

@[simp] theorem addFrost_keeps (n : Nat) :
    (addFrost n s).pending = s.pending ∧ (addFrost n s).settings = s.settings ∧ (addFrost n s).zones = s.zones ∧
    (addFrost n s).scanner = s.scanner ∧ (addFrost n s).arb = s.arb ∧ (addFrost n s).air = s.air ∧
    (addFrost n s).comp = s.comp ∧ (addFrost n s).doors = s.doors ∧ (addFrost n s).bank = s.bank ∧
    (addFrost n s).cond = s.cond ∧ (addFrost n s).link = s.link ∧ (addFrost n s).own = s.own := by
  refine holds_elim (fun t =>
      t.pending = s.pending ∧ t.settings = s.settings ∧ t.zones = s.zones ∧ t.scanner = s.scanner ∧ t.arb = s.arb ∧
      t.air = s.air ∧ t.comp = s.comp ∧ t.doors = s.doors ∧ t.bank = s.bank ∧ t.cond = s.cond ∧ t.link = s.link ∧
      t.own = s.own) ?_
  simp [Holds, addFrost]

@[simp] theorem giveStopOutputs_keeps :
    (giveStopOutputs s).pending = s.pending ∧ (giveStopOutputs s).settings = s.settings ∧
    (giveStopOutputs s).zones = s.zones ∧ (giveStopOutputs s).scanner = s.scanner ∧
    (giveStopOutputs s).arb = s.arb ∧ (giveStopOutputs s).doors = s.doors ∧ (giveStopOutputs s).cond = s.cond ∧
    (giveStopOutputs s).link = s.link := by
  refine holds_elim (fun t =>
      t.pending = s.pending ∧ t.settings = s.settings ∧ t.zones = s.zones ∧ t.scanner = s.scanner ∧ t.arb = s.arb ∧
      t.doors = s.doors ∧ t.cond = s.cond ∧ t.link = s.link) ?_
  simp [Holds, giveStopOutputs]

@[simp] theorem givePreChillOutputs_keeps :
    (givePreChillOutputs s).pending = s.pending ∧ (givePreChillOutputs s).settings = s.settings ∧
    (givePreChillOutputs s).zones = s.zones ∧ (givePreChillOutputs s).scanner = s.scanner ∧
    (givePreChillOutputs s).arb = s.arb ∧ (givePreChillOutputs s).doors = s.doors ∧
    (givePreChillOutputs s).cond = s.cond ∧ (givePreChillOutputs s).link = s.link := by
  refine holds_elim (fun t =>
      t.pending = s.pending ∧ t.settings = s.settings ∧ t.zones = s.zones ∧ t.scanner = s.scanner ∧ t.arb = s.arb ∧
      t.doors = s.doors ∧ t.cond = s.cond ∧ t.link = s.link) ?_
  simp [Holds, givePreChillOutputs]

@[simp] theorem giveRecoverOutputs_keeps :
    (giveRecoverOutputs s).pending = s.pending ∧ (giveRecoverOutputs s).settings = s.settings ∧
    (giveRecoverOutputs s).zones = s.zones ∧ (giveRecoverOutputs s).scanner = s.scanner ∧
    (giveRecoverOutputs s).arb = s.arb ∧ (giveRecoverOutputs s).doors = s.doors ∧
    (giveRecoverOutputs s).cond = s.cond ∧ (giveRecoverOutputs s).link = s.link := by
  refine holds_elim (fun t =>
      t.pending = s.pending ∧ t.settings = s.settings ∧ t.zones = s.zones ∧ t.scanner = s.scanner ∧ t.arb = s.arb ∧
      t.doors = s.doors ∧ t.cond = s.cond ∧ t.link = s.link) ?_
  simp [Holds, giveRecoverOutputs]

@[simp] theorem enterHeat_keeps :
    (enterHeat s).pending = s.pending ∧ (enterHeat s).settings = s.settings ∧ (enterHeat s).zones = s.zones ∧
    (enterHeat s).scanner = s.scanner ∧ (enterHeat s).arb = s.arb ∧ (enterHeat s).doors = s.doors ∧
    (enterHeat s).cond = s.cond ∧ (enterHeat s).link = s.link := by
  refine holds_elim (fun t =>
      t.pending = s.pending ∧ t.settings = s.settings ∧ t.zones = s.zones ∧ t.scanner = s.scanner ∧ t.arb = s.arb ∧
      t.doors = s.doors ∧ t.cond = s.cond ∧ t.link = s.link) ?_
  simp [Holds, enterHeat]

@[simp] theorem continueHeat_keeps :
    (continueHeat s).pending = s.pending ∧ (continueHeat s).settings = s.settings ∧
    (continueHeat s).zones = s.zones ∧ (continueHeat s).scanner = s.scanner ∧ (continueHeat s).arb = s.arb ∧
    (continueHeat s).doors = s.doors ∧ (continueHeat s).cond = s.cond ∧ (continueHeat s).link = s.link := by
  refine holds_elim (fun t =>
      t.pending = s.pending ∧ t.settings = s.settings ∧ t.zones = s.zones ∧ t.scanner = s.scanner ∧ t.arb = s.arb ∧
      t.doors = s.doors ∧ t.cond = s.cond ∧ t.link = s.link) ?_
  simp [Holds, continueHeat]

@[simp] theorem endStopWait_keeps :
    (endStopWait s).pending = s.pending ∧ (endStopWait s).settings = s.settings ∧ (endStopWait s).zones = s.zones ∧
    (endStopWait s).scanner = s.scanner ∧ (endStopWait s).arb = s.arb ∧ (endStopWait s).doors = s.doors ∧
    (endStopWait s).cond = s.cond ∧ (endStopWait s).link = s.link := by
  refine holds_elim (fun t =>
      t.pending = s.pending ∧ t.settings = s.settings ∧ t.zones = s.zones ∧ t.scanner = s.scanner ∧ t.arb = s.arb ∧
      t.doors = s.doors ∧ t.cond = s.cond ∧ t.link = s.link) ?_
  unfold endStopWait
  split <;> simp [Holds]

@[simp] theorem enterStopWait_keeps :
    (enterStopWait s).pending = s.pending ∧ (enterStopWait s).settings = s.settings ∧
    (enterStopWait s).zones = s.zones ∧ (enterStopWait s).scanner = s.scanner ∧ (enterStopWait s).arb = s.arb ∧
    (enterStopWait s).doors = s.doors ∧ (enterStopWait s).cond = s.cond ∧ (enterStopWait s).link = s.link := by
  refine holds_elim (fun t =>
      t.pending = s.pending ∧ t.settings = s.settings ∧ t.zones = s.zones ∧ t.scanner = s.scanner ∧ t.arb = s.arb ∧
      t.doors = s.doors ∧ t.cond = s.cond ∧ t.link = s.link) ?_
  unfold enterStopWait
  dsimp only
  split <;> simp [Holds]

@[simp] theorem enterPreChill_keeps :
    (enterPreChill s).pending = s.pending ∧ (enterPreChill s).settings = s.settings ∧
    (enterPreChill s).zones = s.zones ∧ (enterPreChill s).scanner = s.scanner ∧ (enterPreChill s).arb = s.arb ∧
    (enterPreChill s).doors = s.doors ∧ (enterPreChill s).cond = s.cond ∧ (enterPreChill s).link = s.link := by
  refine holds_elim (fun t =>
      t.pending = s.pending ∧ t.settings = s.settings ∧ t.zones = s.zones ∧ t.scanner = s.scanner ∧ t.arb = s.arb ∧
      t.doors = s.doors ∧ t.cond = s.cond ∧ t.link = s.link) ?_
  simp [Holds, enterPreChill]

@[simp] theorem enterFirstPhase_keeps :
    (enterFirstPhase s).pending = s.pending ∧ (enterFirstPhase s).settings = s.settings ∧
    (enterFirstPhase s).zones = s.zones ∧ (enterFirstPhase s).scanner = s.scanner ∧
    (enterFirstPhase s).arb = s.arb ∧ (enterFirstPhase s).doors = s.doors ∧ (enterFirstPhase s).cond = s.cond ∧
    (enterFirstPhase s).link = s.link := by
  refine holds_elim (fun t =>
      t.pending = s.pending ∧ t.settings = s.settings ∧ t.zones = s.zones ∧ t.scanner = s.scanner ∧ t.arb = s.arb ∧
      t.doors = s.doors ∧ t.cond = s.cond ∧ t.link = s.link) ?_
  unfold enterFirstPhase
  split <;> simp [Holds]

@[simp] theorem enterDrip_keeps :
    (enterDrip s).pending = s.pending ∧ (enterDrip s).settings = s.settings ∧ (enterDrip s).zones = s.zones ∧
    (enterDrip s).scanner = s.scanner ∧ (enterDrip s).arb = s.arb ∧ (enterDrip s).doors = s.doors ∧
    (enterDrip s).cond = s.cond ∧ (enterDrip s).link = s.link := by
  refine holds_elim (fun t =>
      t.pending = s.pending ∧ t.settings = s.settings ∧ t.zones = s.zones ∧ t.scanner = s.scanner ∧ t.arb = s.arb ∧
      t.doors = s.doors ∧ t.cond = s.cond ∧ t.link = s.link) ?_
  unfold enterDrip
  dsimp only
  split <;> simp [Holds]

@[simp] theorem enterRecover_keeps :
    (enterRecover s).pending = s.pending ∧ (enterRecover s).settings = s.settings ∧
    (enterRecover s).zones = s.zones ∧ (enterRecover s).scanner = s.scanner ∧ (enterRecover s).arb = s.arb ∧
    (enterRecover s).doors = s.doors ∧ (enterRecover s).cond = s.cond ∧ (enterRecover s).link = s.link := by
  refine holds_elim (fun t =>
      t.pending = s.pending ∧ t.settings = s.settings ∧ t.zones = s.zones ∧ t.scanner = s.scanner ∧ t.arb = s.arb ∧
      t.doors = s.doors ∧ t.cond = s.cond ∧ t.link = s.link) ?_
  simp [Holds, enterRecover]

@[simp] theorem adaptDue_keeps (how : HeatEnd) :
    (adaptDue how s).pending = s.pending ∧ (adaptDue how s).zones = s.zones ∧
    (adaptDue how s).scanner = s.scanner ∧ (adaptDue how s).arb = s.arb ∧ (adaptDue how s).air = s.air ∧
    (adaptDue how s).comp = s.comp ∧ (adaptDue how s).defr = s.defr ∧ (adaptDue how s).doors = s.doors ∧
    (adaptDue how s).bank = s.bank ∧ (adaptDue how s).cond = s.cond ∧ (adaptDue how s).link = s.link ∧
    (adaptDue how s).own = s.own := by
  refine holds_elim (fun t =>
      t.pending = s.pending ∧ t.zones = s.zones ∧ t.scanner = s.scanner ∧ t.arb = s.arb ∧ t.air = s.air ∧
      t.comp = s.comp ∧ t.defr = s.defr ∧ t.doors = s.doors ∧ t.bank = s.bank ∧ t.cond = s.cond ∧ t.link = s.link ∧
      t.own = s.own) ?_
  unfold adaptDue
  dsimp only
  split <;> simp [Holds]

@[simp] theorem endHeat_keeps (how : HeatEnd) :
    (endHeat how s).pending = s.pending ∧ (endHeat how s).zones = s.zones ∧ (endHeat how s).scanner = s.scanner ∧
    (endHeat how s).arb = s.arb ∧ (endHeat how s).doors = s.doors ∧ (endHeat how s).cond = s.cond ∧
    (endHeat how s).link = s.link := by
  refine holds_elim (fun t =>
      t.pending = s.pending ∧ t.zones = s.zones ∧ t.scanner = s.scanner ∧ t.arb = s.arb ∧ t.doors = s.doors ∧
      t.cond = s.cond ∧ t.link = s.link) ?_
  simp [Holds, endHeat]

@[simp] theorem heatTimedOut_keeps :
    (heatTimedOut s).pending = s.pending ∧ (heatTimedOut s).zones = s.zones ∧
    (heatTimedOut s).scanner = s.scanner ∧ (heatTimedOut s).arb = s.arb ∧ (heatTimedOut s).doors = s.doors ∧
    (heatTimedOut s).link = s.link := by
  refine holds_elim (fun t =>
      t.pending = s.pending ∧ t.zones = s.zones ∧ t.scanner = s.scanner ∧ t.arb = s.arb ∧ t.doors = s.doors ∧
      t.link = s.link) ?_
  unfold heatTimedOut
  split <;> simp [Holds]

@[simp] theorem coilLossInHeat_keeps :
    (coilLossInHeat s).pending = s.pending ∧ (coilLossInHeat s).zones = s.zones ∧
    (coilLossInHeat s).scanner = s.scanner ∧ (coilLossInHeat s).arb = s.arb ∧ (coilLossInHeat s).doors = s.doors ∧
    (coilLossInHeat s).cond = s.cond ∧ (coilLossInHeat s).link = s.link := by
  refine holds_elim (fun t =>
      t.pending = s.pending ∧ t.zones = s.zones ∧ t.scanner = s.scanner ∧ t.arb = s.arb ∧ t.doors = s.doors ∧
      t.cond = s.cond ∧ t.link = s.link) ?_
  unfold coilLossInHeat
  dsimp only
  repeat' split
  all_goals simp [Holds]

@[simp] theorem coilInHeat_keeps (state : ChanState) (tf : Option Int) :
    (coilInHeat state tf s).pending = s.pending ∧ (coilInHeat state tf s).zones = s.zones ∧
    (coilInHeat state tf s).scanner = s.scanner ∧ (coilInHeat state tf s).arb = s.arb ∧
    (coilInHeat state tf s).doors = s.doors ∧ (coilInHeat state tf s).cond = s.cond ∧
    (coilInHeat state tf s).link = s.link := by
  refine holds_elim (fun t =>
      t.pending = s.pending ∧ t.zones = s.zones ∧ t.scanner = s.scanner ∧ t.arb = s.arb ∧ t.doors = s.doors ∧
      t.cond = s.cond ∧ t.link = s.link) ?_
  unfold coilInHeat
  dsimp only
  repeat' split
  all_goals simp [Holds]

@[simp] theorem followComp_keeps :
    (followComp s).pending = s.pending ∧ (followComp s).settings = s.settings ∧ (followComp s).zones = s.zones ∧
    (followComp s).scanner = s.scanner ∧ (followComp s).arb = s.arb ∧ (followComp s).doors = s.doors ∧
    (followComp s).cond = s.cond ∧ (followComp s).link = s.link := by
  refine holds_elim (fun t =>
      t.pending = s.pending ∧ t.settings = s.settings ∧ t.zones = s.zones ∧ t.scanner = s.scanner ∧ t.arb = s.arb ∧
      t.doors = s.doors ∧ t.cond = s.cond ∧ t.link = s.link) ?_
  unfold followComp
  repeat' split
  all_goals simp [Holds]

@[simp] theorem suspendDefrost_keeps :
    (suspendDefrost s).pending = s.pending ∧ (suspendDefrost s).settings = s.settings ∧
    (suspendDefrost s).zones = s.zones ∧ (suspendDefrost s).scanner = s.scanner ∧ (suspendDefrost s).arb = s.arb ∧
    (suspendDefrost s).air = s.air ∧ (suspendDefrost s).comp = s.comp ∧ (suspendDefrost s).doors = s.doors ∧
    (suspendDefrost s).cond = s.cond ∧ (suspendDefrost s).link = s.link ∧ (suspendDefrost s).own = s.own := by
  refine holds_elim (fun t =>
      t.pending = s.pending ∧ t.settings = s.settings ∧ t.zones = s.zones ∧ t.scanner = s.scanner ∧ t.arb = s.arb ∧
      t.air = s.air ∧ t.comp = s.comp ∧ t.doors = s.doors ∧ t.cond = s.cond ∧ t.link = s.link ∧ t.own = s.own) ?_
  simp [Holds, suspendDefrost]

@[simp] theorem resumeDefrost_keeps :
    (resumeDefrost s).pending = s.pending ∧ (resumeDefrost s).settings = s.settings ∧
    (resumeDefrost s).zones = s.zones ∧ (resumeDefrost s).scanner = s.scanner ∧ (resumeDefrost s).doors = s.doors ∧
    (resumeDefrost s).cond = s.cond ∧ (resumeDefrost s).link = s.link := by
  refine holds_elim (fun t =>
      t.pending = s.pending ∧ t.settings = s.settings ∧ t.zones = s.zones ∧ t.scanner = s.scanner ∧
      t.doors = s.doors ∧ t.cond = s.cond ∧ t.link = s.link) ?_
  unfold resumeDefrost
  dsimp only
  repeat' split
  all_goals simp [Holds]

@[simp] theorem heaterOpenRound_keeps (sense : Bool) :
    (heaterOpenRound sense s).pending = s.pending ∧ (heaterOpenRound sense s).settings = s.settings ∧
    (heaterOpenRound sense s).zones = s.zones ∧ (heaterOpenRound sense s).scanner = s.scanner ∧
    (heaterOpenRound sense s).arb = s.arb ∧ (heaterOpenRound sense s).air = s.air ∧
    (heaterOpenRound sense s).comp = s.comp ∧ (heaterOpenRound sense s).doors = s.doors ∧
    (heaterOpenRound sense s).bank = s.bank ∧ (heaterOpenRound sense s).link = s.link ∧
    (heaterOpenRound sense s).own = s.own := by
  refine holds_elim (fun t =>
      t.pending = s.pending ∧ t.settings = s.settings ∧ t.zones = s.zones ∧ t.scanner = s.scanner ∧ t.arb = s.arb ∧
      t.air = s.air ∧ t.comp = s.comp ∧ t.doors = s.doors ∧ t.bank = s.bank ∧ t.link = s.link ∧ t.own = s.own) ?_
  unfold heaterOpenRound
  dsimp only
  split <;> simp [Holds]

@[simp] theorem heaterStuckRound_keeps (sense : Bool) :
    (heaterStuckRound sense s).pending = s.pending ∧ (heaterStuckRound sense s).settings = s.settings ∧
    (heaterStuckRound sense s).zones = s.zones ∧ (heaterStuckRound sense s).scanner = s.scanner ∧
    (heaterStuckRound sense s).arb = s.arb ∧ (heaterStuckRound sense s).air = s.air ∧
    (heaterStuckRound sense s).comp = s.comp ∧ (heaterStuckRound sense s).doors = s.doors ∧
    (heaterStuckRound sense s).bank = s.bank ∧ (heaterStuckRound sense s).link = s.link ∧
    (heaterStuckRound sense s).own = s.own := by
  refine holds_elim (fun t =>
      t.pending = s.pending ∧ t.settings = s.settings ∧ t.zones = s.zones ∧ t.scanner = s.scanner ∧ t.arb = s.arb ∧
      t.air = s.air ∧ t.comp = s.comp ∧ t.doors = s.doors ∧ t.bank = s.bank ∧ t.link = s.link ∧ t.own = s.own) ?_
  unfold heaterStuckRound
  dsimp only
  split <;> simp [Holds]

/-! ### Machine/Path.lean -/

@[simp] theorem tellDoors_keeps :
    (tellDoors s).pending = s.pending ∧ (tellDoors s).settings = s.settings ∧ (tellDoors s).zones = s.zones ∧
    (tellDoors s).scanner = s.scanner ∧ (tellDoors s).arb = s.arb ∧ (tellDoors s).air = s.air ∧
    (tellDoors s).comp = s.comp ∧ (tellDoors s).defr = s.defr ∧ (tellDoors s).bank = s.bank ∧
    (tellDoors s).cond = s.cond ∧ (tellDoors s).link = s.link ∧ (tellDoors s).own = s.own := by
  refine holds_elim (fun t =>
      t.pending = s.pending ∧ t.settings = s.settings ∧ t.zones = s.zones ∧ t.scanner = s.scanner ∧ t.arb = s.arb ∧
      t.air = s.air ∧ t.comp = s.comp ∧ t.defr = s.defr ∧ t.bank = s.bank ∧ t.cond = s.cond ∧ t.link = s.link ∧
      t.own = s.own) ?_
  unfold tellDoors
  split <;> simp [Holds]

@[simp] theorem evalAllAlarms_keeps :
    (evalAllAlarms s).pending = s.pending ∧ (evalAllAlarms s).settings = s.settings ∧
    (evalAllAlarms s).zones = s.zones ∧ (evalAllAlarms s).scanner = s.scanner ∧ (evalAllAlarms s).arb = s.arb ∧
    (evalAllAlarms s).air = s.air ∧ (evalAllAlarms s).comp = s.comp ∧ (evalAllAlarms s).defr = s.defr ∧
    (evalAllAlarms s).doors = s.doors ∧ (evalAllAlarms s).link = s.link := by
  refine holds_elim (fun t =>
      t.pending = s.pending ∧ t.settings = s.settings ∧ t.zones = s.zones ∧ t.scanner = s.scanner ∧ t.arb = s.arb ∧
      t.air = s.air ∧ t.comp = s.comp ∧ t.defr = s.defr ∧ t.doors = s.doors ∧ t.link = s.link) ?_
  simp [Holds, evalAllAlarms]

@[simp] theorem tellConditions_keeps :
    (tellConditions s).pending = s.pending ∧ (tellConditions s).settings = s.settings ∧
    (tellConditions s).zones = s.zones ∧ (tellConditions s).scanner = s.scanner ∧ (tellConditions s).arb = s.arb ∧
    (tellConditions s).air = s.air ∧ (tellConditions s).comp = s.comp ∧ (tellConditions s).defr = s.defr ∧
    (tellConditions s).doors = s.doors ∧ (tellConditions s).link = s.link := by
  refine holds_elim (fun t =>
      t.pending = s.pending ∧ t.settings = s.settings ∧ t.zones = s.zones ∧ t.scanner = s.scanner ∧ t.arb = s.arb ∧
      t.air = s.air ∧ t.comp = s.comp ∧ t.defr = s.defr ∧ t.doors = s.doors ∧ t.link = s.link) ?_
  unfold tellConditions
  dsimp only
  split <;> simp [Holds]

@[simp] theorem tellHolder_keeps :
    (tellHolder s).pending = s.pending ∧ (tellHolder s).settings = s.settings ∧ (tellHolder s).zones = s.zones ∧
    (tellHolder s).scanner = s.scanner ∧ (tellHolder s).arb = s.arb ∧ (tellHolder s).air = s.air ∧
    (tellHolder s).comp = s.comp ∧ (tellHolder s).link = s.link := by
  refine holds_elim (fun t =>
      t.pending = s.pending ∧ t.settings = s.settings ∧ t.zones = s.zones ∧ t.scanner = s.scanner ∧ t.arb = s.arb ∧
      t.air = s.air ∧ t.comp = s.comp ∧ t.link = s.link) ?_
  simp [Holds, tellHolder]

@[simp] theorem claimDoor_keeps :
    (claimDoor s).pending = s.pending ∧ (claimDoor s).settings = s.settings ∧ (claimDoor s).zones = s.zones ∧
    (claimDoor s).scanner = s.scanner ∧ (claimDoor s).link = s.link := by
  refine holds_elim (fun t =>
      t.pending = s.pending ∧ t.settings = s.settings ∧ t.zones = s.zones ∧ t.scanner = s.scanner ∧ t.link = s.link) ?_
  simp [Holds, claimDoor]

@[simp] theorem claimDefrost_keeps :
    (claimDefrost s).pending = s.pending ∧ (claimDefrost s).settings = s.settings ∧
    (claimDefrost s).zones = s.zones ∧ (claimDefrost s).scanner = s.scanner ∧ (claimDefrost s).link = s.link := by
  refine holds_elim (fun t =>
      t.pending = s.pending ∧ t.settings = s.settings ∧ t.zones = s.zones ∧ t.scanner = s.scanner ∧ t.link = s.link) ?_
  simp [Holds, claimDefrost]

@[simp] theorem claimService_keeps :
    (claimService s).pending = s.pending ∧ (claimService s).settings = s.settings ∧
    (claimService s).zones = s.zones ∧ (claimService s).scanner = s.scanner ∧ (claimService s).link = s.link := by
  refine holds_elim (fun t =>
      t.pending = s.pending ∧ t.settings = s.settings ∧ t.zones = s.zones ∧ t.scanner = s.scanner ∧ t.link = s.link) ?_
  unfold claimService
  dsimp only
  split <;> simp [Holds]

@[simp] theorem report_keeps :
    (report s).pending = s.pending ∧ (report s).settings = s.settings ∧ (report s).zones = s.zones ∧
    (report s).scanner = s.scanner ∧ (report s).link = s.link := by
  refine holds_elim (fun t =>
      t.pending = s.pending ∧ t.settings = s.settings ∧ t.zones = s.zones ∧ t.scanner = s.scanner ∧ t.link = s.link) ?_
  unfold report
  dsimp only
  repeat' split
  all_goals simp [Holds]

@[simp] theorem releasePath_keeps :
    (releasePath s).pending = s.pending ∧ (releasePath s).settings = s.settings ∧
    (releasePath s).scanner = s.scanner ∧ (releasePath s).link = s.link := by
  refine holds_elim (fun t =>
      t.pending = s.pending ∧ t.settings = s.settings ∧ t.scanner = s.scanner ∧ t.link = s.link) ?_
  unfold releasePath
  dsimp only
  split <;> simp [Holds]

@[simp] theorem endService_keeps :
    (endService s).pending = s.pending ∧ (endService s).settings = s.settings ∧
    (endService s).scanner = s.scanner ∧ (endService s).link = s.link := by
  refine holds_elim (fun t =>
      t.pending = s.pending ∧ t.settings = s.settings ∧ t.scanner = s.scanner ∧ t.link = s.link) ?_
  simp [Holds, endService]

@[simp] theorem callingBegan_keeps :
    (callingBegan s).pending = s.pending ∧ (callingBegan s).settings = s.settings ∧
    (callingBegan s).zones = s.zones ∧ (callingBegan s).scanner = s.scanner ∧ (callingBegan s).link = s.link := by
  refine holds_elim (fun t =>
      t.pending = s.pending ∧ t.settings = s.settings ∧ t.zones = s.zones ∧ t.scanner = s.scanner ∧ t.link = s.link) ?_
  unfold callingBegan
  split <;> simp [Holds]

@[simp] theorem callingStopped_keeps (z : Zone) :
    (callingStopped z s).pending = s.pending ∧ (callingStopped z s).settings = s.settings ∧
    (callingStopped z s).scanner = s.scanner ∧ (callingStopped z s).link = s.link := by
  refine holds_elim (fun t =>
      t.pending = s.pending ∧ t.settings = s.settings ∧ t.scanner = s.scanner ∧ t.link = s.link) ?_
  unfold callingStopped
  repeat' split
  all_goals simp [Holds]

@[simp] theorem setCalling_keeps (z : Zone) (b : Bool) :
    (setCalling z b s).pending = s.pending ∧ (setCalling z b s).settings = s.settings ∧
    (setCalling z b s).scanner = s.scanner ∧ (setCalling z b s).link = s.link := by
  refine holds_elim (fun t =>
      t.pending = s.pending ∧ t.settings = s.settings ∧ t.scanner = s.scanner ∧ t.link = s.link) ?_
  unfold setCalling
  repeat' split
  all_goals simp [Holds]

@[simp] theorem onSlotExpiry_keeps :
    (onSlotExpiry s).pending = s.pending ∧ (onSlotExpiry s).settings = s.settings ∧
    (onSlotExpiry s).scanner = s.scanner ∧ (onSlotExpiry s).link = s.link := by
  refine holds_elim (fun t =>
      t.pending = s.pending ∧ t.settings = s.settings ∧ t.scanner = s.scanner ∧ t.link = s.link) ?_
  unfold onSlotExpiry
  repeat' split
  all_goals simp [Holds]

@[simp] theorem endSlotAtOff_keeps (z : Zone) :
    (endSlotAtOff z s).pending = s.pending ∧ (endSlotAtOff z s).settings = s.settings ∧
    (endSlotAtOff z s).scanner = s.scanner ∧ (endSlotAtOff z s).link = s.link := by
  refine holds_elim (fun t =>
      t.pending = s.pending ∧ t.settings = s.settings ∧ t.scanner = s.scanner ∧ t.link = s.link) ?_
  unfold endSlotAtOff
  repeat' split
  all_goals simp [Holds]

@[simp] theorem onCompletion_keeps :
    (onCompletion s).pending = s.pending ∧ (onCompletion s).settings = s.settings ∧
    (onCompletion s).zones = s.zones ∧ (onCompletion s).scanner = s.scanner ∧ (onCompletion s).link = s.link := by
  refine holds_elim (fun t =>
      t.pending = s.pending ∧ t.settings = s.settings ∧ t.zones = s.zones ∧ t.scanner = s.scanner ∧ t.link = s.link) ?_
  unfold onCompletion
  repeat' split
  all_goals simp [Holds]

@[simp] theorem commitPlan_keeps :
    (commitPlan s).pending = s.pending ∧ (commitPlan s).settings = s.settings ∧ (commitPlan s).zones = s.zones ∧
    (commitPlan s).scanner = s.scanner ∧ (commitPlan s).link = s.link := by
  refine holds_elim (fun t =>
      t.pending = s.pending ∧ t.settings = s.settings ∧ t.zones = s.zones ∧ t.scanner = s.scanner ∧ t.link = s.link) ?_
  unfold commitPlan
  split <;> simp [Holds]

@[simp] theorem enterPending_keeps :
    (enterPending s).pending = s.pending ∧ (enterPending s).settings = s.settings ∧
    (enterPending s).zones = s.zones ∧ (enterPending s).scanner = s.scanner ∧ (enterPending s).link = s.link := by
  refine holds_elim (fun t =>
      t.pending = s.pending ∧ t.settings = s.settings ∧ t.zones = s.zones ∧ t.scanner = s.scanner ∧ t.link = s.link) ?_
  unfold enterPending
  dsimp only
  split <;> simp [Holds]

@[simp] theorem dueCheck_keeps :
    (dueCheck s).pending = s.pending ∧ (dueCheck s).settings = s.settings ∧ (dueCheck s).zones = s.zones ∧
    (dueCheck s).scanner = s.scanner ∧ (dueCheck s).link = s.link := by
  refine holds_elim (fun t =>
      t.pending = s.pending ∧ t.settings = s.settings ∧ t.zones = s.zones ∧ t.scanner = s.scanner ∧ t.link = s.link) ?_
  unfold dueCheck
  split <;> simp [Holds]

@[simp] theorem leaveDefrost_keeps :
    (leaveDefrost s).pending = s.pending ∧ (leaveDefrost s).settings = s.settings ∧
    (leaveDefrost s).scanner = s.scanner ∧ (leaveDefrost s).link = s.link := by
  refine holds_elim (fun t =>
      t.pending = s.pending ∧ t.settings = s.settings ∧ t.scanner = s.scanner ∧ t.link = s.link) ?_
  unfold leaveDefrost
  dsimp only
  repeat' split
  all_goals simp [Holds]

@[simp] theorem endRecover_keeps :
    (endRecover s).pending = s.pending ∧ (endRecover s).settings = s.settings ∧
    (endRecover s).scanner = s.scanner ∧ (endRecover s).link = s.link := by
  refine holds_elim (fun t =>
      t.pending = s.pending ∧ t.settings = s.settings ∧ t.scanner = s.scanner ∧ t.link = s.link) ?_
  simp [Holds, endRecover]

@[simp] theorem onCoilSample_keeps (state : ChanState) (tf : Option Int) :
    (onCoilSample state tf s).pending = s.pending ∧ (onCoilSample state tf s).scanner = s.scanner ∧
    (onCoilSample state tf s).link = s.link := by
  refine holds_elim (fun t =>
      t.pending = s.pending ∧ t.scanner = s.scanner ∧ t.link = s.link) ?_
  unfold onCoilSample
  dsimp only
  repeat' split
  all_goals simp [Holds]

@[simp] theorem onPhaseExpiry_keeps :
    (onPhaseExpiry s).pending = s.pending ∧ (onPhaseExpiry s).scanner = s.scanner ∧ (onPhaseExpiry s).link = s.link := by
  refine holds_elim (fun t =>
      t.pending = s.pending ∧ t.scanner = s.scanner ∧ t.link = s.link) ?_
  unfold onPhaseExpiry
  split <;> simp [Holds]

@[simp] theorem growFrost_keeps (n : Nat) :
    (growFrost n s).pending = s.pending ∧ (growFrost n s).settings = s.settings ∧ (growFrost n s).zones = s.zones ∧
    (growFrost n s).scanner = s.scanner ∧ (growFrost n s).link = s.link := by
  refine holds_elim (fun t =>
      t.pending = s.pending ∧ t.settings = s.settings ∧ t.zones = s.zones ∧ t.scanner = s.scanner ∧ t.link = s.link) ?_
  unfold growFrost
  dsimp only
  split <;> simp [Holds]

@[simp] theorem onRunsecCarry_keeps :
    (onRunsecCarry s).pending = s.pending ∧ (onRunsecCarry s).settings = s.settings ∧
    (onRunsecCarry s).zones = s.zones ∧ (onRunsecCarry s).scanner = s.scanner ∧ (onRunsecCarry s).link = s.link := by
  refine holds_elim (fun t =>
      t.pending = s.pending ∧ t.settings = s.settings ∧ t.zones = s.zones ∧ t.scanner = s.scanner ∧ t.link = s.link) ?_
  simp [Holds, onRunsecCarry]

@[simp] theorem onHeaterSenseRound_keeps (sense : Bool) :
    (onHeaterSenseRound sense s).pending = s.pending ∧ (onHeaterSenseRound sense s).settings = s.settings ∧
    (onHeaterSenseRound sense s).zones = s.zones ∧ (onHeaterSenseRound sense s).scanner = s.scanner ∧
    (onHeaterSenseRound sense s).link = s.link := by
  refine holds_elim (fun t =>
      t.pending = s.pending ∧ t.settings = s.settings ∧ t.zones = s.zones ∧ t.scanner = s.scanner ∧ t.link = s.link) ?_
  unfold onHeaterSenseRound
  dsimp only
  split <;> simp [Holds]

@[simp] theorem onRamp_keeps :
    (onRamp s).pending = s.pending ∧ (onRamp s).settings = s.settings ∧ (onRamp s).zones = s.zones ∧
    (onRamp s).scanner = s.scanner ∧ (onRamp s).arb = s.arb ∧ (onRamp s).doors = s.doors ∧
    (onRamp s).cond = s.cond ∧ (onRamp s).link = s.link := by
  refine holds_elim (fun t =>
      t.pending = s.pending ∧ t.settings = s.settings ∧ t.zones = s.zones ∧ t.scanner = s.scanner ∧ t.arb = s.arb ∧
      t.doors = s.doors ∧ t.cond = s.cond ∧ t.link = s.link) ?_
  simp [Holds, onRamp]

@[simp] theorem onGuard_keeps :
    (onGuard s).pending = s.pending ∧ (onGuard s).settings = s.settings ∧ (onGuard s).zones = s.zones ∧
    (onGuard s).scanner = s.scanner ∧ (onGuard s).arb = s.arb ∧ (onGuard s).doors = s.doors ∧
    (onGuard s).link = s.link := by
  refine holds_elim (fun t =>
      t.pending = s.pending ∧ t.settings = s.settings ∧ t.zones = s.zones ∧ t.scanner = s.scanner ∧ t.arb = s.arb ∧
      t.doors = s.doors ∧ t.link = s.link) ?_
  simp [Holds, onGuard]

@[simp] theorem onCompFlt_keeps (asserted : Bool) :
    (onCompFlt asserted s).pending = s.pending ∧ (onCompFlt asserted s).settings = s.settings ∧
    (onCompFlt asserted s).zones = s.zones ∧ (onCompFlt asserted s).scanner = s.scanner ∧
    (onCompFlt asserted s).arb = s.arb ∧ (onCompFlt asserted s).doors = s.doors ∧
    (onCompFlt asserted s).link = s.link := by
  refine holds_elim (fun t =>
      t.pending = s.pending ∧ t.settings = s.settings ∧ t.zones = s.zones ∧ t.scanner = s.scanner ∧ t.arb = s.arb ∧
      t.doors = s.doors ∧ t.link = s.link) ?_
  simp [Holds, onCompFlt]

/-! ### Machine/Zones.lean -/

@[simp] theorem trustedSample_keeps (z : Zone) (tf : Int) :
    (trustedSample z tf s).pending = s.pending ∧ (trustedSample z tf s).settings = s.settings ∧
    (trustedSample z tf s).scanner = s.scanner ∧ (trustedSample z tf s).link = s.link := by
  refine holds_elim (fun t =>
      t.pending = s.pending ∧ t.settings = s.settings ∧ t.scanner = s.scanner ∧ t.link = s.link) ?_
  unfold trustedSample
  dsimp only
  split <;> simp [Holds]

@[simp] theorem enterPolicy_keeps (z : Zone) (p : Subst) :
    (enterPolicy z p s).pending = s.pending ∧ (enterPolicy z p s).settings = s.settings ∧
    (enterPolicy z p s).scanner = s.scanner ∧ (enterPolicy z p s).link = s.link := by
  refine holds_elim (fun t =>
      t.pending = s.pending ∧ t.settings = s.settings ∧ t.scanner = s.scanner ∧ t.link = s.link) ?_
  unfold enterPolicy
  dsimp only
  repeat' split
  all_goals simp [Holds]

@[simp] theorem policySample_keeps (z : Zone) :
    (policySample z s).pending = s.pending ∧ (policySample z s).settings = s.settings ∧
    (policySample z s).scanner = s.scanner ∧ (policySample z s).link = s.link := by
  refine holds_elim (fun t =>
      t.pending = s.pending ∧ t.settings = s.settings ∧ t.scanner = s.scanner ∧ t.link = s.link) ?_
  unfold policySample
  dsimp only
  split <;> simp [Holds]

@[simp] theorem lostSample_keeps (z : Zone) (lost : Nat) :
    (lostSample z lost s).pending = s.pending ∧ (lostSample z lost s).settings = s.settings ∧
    (lostSample z lost s).scanner = s.scanner ∧ (lostSample z lost s).link = s.link := by
  refine holds_elim (fun t =>
      t.pending = s.pending ∧ t.settings = s.settings ∧ t.scanner = s.scanner ∧ t.link = s.link) ?_
  unfold lostSample
  dsimp only
  repeat' split
  all_goals simp [Holds]

@[simp] theorem validSample_keeps (z : Zone) (tf : Option Int) :
    (validSample z tf s).pending = s.pending ∧ (validSample z tf s).settings = s.settings ∧
    (validSample z tf s).scanner = s.scanner ∧ (validSample z tf s).link = s.link := by
  refine holds_elim (fun t =>
      t.pending = s.pending ∧ t.settings = s.settings ∧ t.scanner = s.scanner ∧ t.link = s.link) ?_
  unfold validSample
  split <;> simp [Holds]

@[simp] theorem zoneSample_keeps (z : Zone) :
    (zoneSample z s).pending = s.pending ∧ (zoneSample z s).settings = s.settings ∧
    (zoneSample z s).scanner = s.scanner ∧ (zoneSample z s).link = s.link := by
  refine holds_elim (fun t =>
      t.pending = s.pending ∧ t.settings = s.settings ∧ t.scanner = s.scanner ∧ t.link = s.link) ?_
  unfold zoneSample
  dsimp only
  repeat' split
  all_goals simp [Holds]

@[simp] theorem startBoost_keeps (z : Zone) :
    (startBoost z s).pending = s.pending ∧ (startBoost z s).settings = s.settings ∧
    (startBoost z s).zones = s.zones ∧ (startBoost z s).scanner = s.scanner ∧ (startBoost z s).arb = s.arb ∧
    (startBoost z s).air = s.air ∧ (startBoost z s).comp = s.comp ∧ (startBoost z s).defr = s.defr ∧
    (startBoost z s).doors = s.doors ∧ (startBoost z s).cond = s.cond ∧ (startBoost z s).link = s.link := by
  refine holds_elim (fun t =>
      t.pending = s.pending ∧ t.settings = s.settings ∧ t.zones = s.zones ∧ t.scanner = s.scanner ∧ t.arb = s.arb ∧
      t.air = s.air ∧ t.comp = s.comp ∧ t.defr = s.defr ∧ t.doors = s.doors ∧ t.cond = s.cond ∧ t.link = s.link) ?_
  simp [Holds, startBoost]

@[simp] theorem enterBoost_keeps (z : Zone) :
    (enterBoost z s).pending = s.pending ∧ (enterBoost z s).settings = s.settings ∧
    (enterBoost z s).scanner = s.scanner ∧ (enterBoost z s).link = s.link := by
  refine holds_elim (fun t =>
      t.pending = s.pending ∧ t.settings = s.settings ∧ t.scanner = s.scanner ∧ t.link = s.link) ?_
  unfold enterBoost
  dsimp only
  split <;> simp [Holds]

@[simp] theorem enterOff_keeps (z : Zone) :
    (enterOff z s).pending = s.pending ∧ (enterOff z s).settings = s.settings ∧
    (enterOff z s).scanner = s.scanner ∧ (enterOff z s).link = s.link := by
  refine holds_elim (fun t =>
      t.pending = s.pending ∧ t.settings = s.settings ∧ t.scanner = s.scanner ∧ t.link = s.link) ?_
  simp [Holds, enterOff]

@[simp] theorem leaveOff_keeps (z : Zone) (new : Mode) :
    (leaveOff z new s).pending = s.pending ∧ (leaveOff z new s).settings = s.settings ∧
    (leaveOff z new s).scanner = s.scanner ∧ (leaveOff z new s).link = s.link := by
  refine holds_elim (fun t =>
      t.pending = s.pending ∧ t.settings = s.settings ∧ t.scanner = s.scanner ∧ t.link = s.link) ?_
  unfold leaveOff
  dsimp only
  repeat' split
  all_goals simp [Holds]

@[simp] theorem onModeChange_keeps (z : Zone) (old new : Mode) :
    (onModeChange z old new s).pending = s.pending ∧ (onModeChange z old new s).settings = s.settings ∧
    (onModeChange z old new s).scanner = s.scanner ∧ (onModeChange z old new s).link = s.link := by
  refine holds_elim (fun t =>
      t.pending = s.pending ∧ t.settings = s.settings ∧ t.scanner = s.scanner ∧ t.link = s.link) ?_
  unfold onModeChange
  repeat' split
  all_goals simp [Holds]

@[simp] theorem onBoostExpiry_keeps (z : Zone) :
    (onBoostExpiry z s).pending = s.pending ∧ (onBoostExpiry z s).scanner = s.scanner ∧
    (onBoostExpiry z s).link = s.link := by
  refine holds_elim (fun t =>
      t.pending = s.pending ∧ t.scanner = s.scanner ∧ t.link = s.link) ?_
  unfold onBoostExpiry
  dsimp only
  split <;> simp [Holds]

@[simp] theorem onSetpointChange_keeps (z : Zone) :
    (onSetpointChange z s).pending = s.pending ∧ (onSetpointChange z s).settings = s.settings ∧
    (onSetpointChange z s).scanner = s.scanner ∧ (onSetpointChange z s).arb = s.arb ∧
    (onSetpointChange z s).air = s.air ∧ (onSetpointChange z s).comp = s.comp ∧
    (onSetpointChange z s).defr = s.defr ∧ (onSetpointChange z s).doors = s.doors ∧
    (onSetpointChange z s).link = s.link := by
  refine holds_elim (fun t =>
      t.pending = s.pending ∧ t.settings = s.settings ∧ t.scanner = s.scanner ∧ t.arb = s.arb ∧ t.air = s.air ∧
      t.comp = s.comp ∧ t.defr = s.defr ∧ t.doors = s.doors ∧ t.link = s.link) ?_
  unfold onSetpointChange
  split <;> simp [Holds]

@[simp] theorem uLostReaches_keeps (z : Zone) :
    (uLostReaches z s).pending = s.pending ∧ (uLostReaches z s).settings = s.settings ∧
    (uLostReaches z s).scanner = s.scanner ∧ (uLostReaches z s).arb = s.arb ∧ (uLostReaches z s).air = s.air ∧
    (uLostReaches z s).comp = s.comp ∧ (uLostReaches z s).defr = s.defr ∧ (uLostReaches z s).doors = s.doors ∧
    (uLostReaches z s).bank = s.bank ∧ (uLostReaches z s).cond = s.cond ∧ (uLostReaches z s).link = s.link ∧
    (uLostReaches z s).own = s.own := by
  refine holds_elim (fun t =>
      t.pending = s.pending ∧ t.settings = s.settings ∧ t.scanner = s.scanner ∧ t.arb = s.arb ∧ t.air = s.air ∧
      t.comp = s.comp ∧ t.defr = s.defr ∧ t.doors = s.doors ∧ t.bank = s.bank ∧ t.cond = s.cond ∧ t.link = s.link ∧
      t.own = s.own) ?_
  unfold uLostReaches
  split <;> simp [Holds]

@[simp] theorem onULostChange_keeps :
    (onULostChange s).pending = s.pending ∧ (onULostChange s).settings = s.settings ∧
    (onULostChange s).scanner = s.scanner ∧ (onULostChange s).arb = s.arb ∧ (onULostChange s).air = s.air ∧
    (onULostChange s).comp = s.comp ∧ (onULostChange s).defr = s.defr ∧ (onULostChange s).doors = s.doors ∧
    (onULostChange s).bank = s.bank ∧ (onULostChange s).cond = s.cond ∧ (onULostChange s).link = s.link ∧
    (onULostChange s).own = s.own := by
  refine holds_elim (fun t =>
      t.pending = s.pending ∧ t.settings = s.settings ∧ t.scanner = s.scanner ∧ t.arb = s.arb ∧ t.air = s.air ∧
      t.comp = s.comp ∧ t.defr = s.defr ∧ t.doors = s.doors ∧ t.bank = s.bank ∧ t.cond = s.cond ∧ t.link = s.link ∧
      t.own = s.own) ?_
  simp [Holds, onULostChange]

@[simp] theorem takeCredit_keeps (z : Zone) (credit : Nat) :
    (takeCredit z credit s).pending = s.pending ∧ (takeCredit z credit s).settings = s.settings ∧
    (takeCredit z credit s).scanner = s.scanner ∧ (takeCredit z credit s).arb = s.arb ∧
    (takeCredit z credit s).air = s.air ∧ (takeCredit z credit s).comp = s.comp ∧
    (takeCredit z credit s).defr = s.defr ∧ (takeCredit z credit s).doors = s.doors ∧
    (takeCredit z credit s).bank = s.bank ∧ (takeCredit z credit s).cond = s.cond ∧
    (takeCredit z credit s).link = s.link ∧ (takeCredit z credit s).own = s.own := by
  refine holds_elim (fun t =>
      t.pending = s.pending ∧ t.settings = s.settings ∧ t.scanner = s.scanner ∧ t.arb = s.arb ∧ t.air = s.air ∧
      t.comp = s.comp ∧ t.defr = s.defr ∧ t.doors = s.doors ∧ t.bank = s.bank ∧ t.cond = s.cond ∧ t.link = s.link ∧
      t.own = s.own) ?_
  unfold takeCredit
  repeat' split
  all_goals simp [Holds]

/-! ### Machine/Scanner.lean -/

@[simp] theorem updateChannel_keeps (sets : List SampleSet) (c : Channel) :
    (updateChannel sets c s).pending = s.pending ∧ (updateChannel sets c s).settings = s.settings ∧
    (updateChannel sets c s).zones = s.zones ∧ (updateChannel sets c s).arb = s.arb ∧
    (updateChannel sets c s).air = s.air ∧ (updateChannel sets c s).comp = s.comp ∧
    (updateChannel sets c s).defr = s.defr ∧ (updateChannel sets c s).doors = s.doors ∧
    (updateChannel sets c s).bank = s.bank ∧ (updateChannel sets c s).link = s.link ∧
    (updateChannel sets c s).own = s.own := by
  refine holds_elim (fun t =>
      t.pending = s.pending ∧ t.settings = s.settings ∧ t.zones = s.zones ∧ t.arb = s.arb ∧ t.air = s.air ∧
      t.comp = s.comp ∧ t.defr = s.defr ∧ t.doors = s.doors ∧ t.bank = s.bank ∧ t.link = s.link ∧ t.own = s.own) ?_
  simp [Holds, updateChannel]

@[simp] theorem updateChannels_keeps (sets : List SampleSet) :
    (updateChannels sets s).pending = s.pending ∧ (updateChannels sets s).settings = s.settings ∧
    (updateChannels sets s).zones = s.zones ∧ (updateChannels sets s).arb = s.arb ∧
    (updateChannels sets s).air = s.air ∧ (updateChannels sets s).comp = s.comp ∧
    (updateChannels sets s).defr = s.defr ∧ (updateChannels sets s).doors = s.doors ∧
    (updateChannels sets s).bank = s.bank ∧ (updateChannels sets s).link = s.link ∧
    (updateChannels sets s).own = s.own := by
  refine holds_elim (fun t =>
      t.pending = s.pending ∧ t.settings = s.settings ∧ t.zones = s.zones ∧ t.arb = s.arb ∧ t.air = s.air ∧
      t.comp = s.comp ∧ t.defr = s.defr ∧ t.doors = s.doors ∧ t.bank = s.bank ∧ t.link = s.link ∧ t.own = s.own) ?_
  simp [Holds, updateChannels]

@[simp] theorem onAmbientSample_keeps :
    (onAmbientSample s).pending = s.pending ∧ (onAmbientSample s).settings = s.settings ∧
    (onAmbientSample s).zones = s.zones ∧ (onAmbientSample s).scanner = s.scanner ∧
    (onAmbientSample s).arb = s.arb ∧ (onAmbientSample s).air = s.air ∧ (onAmbientSample s).doors = s.doors ∧
    (onAmbientSample s).bank = s.bank ∧ (onAmbientSample s).cond = s.cond ∧ (onAmbientSample s).link = s.link ∧
    (onAmbientSample s).own = s.own := by
  refine holds_elim (fun t =>
      t.pending = s.pending ∧ t.settings = s.settings ∧ t.zones = s.zones ∧ t.scanner = s.scanner ∧ t.arb = s.arb ∧
      t.air = s.air ∧ t.doors = s.doors ∧ t.bank = s.bank ∧ t.cond = s.cond ∧ t.link = s.link ∧ t.own = s.own) ?_
  simp [Holds, onAmbientSample]

@[simp] theorem coilSample_keeps :
    (coilSample s).pending = s.pending ∧ (coilSample s).scanner = s.scanner ∧ (coilSample s).link = s.link := by
  refine holds_elim (fun t =>
      t.pending = s.pending ∧ t.scanner = s.scanner ∧ t.link = s.link) ?_
  simp [Holds, coilSample]

@[simp] theorem onRound_keeps (sets : List SampleSet) :
    (onRound sets s).pending = s.pending ∧ (onRound sets s).link = s.link := by
  refine holds_elim (fun t => t.pending = s.pending ∧ t.link = s.link) ?_
  simp [Holds, onRound]

@[simp] theorem commitCurve_keeps :
    (commitCurve s).pending = s.pending ∧ (commitCurve s).settings = s.settings ∧ (commitCurve s).zones = s.zones ∧
    (commitCurve s).arb = s.arb ∧ (commitCurve s).air = s.air ∧ (commitCurve s).comp = s.comp ∧
    (commitCurve s).defr = s.defr ∧ (commitCurve s).doors = s.doors ∧ (commitCurve s).bank = s.bank ∧
    (commitCurve s).cond = s.cond ∧ (commitCurve s).link = s.link ∧ (commitCurve s).own = s.own := by
  refine holds_elim (fun t =>
      t.pending = s.pending ∧ t.settings = s.settings ∧ t.zones = s.zones ∧ t.arb = s.arb ∧ t.air = s.air ∧
      t.comp = s.comp ∧ t.defr = s.defr ∧ t.doors = s.doors ∧ t.bank = s.bank ∧ t.cond = s.cond ∧ t.link = s.link ∧
      t.own = s.own) ?_
  simp [Holds, commitCurve]

/-! ### Machine/Doors.lean -/

@[simp] theorem claimPause_keeps :
    (claimPause s).pending = s.pending ∧ (claimPause s).settings = s.settings ∧ (claimPause s).zones = s.zones ∧
    (claimPause s).scanner = s.scanner ∧ (claimPause s).link = s.link := by
  refine holds_elim (fun t =>
      t.pending = s.pending ∧ t.settings = s.settings ∧ t.zones = s.zones ∧ t.scanner = s.scanner ∧ t.link = s.link) ?_
  unfold claimPause
  split <;> simp [Holds]

@[simp] theorem onOpening_keeps (d : Door) :
    (onOpening d s).pending = s.pending ∧ (onOpening d s).settings = s.settings ∧ (onOpening d s).zones = s.zones ∧
    (onOpening d s).scanner = s.scanner ∧ (onOpening d s).link = s.link := by
  refine holds_elim (fun t =>
      t.pending = s.pending ∧ t.settings = s.settings ∧ t.zones = s.zones ∧ t.scanner = s.scanner ∧ t.link = s.link) ?_
  unfold onOpening
  dsimp only
  repeat' split
  all_goals simp [Holds]

@[simp] theorem setAjar_keeps (d : Door) (b : Bool) :
    (setAjar d b s).pending = s.pending ∧ (setAjar d b s).settings = s.settings ∧ (setAjar d b s).zones = s.zones ∧
    (setAjar d b s).scanner = s.scanner ∧ (setAjar d b s).arb = s.arb ∧ (setAjar d b s).air = s.air ∧
    (setAjar d b s).comp = s.comp ∧ (setAjar d b s).defr = s.defr ∧ (setAjar d b s).bank = s.bank ∧
    (setAjar d b s).link = s.link ∧ (setAjar d b s).own = s.own := by
  refine holds_elim (fun t =>
      t.pending = s.pending ∧ t.settings = s.settings ∧ t.zones = s.zones ∧ t.scanner = s.scanner ∧ t.arb = s.arb ∧
      t.air = s.air ∧ t.comp = s.comp ∧ t.defr = s.defr ∧ t.bank = s.bank ∧ t.link = s.link ∧ t.own = s.own) ?_
  simp [Holds, setAjar]

@[simp] theorem pauseAtLastClose_keeps :
    (pauseAtLastClose s).pending = s.pending ∧ (pauseAtLastClose s).settings = s.settings ∧
    (pauseAtLastClose s).zones = s.zones ∧ (pauseAtLastClose s).scanner = s.scanner ∧
    (pauseAtLastClose s).arb = s.arb ∧ (pauseAtLastClose s).air = s.air ∧ (pauseAtLastClose s).comp = s.comp ∧
    (pauseAtLastClose s).defr = s.defr ∧ (pauseAtLastClose s).cond = s.cond ∧ (pauseAtLastClose s).link = s.link := by
  refine holds_elim (fun t =>
      t.pending = s.pending ∧ t.settings = s.settings ∧ t.zones = s.zones ∧ t.scanner = s.scanner ∧ t.arb = s.arb ∧
      t.air = s.air ∧ t.comp = s.comp ∧ t.defr = s.defr ∧ t.cond = s.cond ∧ t.link = s.link) ?_
  unfold pauseAtLastClose
  split <;> simp [Holds]

@[simp] theorem onClose_keeps (d : Door) :
    (onClose d s).pending = s.pending ∧ (onClose d s).settings = s.settings ∧ (onClose d s).scanner = s.scanner ∧
    (onClose d s).link = s.link := by
  refine holds_elim (fun t =>
      t.pending = s.pending ∧ t.settings = s.settings ∧ t.scanner = s.scanner ∧ t.link = s.link) ?_
  unfold onClose
  dsimp only
  split <;> simp [Holds]

@[simp] theorem checkAjar_keeps (d : Door) :
    (checkAjar d s).pending = s.pending ∧ (checkAjar d s).settings = s.settings ∧ (checkAjar d s).zones = s.zones ∧
    (checkAjar d s).scanner = s.scanner ∧ (checkAjar d s).arb = s.arb ∧ (checkAjar d s).air = s.air ∧
    (checkAjar d s).comp = s.comp ∧ (checkAjar d s).defr = s.defr ∧ (checkAjar d s).bank = s.bank ∧
    (checkAjar d s).link = s.link ∧ (checkAjar d s).own = s.own := by
  refine holds_elim (fun t =>
      t.pending = s.pending ∧ t.settings = s.settings ∧ t.zones = s.zones ∧ t.scanner = s.scanner ∧ t.arb = s.arb ∧
      t.air = s.air ∧ t.comp = s.comp ∧ t.defr = s.defr ∧ t.bank = s.bank ∧ t.link = s.link ∧ t.own = s.own) ?_
  unfold checkAjar
  split <;> simp [Holds]

@[simp] theorem onAjarTimeChange_keeps :
    (onAjarTimeChange s).pending = s.pending ∧ (onAjarTimeChange s).settings = s.settings ∧
    (onAjarTimeChange s).zones = s.zones ∧ (onAjarTimeChange s).scanner = s.scanner ∧
    (onAjarTimeChange s).arb = s.arb ∧ (onAjarTimeChange s).air = s.air ∧ (onAjarTimeChange s).comp = s.comp ∧
    (onAjarTimeChange s).defr = s.defr ∧ (onAjarTimeChange s).bank = s.bank ∧ (onAjarTimeChange s).link = s.link ∧
    (onAjarTimeChange s).own = s.own := by
  refine holds_elim (fun t =>
      t.pending = s.pending ∧ t.settings = s.settings ∧ t.zones = s.zones ∧ t.scanner = s.scanner ∧ t.arb = s.arb ∧
      t.air = s.air ∧ t.comp = s.comp ∧ t.defr = s.defr ∧ t.bank = s.bank ∧ t.link = s.link ∧ t.own = s.own) ?_
  simp [Holds, onAjarTimeChange]

@[simp] theorem endPause_keeps :
    (endPause s).pending = s.pending ∧ (endPause s).settings = s.settings ∧ (endPause s).scanner = s.scanner ∧
    (endPause s).link = s.link := by
  refine holds_elim (fun t =>
      t.pending = s.pending ∧ t.settings = s.settings ∧ t.scanner = s.scanner ∧ t.link = s.link) ?_
  unfold endPause
  repeat' split
  all_goals simp [Holds]

@[simp] theorem onSettleExpiry_keeps :
    (onSettleExpiry s).pending = s.pending ∧ (onSettleExpiry s).settings = s.settings ∧
    (onSettleExpiry s).scanner = s.scanner ∧ (onSettleExpiry s).link = s.link := by
  refine holds_elim (fun t =>
      t.pending = s.pending ∧ t.settings = s.settings ∧ t.scanner = s.scanner ∧ t.link = s.link) ?_
  simp [Holds, onSettleExpiry]

@[simp] theorem onPauseExpiry_keeps :
    (onPauseExpiry s).pending = s.pending ∧ (onPauseExpiry s).settings = s.settings ∧
    (onPauseExpiry s).scanner = s.scanner ∧ (onPauseExpiry s).link = s.link := by
  refine holds_elim (fun t =>
      t.pending = s.pending ∧ t.settings = s.settings ∧ t.scanner = s.scanner ∧ t.link = s.link) ?_
  simp [Holds, onPauseExpiry]

end Sys2Proof.Machine
end

