-- ==== Sys2Proof/Laws/FramesLink.lean ====
section
/-! SUPPORT. One lemma per operation that says what it leaves alone: the operations of the Settings Store, the expiries and the link. -/

namespace Sys2Proof.Machine

variable (s : State)

/-! ### Machine/SettingsStore.lean -/

@[simp] theorem governed_keeps (i : Item) :
    (governed i s).pending = s.pending ∧ (governed i s).settings = s.settings ∧ (governed i s).zones = s.zones ∧
    (governed i s).scanner = s.scanner ∧ (governed i s).arb = s.arb ∧ (governed i s).air = s.air ∧
    (governed i s).comp = s.comp ∧ (governed i s).defr = s.defr ∧ (governed i s).doors = s.doors ∧
    (governed i s).cond = s.cond ∧ (governed i s).link = s.link ∧ (governed i s).own = s.own := by
  refine holds_elim (fun t =>
      t.pending = s.pending ∧ t.settings = s.settings ∧ t.zones = s.zones ∧ t.scanner = s.scanner ∧ t.arb = s.arb ∧
      t.air = s.air ∧ t.comp = s.comp ∧ t.defr = s.defr ∧ t.doors = s.doors ∧ t.cond = s.cond ∧ t.link = s.link ∧
      t.own = s.own) ?_
  unfold governed
  repeat' split
  all_goals simp [Holds]

@[simp] theorem onAmbRefChange_keeps :
    (onAmbRefChange s).pending = s.pending ∧ (onAmbRefChange s).settings = s.settings ∧
    (onAmbRefChange s).zones = s.zones ∧ (onAmbRefChange s).scanner = s.scanner ∧ (onAmbRefChange s).arb = s.arb ∧
    (onAmbRefChange s).air = s.air ∧ (onAmbRefChange s).doors = s.doors ∧ (onAmbRefChange s).bank = s.bank ∧
    (onAmbRefChange s).cond = s.cond ∧ (onAmbRefChange s).link = s.link ∧ (onAmbRefChange s).own = s.own := by
  refine holds_elim (fun t =>
      t.pending = s.pending ∧ t.settings = s.settings ∧ t.zones = s.zones ∧ t.scanner = s.scanner ∧ t.arb = s.arb ∧
      t.air = s.air ∧ t.doors = s.doors ∧ t.bank = s.bank ∧ t.cond = s.cond ∧ t.link = s.link ∧ t.own = s.own) ?_
  unfold onAmbRefChange
  dsimp only
  split <;> simp [Holds]

@[simp] theorem handChange_keeps (i : Item) (old : Int) :
    (handChange i old s).pending = s.pending ∧ (handChange i old s).settings = s.settings ∧
    (handChange i old s).scanner = s.scanner ∧ (handChange i old s).link = s.link := by
  refine holds_elim (fun t =>
      t.pending = s.pending ∧ t.settings = s.settings ∧ t.scanner = s.scanner ∧ t.link = s.link) ?_
  unfold handChange
  split <;> simp [Holds]

@[simp] theorem storeItem_keeps (i : Item) (v : Option Int) :
    (storeItem i v s).pending = s.pending ∧ (storeItem i v s).scanner = s.scanner ∧ (storeItem i v s).link = s.link := by
  refine holds_elim (fun t =>
      t.pending = s.pending ∧ t.scanner = s.scanner ∧ t.link = s.link) ?_
  unfold storeItem
  dsimp only
  split <;> simp [Holds]

@[simp] theorem repeatBoost_keeps (i : Item) (v : Int) :
    (repeatBoost i v s).pending = s.pending ∧ (repeatBoost i v s).settings = s.settings ∧
    (repeatBoost i v s).zones = s.zones ∧ (repeatBoost i v s).scanner = s.scanner ∧
    (repeatBoost i v s).arb = s.arb ∧ (repeatBoost i v s).air = s.air ∧ (repeatBoost i v s).comp = s.comp ∧
    (repeatBoost i v s).defr = s.defr ∧ (repeatBoost i v s).doors = s.doors ∧ (repeatBoost i v s).cond = s.cond ∧
    (repeatBoost i v s).link = s.link := by
  refine holds_elim (fun t =>
      t.pending = s.pending ∧ t.settings = s.settings ∧ t.zones = s.zones ∧ t.scanner = s.scanner ∧ t.arb = s.arb ∧
      t.air = s.air ∧ t.comp = s.comp ∧ t.defr = s.defr ∧ t.doors = s.doors ∧ t.cond = s.cond ∧ t.link = s.link) ?_
  unfold repeatBoost
  repeat' split
  all_goals simp [Holds]

/-! ### Machine/Expiry.lean -/

@[simp] theorem onSvcExpiry_keeps :
    (onSvcExpiry s).pending = s.pending ∧ (onSvcExpiry s).settings = s.settings ∧
    (onSvcExpiry s).scanner = s.scanner ∧ (onSvcExpiry s).link = s.link := by
  refine holds_elim (fun t =>
      t.pending = s.pending ∧ t.settings = s.settings ∧ t.scanner = s.scanner ∧ t.link = s.link) ?_
  unfold onSvcExpiry
  split <;> simp [Holds]

@[simp] theorem onExpiry_keeps (i : CounterId) :
    (onExpiry i s).pending = s.pending ∧ (onExpiry i s).scanner = s.scanner ∧ (onExpiry i s).link = s.link := by
  refine holds_elim (fun t =>
      t.pending = s.pending ∧ t.scanner = s.scanner ∧ t.link = s.link) ?_
  unfold onExpiry
  split <;> simp [Holds]

/-! ### Machine/Link.lean -/

@[simp] theorem offerFrame_keeps (f : Frame) :
    (offerFrame f s).pending = s.pending ∧ (offerFrame f s).settings = s.settings ∧
    (offerFrame f s).zones = s.zones ∧ (offerFrame f s).scanner = s.scanner ∧ (offerFrame f s).arb = s.arb ∧
    (offerFrame f s).air = s.air ∧ (offerFrame f s).comp = s.comp ∧ (offerFrame f s).defr = s.defr ∧
    (offerFrame f s).doors = s.doors ∧ (offerFrame f s).bank = s.bank ∧ (offerFrame f s).own = s.own := by
  refine holds_elim (fun t =>
      t.pending = s.pending ∧ t.settings = s.settings ∧ t.zones = s.zones ∧ t.scanner = s.scanner ∧ t.arb = s.arb ∧
      t.air = s.air ∧ t.comp = s.comp ∧ t.defr = s.defr ∧ t.doors = s.doors ∧ t.bank = s.bank ∧ t.own = s.own) ?_
  unfold offerFrame
  split <;> simp [Holds]

@[simp] theorem receiveByte_keeps (b : Byte) :
    (receiveByte b s).pending = s.pending ∧ (receiveByte b s).settings = s.settings ∧
    (receiveByte b s).zones = s.zones ∧ (receiveByte b s).scanner = s.scanner ∧ (receiveByte b s).arb = s.arb ∧
    (receiveByte b s).air = s.air ∧ (receiveByte b s).comp = s.comp ∧ (receiveByte b s).defr = s.defr ∧
    (receiveByte b s).doors = s.doors ∧ (receiveByte b s).bank = s.bank ∧ (receiveByte b s).own = s.own := by
  refine holds_elim (fun t =>
      t.pending = s.pending ∧ t.settings = s.settings ∧ t.zones = s.zones ∧ t.scanner = s.scanner ∧ t.arb = s.arb ∧
      t.air = s.air ∧ t.comp = s.comp ∧ t.defr = s.defr ∧ t.doors = s.doors ∧ t.bank = s.bank ∧ t.own = s.own) ?_
  unfold receiveByte
  dsimp only
  repeat' split
  all_goals simp [Holds]

@[simp] theorem onRxTimeout_keeps :
    (onRxTimeout s).pending = s.pending ∧ (onRxTimeout s).settings = s.settings ∧ (onRxTimeout s).zones = s.zones ∧
    (onRxTimeout s).scanner = s.scanner ∧ (onRxTimeout s).arb = s.arb ∧ (onRxTimeout s).air = s.air ∧
    (onRxTimeout s).comp = s.comp ∧ (onRxTimeout s).defr = s.defr ∧ (onRxTimeout s).doors = s.doors ∧
    (onRxTimeout s).bank = s.bank ∧ (onRxTimeout s).cond = s.cond ∧ (onRxTimeout s).own = s.own := by
  refine holds_elim (fun t =>
      t.pending = s.pending ∧ t.settings = s.settings ∧ t.zones = s.zones ∧ t.scanner = s.scanner ∧ t.arb = s.arb ∧
      t.air = s.air ∧ t.comp = s.comp ∧ t.defr = s.defr ∧ t.doors = s.doors ∧ t.bank = s.bank ∧ t.cond = s.cond ∧
      t.own = s.own) ?_
  unfold onRxTimeout
  split <;> simp [Holds]

@[simp] theorem send_keeps (f : Frame) :
    (send f s).pending = s.pending ∧ (send f s).settings = s.settings ∧ (send f s).zones = s.zones ∧
    (send f s).scanner = s.scanner ∧ (send f s).arb = s.arb ∧ (send f s).air = s.air ∧ (send f s).comp = s.comp ∧
    (send f s).defr = s.defr ∧ (send f s).doors = s.doors ∧ (send f s).bank = s.bank ∧ (send f s).cond = s.cond ∧
    (send f s).own = s.own := by
  refine holds_elim (fun t =>
      t.pending = s.pending ∧ t.settings = s.settings ∧ t.zones = s.zones ∧ t.scanner = s.scanner ∧ t.arb = s.arb ∧
      t.air = s.air ∧ t.comp = s.comp ∧ t.defr = s.defr ∧ t.doors = s.doors ∧ t.bank = s.bank ∧ t.cond = s.cond ∧
      t.own = s.own) ?_
  simp [Holds, send]

@[simp] theorem startReply_keeps :
    (startReply s).pending = s.pending ∧ (startReply s).settings = s.settings ∧ (startReply s).zones = s.zones ∧
    (startReply s).scanner = s.scanner ∧ (startReply s).arb = s.arb ∧ (startReply s).air = s.air ∧
    (startReply s).comp = s.comp ∧ (startReply s).defr = s.defr ∧ (startReply s).doors = s.doors ∧
    (startReply s).bank = s.bank ∧ (startReply s).cond = s.cond ∧ (startReply s).own = s.own := by
  refine holds_elim (fun t =>
      t.pending = s.pending ∧ t.settings = s.settings ∧ t.zones = s.zones ∧ t.scanner = s.scanner ∧ t.arb = s.arb ∧
      t.air = s.air ∧ t.comp = s.comp ∧ t.defr = s.defr ∧ t.doors = s.doors ∧ t.bank = s.bank ∧ t.cond = s.cond ∧
      t.own = s.own) ?_
  unfold startReply
  split <;> simp [Holds]

@[simp] theorem startNote_keeps :
    (startNote s).pending = s.pending ∧ (startNote s).settings = s.settings ∧ (startNote s).zones = s.zones ∧
    (startNote s).scanner = s.scanner ∧ (startNote s).arb = s.arb ∧ (startNote s).air = s.air ∧
    (startNote s).comp = s.comp ∧ (startNote s).defr = s.defr ∧ (startNote s).doors = s.doors ∧
    (startNote s).bank = s.bank ∧ (startNote s).own = s.own := by
  refine holds_elim (fun t =>
      t.pending = s.pending ∧ t.settings = s.settings ∧ t.zones = s.zones ∧ t.scanner = s.scanner ∧ t.arb = s.arb ∧
      t.air = s.air ∧ t.comp = s.comp ∧ t.defr = s.defr ∧ t.doors = s.doors ∧ t.bank = s.bank ∧ t.own = s.own) ?_
  unfold startNote
  repeat' split
  all_goals simp [Holds]

@[simp] theorem queueReply_keeps (f : Frame) :
    (queueReply f s).pending = s.pending ∧ (queueReply f s).settings = s.settings ∧
    (queueReply f s).zones = s.zones ∧ (queueReply f s).scanner = s.scanner ∧ (queueReply f s).arb = s.arb ∧
    (queueReply f s).air = s.air ∧ (queueReply f s).comp = s.comp ∧ (queueReply f s).defr = s.defr ∧
    (queueReply f s).doors = s.doors ∧ (queueReply f s).bank = s.bank ∧ (queueReply f s).cond = s.cond ∧
    (queueReply f s).own = s.own := by
  refine holds_elim (fun t =>
      t.pending = s.pending ∧ t.settings = s.settings ∧ t.zones = s.zones ∧ t.scanner = s.scanner ∧ t.arb = s.arb ∧
      t.air = s.air ∧ t.comp = s.comp ∧ t.defr = s.defr ∧ t.doors = s.doors ∧ t.bank = s.bank ∧ t.cond = s.cond ∧
      t.own = s.own) ?_
  simp [Holds, queueReply]

/-! ### Operations over lists and with a fuel -/

theorem handChanges_keeps (old : Settings) (items : List Item) (s : State) :
    (handChanges old items s).pending = s.pending ∧ (handChanges old items s).settings = s.settings ∧
      (handChanges old items s).scanner = s.scanner ∧ (handChanges old items s).link = s.link := by
  induction items generalizing s with
  | nil => simp [handChanges]
  | cons i rest ih =>
    simp only [handChanges]
    split <;> simp [ih]

@[simp] theorem changeProfile_keeps (p : Nat) :
    (changeProfile p s).pending = s.pending ∧ (changeProfile p s).scanner = s.scanner ∧
      (changeProfile p s).link = s.link := by
  refine holds_elim (fun t => t.pending = s.pending ∧ t.scanner = s.scanner ∧ t.link = s.link) ?_
  unfold changeProfile
  split <;> simp [Holds, handChanges_keeps]

theorem drain_keeps (n : Nat) (s : State) :
    (drain n s).pending = s.pending ∧ (drain n s).scanner = s.scanner ∧ (drain n s).link = s.link := by
  induction n generalizing s with
  | zero => simp [drain]
  | succ n ih =>
    simp only [drain]
    split <;> simp [ih]

@[simp] theorem drainAll_keeps :
    (drainAll s).pending = s.pending ∧ (drainAll s).scanner = s.scanner ∧ (drainAll s).link = s.link :=
  drain_keeps 4 s

/-- With no expiry signalled there is nothing to take. -/
theorem drainAll_of_quiet (h : s.own.signalled = []) : drainAll s = s := by
  simp [drainAll, drain, h]

theorem receiveBytes_keeps (bytes : List Byte) (s : State) :
    (receiveBytes bytes s).pending = s.pending ∧ (receiveBytes bytes s).settings = s.settings ∧
      (receiveBytes bytes s).zones = s.zones ∧ (receiveBytes bytes s).scanner = s.scanner ∧
      (receiveBytes bytes s).arb = s.arb ∧ (receiveBytes bytes s).air = s.air ∧
      (receiveBytes bytes s).comp = s.comp ∧ (receiveBytes bytes s).defr = s.defr ∧
      (receiveBytes bytes s).doors = s.doors ∧ (receiveBytes bytes s).bank = s.bank ∧
      (receiveBytes bytes s).own = s.own := by
  induction bytes generalizing s with
  | nil => simp [receiveBytes]
  | cons b rest ih =>
    have h := ih (receiveByte b s)
    simpa [receiveBytes] using h


end Sys2Proof.Machine
end

