-- ==== Sys2Proof/Safety.lean ====
section
/-! DEFINITION. What holds in every state of the part: the laws of the device as the chapters state them, the ranges
of the settings, and the conditions under which a command finds the link free. Claims are stated in these terms. -/

namespace Sys2Proof.Machine

/-! ### Laws of the device -/

/-- R171: ATTN is asserted exactly when at least one delta whose notify bit is set is set. -/
def AttnLaw (s : State) : Prop :=
  s.cond.attn = true ↔ ∃ n : Nat, n ≤ 26 ∧ s.cond.deltas.getLsbD n = true ∧ s.cond.mask.getLsbD n = true

/-- R169: no level above condition 21 and no delta above condition 26 stands. -/
def ConditionBitsLaw (s : State) : Prop :=
  (∀ n : Nat, 22 ≤ n → s.cond.levels.getLsbD n = false) ∧ ∀ n : Nat, 27 ≤ n → s.cond.deltas.getLsbD n = false

/-- R132: whenever the heater is driven on, the compressor is in state OFF, FAULTED or LOCKOUT; with the sequencer's
comp_state being the compressor's state (R99, R118). -/
def HeaterLaw (s : State) : Prop :=
  s.defr.compState = s.comp.state ∧ (s.defr.heaterDrive = true → s.comp.state ≠ .running)

/-- R100: in every state but RUNNING the speed line is low. -/
def SpeedLineLaw (s : State) : Prop := s.comp.state ≠ .running → s.comp.command = 0 ∧ s.comp.target = 0

/-- R61: a speed floor is absent, or 900 to 5400 rpm in steps of 30. -/
def floorInLimits : Option Nat → Prop
  | none => True
  | some n => 900 ≤ n ∧ n ≤ 5400 ∧ n % 30 = 0

/-- R61: the limits of a zone entry. -/
def Route.zoneInLimits (r : Route) : Prop :=
  r.freshOpen ≤ 100 ∧ r.chillOpen ≤ 100 ∧ 25 ≤ r.fanDuty ∧ r.fanDuty ≤ 100 ∧ floorInLimits r.floor

/-- R61: the limits of the IDLE entry. -/
def Route.idleInLimits (r : Route) : Prop :=
  r.freshOpen ≤ 100 ∧ r.chillOpen ≤ 100 ∧ (r.fanDuty = 0 ∨ 25 ≤ r.fanDuty ∧ r.fanDuty ≤ 100) ∧ floorInLimits r.floor

def Plan.inLimits (p : Plan) : Prop :=
  p.fresh.zoneInLimits ∧ p.chill.zoneInLimits ∧ p.freeze.zoneInLimits ∧ p.idle.idleInLimits

/-- R61: every entry of the active and the staged plan lies within the route limits. -/
def PlanLaw (s : State) : Prop := s.arb.active.inLimits ∧ s.arb.staged.inLimits

/-- The stacks that R69 allows under each holder. -/
def stackAllowed (h : Holder) (stack : List SuspFrame) : Prop :=
  match h, stack with
  | _, [] => True
  | .door, [.slot _ _ _ _ _ _] => True
  | .defrost, [.slot _ _ _ _ _ _] => True
  | .service, [_] => True
  | .service, [.door _, .slot _ _ _ _ _ _] => True
  | .service, [.defrost _, .slot _ _ _ _ _ _] => True
  | _, _ => False

/-- R69: the suspension stack is one of those the claim rules allow. -/
def StackLaw (s : State) : Prop := stackAllowed s.arb.holder s.arb.stack

/-- R4, R13: every debt lies in 0..60000. -/
def DebtLaw (s : State) : Prop := ∀ z : Zone, (s.zone z).debt ≤ 60000

/-- R15: every urgency lies in 0..65535. -/
def UrgencyLaw (s : State) : Prop := ∀ z : Zone, (s.zone z).urgency ≤ 65535

/-- R9: a zone in mode OFF is not calling, holds D 0, and so U 0, and is not the zone of the running slot. -/
def OffLaw (s : State) : Prop :=
  ∀ z : Zone, s.mode z = .off →
    (s.zone z).calling = false ∧ (s.zone z).debt = 0 ∧ (s.zone z).urgency = 0 ∧ s.arb.holder.slotZone? ≠ some z

/-- The route a holder has in use, and the snapshot a frame holds, within the limits of a zone entry. -/
def Holder.routeInLimits : Holder → Prop
  | .slot r => r.route.zoneInLimits
  | .nobody => True
  | .door => True
  | .defrost => True
  | .service => True

@[inherit_doc Holder.routeInLimits]
def SuspFrame.routeInLimits : SuspFrame → Prop
  | .slot _ _ _ _ _ (some r) => r.zoneInLimits
  | .slot _ _ _ _ _ none => True
  | .door _ => True
  | .defrost _ => True

/-- R51, R61, R67: every route there is lies within the route limits, in the plans, in use and on the stack. -/
def RouteLaw (s : State) : Prop :=
  PlanLaw s ∧ s.arb.holder.routeInLimits ∧ ∀ f ∈ s.arb.stack, f.routeInLimits

/-- R80, R81: every damper's target lies in 0..480, and so does the position it has. -/
def DamperLaw (s : State) : Prop :=
  ∀ d : Damper, (s.damper d).target ≤ 480 ∧ ∀ p : Nat, (s.damper d).position = some p → p ≤ 480

/-- R61, R99: the speed a demand carries is a whole number of 30's. -/
def Demand.steps30 : Demand → Prop
  | .auto floor => floorInLimits floor
  | .fixed n => n % 30 = 0
  | .stop => True

/-- R100, R102: the command and the target of a RUNNING compressor are multiples of 30 within N_MIN..N_MAX as they
stand, and the demand it follows carries a multiple of 30. -/
def SpeedLaw (s : State) : Prop :=
  s.comp.demand.steps30 ∧
    (s.comp.state = .running →
      (s.nMin ≤ s.comp.command ∧ s.comp.command ≤ s.nMax ∧ s.comp.command % 30 = 0) ∧
        s.nMin ≤ s.comp.target ∧ s.comp.target ≤ s.nMax ∧ s.comp.target % 30 = 0)

/-- R118: F lies in 0..65535. -/
def FrostLaw (s : State) : Prop := s.defr.frost ≤ 65535

/-- R40: the active and the staged curve have 17 breakpoints each. -/
def CurveLaw (s : State) : Prop := s.scanner.active.length = 17 ∧ s.scanner.staged.length = 17

/-- R118, R136: resume_heat is yes only in the STOP_WAIT that leads back to an interrupted HEAT. -/
def ResumeLaw (s : State) : Prop := s.defr.resumeHeat = true → s.defr.phase = .stopWait

/-- R50, R122, R141 to R144, R147, R148: while the path has no holder or a slot, no door pause is DEFERRED and no
defrost PENDING; a pause is DEFERRED only with a door OPEN and pause_spent no; PAUSE runs only through a live pause. -/
def ClaimLaw (s : State) : Prop :=
  ((s.arb.holder = .nobody ∨ ∃ r, s.arb.holder = .slot r) → s.doors.pause ≠ .deferred ∧ s.defr.phase ≠ .pending) ∧
    (s.doors.pause = .deferred → (∃ d : Door, (s.door d).isOpen = true) ∧ s.doors.pauseSpent = false) ∧
    ((s.counter .pause).run = true → s.doors.pause = .held ∨ s.doors.pause = .suspended)

/-- R176: the request buffer holds at most 2 frames and the reply queue at most 4; and the link is never idle with
work it could do (R177, R178). -/
def LinkLaw (s : State) : Prop :=
  s.link.requests.length ≤ 2 ∧ s.link.replies.length ≤ 4 ∧
    (s.link.requests = [] ∨ s.executorFree = false) ∧ (s.link.tx = none → s.link.replies = [])

/-- R183, R186: every item's effective value lies in its range, and N_MIN and N_MAX are multiples of 30. -/
def SettingsLaw (s : State) : Prop :=
  (∀ i : Item, i.range.1 ≤ s.eff i ∧ s.eff i ≤ i.range.2) ∧ s.eff .nMin % 30 = 0 ∧ s.eff .nMax % 30 = 0

/-! ### How a command finds the link -/

/-- The link has nothing it could do but begin a pending NOTE, and no expiry waits to be taken. Every step leaves it
so, but for the two resets, whose NOTE the next step begins (log 4, log 28). -/
def Settled (s : State) : Prop :=
  s.own.signalled = [] ∧ (s.link.requests = [] ∨ s.executorFree = false) ∧ (s.link.tx = none → s.link.replies = [])

/-- A request that is received now is taken now (R177): its buffer is empty and the executor does not wait, so that the
command that receives it is also the step that takes it, which is the model's choice (log 3). -/
def Accepting (s : State) : Prop :=
  s.own.signalled = [] ∧ s.link.requests = [] ∧ s.executorFree = true ∧ (s.link.tx = none → s.link.replies = [])

/-- The state with the reply to `f` appended to the reply queue, sent at once by an idle transmitter, and the pending
NOTE begun if the transmitter is idle still (R177, R178). That this happens inside the step that takes the request, and
that the reply goes before the NOTE, is the model's choice (log 3, log 4). -/
def replied (f : Frame) (a : Answer) (s : State) : State := startNote (startReply (queueReply (replyTo f a) s))

/-- The request to an answer of OK with those contents. -/
def Answer.ok (contents : List Byte) : Answer := { status := .ok, contents := contents }

/-- A fresh timing of `n` periods: what a restart leaves (R153). -/
def Counter.timing (n : Nat) (c : Counter) : Counter := { c with run := true, count := n, reload := n, part := 0 }

/-- No claim waits for the holder's report: no door pause is DEFERRED and no defrost is PENDING (R122, R144). -/
def NoClaimWaits (s : State) : Prop := s.doors.pause ≠ .deferred ∧ s.defr.phase ≠ .pending

/-- The items whose owner reads them when it next uses them, and which time no counter (R182). -/
def Item.readAtUse : Item → Bool
  | .hOn _ => true
  | .hOff _ => true
  | .slotMax _ => true
  | .ageLimit => true
  | .lossHold => true
  | .lostPeriod => true
  | .saveMask _ => true
  | .uFull => true
  | .rampUp => true
  | .rampDn => true
  | .ambGain => true
  | .termTemp => true
  | .fanDelayTemp => true
  | .adapt => true
  | .recoveryGain => true
  | .recoveryMinOpen => true
  | .filterShift _ => true
  | .setpoint _ => false
  | .mode _ => false
  | .weight _ => false
  | .lossPolicy _ => false
  | .alarmHi _ => false
  | .alarmLo _ => false
  | .slotMin => false
  | .lostServe => false
  | .uLost => false
  | .svcMax => false
  | .nMin => false
  | .nMax => false
  | .minOn => false
  | .minOff => false
  | .ambRef => false
  | .fDue => false
  | .minGap => false
  | .maxGap => false
  | .heatMax => false
  | .dripTime => false
  | .prechillTime => false
  | .doorPauseMax => false
  | .ajarTime => false
  | .boostLen => false
  | .alarmDelay => false

/-- The requests whose operands a frame can carry (R181). -/
def Request.wf : Request → Prop
  | .curveLoad _ values => 1 ≤ values.length ∧ values.length ≤ 17
  | _ => True

/-- The body lengths a kind accepts (R181). -/
def acceptedLength (kind n : Nat) : Prop :=
  match kind with
  | 0x01 => n = 0
  | 0x02 => n = 1
  | 0x03 => n = 3
  | 0x04 => n = 1
  | 0x05 => n = 1
  | 0x06 => n = 9
  | 0x07 => n = 1
  | 0x08 => 3 ≤ n ∧ n ≤ 35 ∧ n % 2 = 1
  | 0x09 => n = 0
  | 0x0A => n = 4
  | 0x0B => n = 4
  | 0x0C => n = 0
  | 0x0D => n = 10
  | 0x0E => n = 1
  | _ => False

/-! ### Items as the link carries them -/

/-- The code of a value: its place in the row that lists them. -/
def placeIn {α : Type} [BEq α] (row : List α) (x : α) : Int := row.idxOf x

/-- A flag as an item. -/
def flagItem (b : Bool) : Int := if b then 1 else 0

/-- R187: the read-only items by id, with the owner's value. -/
def readOnlyTable (s : State) : List (Nat × Int) :=
  List.flatten
    [allChannels.map fun c => (0x80 + channelCode c, (s.channel c).tf.getD (-32768)),
      allChannels.map fun c => (0x85 + channelCode c, placeIn [.valid, .suspect, .lost] (s.channel c).state),
      [(0x90, s.defr.frost), (0x91, (s.counter .gap).count),
        (0x92, placeIn [.idle, .pending, .preChill, .stopWait, .heat, .drip, .recover] s.defr.phase),
        (0x93, flagItem s.defr.suspended), (0x94, flagItem s.defr.resumeHeat), (0x95, s.defr.lastHeat),
        (0x98, placeIn [.off, .running, .faulted, .lockout] s.comp.state), (0x99, flagItem s.comp.stopHeld),
        (0x9A, s.comp.command), (0x9B, s.comp.target), (0x9C, s.comp.faultCount)],
      [(0xA0, s.damper .fresh), (0xA3, s.damper .chill)].flatMap fun p =>
        [(p.1, (p.2.position.map Int.ofNat).getD (-32768)),
          (p.1 + 1, placeIn [.unhomed, .homing, .ready, .moving] p.2.state), (p.1 + 2, p.2.target)],
      [(0xA6, s.air.fan.rpm), (0xA7, placeIn [.stopped, .kick, .run, .rest, .retryWait] s.air.fan.state),
        (0xA8, s.air.fan.stallCount), (0xA9, s.air.fan.drive), (0xB0, s.link.rxTimeout), (0xB1, s.link.rxLenErr),
        (0xB2, s.link.rxCrcErr), (0xB3, s.link.rxOverrun)],
      allDoors.flatMap fun d =>
        [(0xC0 + 5 * doorCode d, flagItem (s.door d).isOpen), (0xC1 + 5 * doorCode d, (s.door d).openCount),
          (0xC2 + 5 * doorCode d, (s.door d).lastWidth), (0xC3 + 5 * doorCode d, flagItem (s.door d).widthOverflow),
          (0xC4 + 5 * doorCode d, flagItem (s.door d).ajar)],
      [(0xD4, placeIn [.none, .deferred, .held, .suspended] s.doors.pause), (0xD5, flagItem s.doors.pauseSpent)],
      allDoors.map fun d => (0xE0 + doorCode d, flagItem (s.door d).isOpen),
      [(0xE4, flagItem (s.scanner.heaterSense.getD false)), (0xE5, flagItem (s.scanner.compFlt.getD false)),
        (0xE6, flagItem s.defr.heaterDrive), (0xE7, flagItem s.comp.condFan)]]

/-- R183: what an accepted SET of `v` makes of an item: following for −32768, and otherwise the value limited to the
range, N_MIN and N_MAX rounded down to a multiple of 30. -/
def Item.settled (i : Item) (v : Int) : Option Int :=
  if v = -32768 then none
  else if i = .nMin ∨ i = .nMax then some (max i.range.1 (min i.range.2 v) / 30 * 30)
  else some (max i.range.1 (min i.range.2 v))

/-- R183: the settings after an accepted SET, before any owner is told. -/
def State.stored (i : Item) (v : Int) (s : State) : State :=
  { s with settings := s.settings.write i (i.settled v) }

/-- R183: the answer to an accepted SET. -/
def setReply (i : Item) (v : Int) (s : State) : Answer :=
  { status := if v = -32768 ∨ i.settled v = some v then .ok else .clamped
    contents := byteOf i.id :: intBytes ((s.stored i v).eff i) ++
      [if (s.stored i v).settings.follows i then 0x01#8 else 0x00#8] }

/-- R161: a new length reaches only the reload value of a RUNNING counter. -/
def Counter.reloaded (n : Nat) (c : Counter) : Counter := if c.run then { c with reload := n } else c

/-- R183: a SET of the item is accepted, answered and leaves `t` before its reply. -/
def SetLeaves (tag : Byte) (i : Item) (value : Half) (s t : State) : Prop :=
  exec (.set tag (byteOf i.id) value) s =
    .next (replied ⟨0x03#8, tag, byteOf i.id :: halfBytes value⟩ (setReply i value.toInt s) t)

/-! ### What the outputs make of a demand, a duty and a target -/

/-- R101: the demand resolves to run at `n`. FIXED runs at its speed limited to N_MIN..N_MAX, AUTO at the AUTO target
while at least one zone is calling. -/
def Demand.RunsAt (d : Demand) (n : Nat) (s : State) : Prop :=
  match d with
  | .stop => False
  | .fixed m => n = max (s.effN .nMin) (min (s.effN .nMax) m)
  | .auto floor => (∃ z : Zone, (s.zone z).calling = true) ∧ n = s.autoTarget floor

/-- R101: the demand resolves to stop. -/
def Demand.Stops (d : Demand) (s : State) : Prop :=
  match d with
  | .stop => True
  | .fixed _ => False
  | .auto _ => ∀ z : Zone, (s.zone z).calling = false

/-- R103, R111: a start with the demand `d` toward `n`, from `s` to `t`. -/
def CompStarts (d : Demand) (n : Nat) (s t : State) : Prop :=
  t.comp =
      { s.comp with
        demand := d, state := .running, command := s.effN .nMin, target := n, guard := .minOn, stopHeld := false
        condFan := true } ∧
    t.counter .guard = (s.counter .guard).timing (s.effN .minOn) ∧
    t.counter .ramp = (s.counter .ramp).timing 1000 ∧ t.counter .condrun = (s.counter .condrun).stop ∧
    t.defr.compState = .running

/-- R105, R111: a stop with the demand `d`, from `s` to `t`. RAMP runs on in every state (R101). -/
def CompStops (d : Demand) (s t : State) : Prop :=
  t.comp =
      { s.comp with demand := d, state := .off, command := 0, target := 0, guard := .minOff, stopHeld := false } ∧
    t.counter .guard = (s.counter .guard).timing (s.effN .minOff) ∧
    t.counter .condrun = (s.counter .condrun).timing 60 ∧ t.defr.compState = .off

/-- The record is `c` and no counter of the compressor has changed. -/
def CompKeepsTime (c : Compressor) (s t : State) : Prop :=
  t.comp = c ∧ t.counter .guard = s.counter .guard ∧ t.counter .ramp = s.counter .ramp ∧
    t.counter .condrun = s.counter .condrun

/-- R101, R103, R105: what a new demand does at its arrival, by the state of the compressor. -/
def DemandTaken (d : Demand) (s t : State) : Prop :=
  (s.comp.state = .faulted ∨ s.comp.state = .lockout → CompKeepsTime { s.comp with demand := d } s t) ∧
    (s.comp.state = .off → d.Stops s ∨ (s.counter .guard).run = true → CompKeepsTime { s.comp with demand := d } s t) ∧
    (∀ n : Nat, s.comp.state = .off → d.RunsAt n s → (s.counter .guard).run = false → CompStarts d n s t) ∧
    (∀ n : Nat, s.comp.state = .running → d.RunsAt n s →
      CompKeepsTime { s.comp with demand := d, stopHeld := false } s t) ∧
    (s.comp.state = .running → d.Stops s → s.comp.guard = .minOn →
      CompKeepsTime { s.comp with demand := d, stopHeld := true, target := s.effN .nMin } s t) ∧
    (s.comp.state = .running → d.Stops s → s.comp.guard ≠ .minOn → CompStops d s t)

/-- R88, R89, R93: what a requested duty makes of the fan record, by its state. -/
def Fan.asked (duty : Nat) (f : Fan) : Fan :=
  match f.state with
  | .stopped =>
    if duty = 0 then { f with requested := 0 }
    else { f with requested := duty, state := .kick, drive := 255, overflowRun := 0, proven := false }
  | .kick =>
    if duty = 0 then
      { f with requested := 0, state := .stopped, drive := 0, rpm := 0, overflowRun := 0, proven := false }
    else { f with requested := duty }
  | .run =>
    if duty = 0 then
      { f with requested := 0, state := .stopped, drive := 0, rpm := 0, overflowRun := 0, proven := false }
    else { f with requested := duty, drive := (duty * 255 + 50) / 100 }
  | .rest => { f with requested := duty }
  | .retryWait => { f with requested := duty }

/-- R89, R93: what a requested duty does to the fan and to its two counters: a stop of KICK or RUN stops both, a kick
of a STOPPED fan restarts FANTIME with 2 and starts TACH from a count of 0, and nothing else touches them. -/
def FanAsked (duty : Nat) (s t : State) : Prop :=
  t.air.fan = s.air.fan.asked duty ∧
    ((s.air.fan.state = .kick ∨ s.air.fan.state = .run) → duty = 0 →
      t.counter .tach = (s.counter .tach).stop ∧ t.counter .fantime = (s.counter .fantime).stop) ∧
    (s.air.fan.state = .stopped → duty ≠ 0 →
      t.counter .fantime = (s.counter .fantime).timing 2 ∧ (t.counter .tach).run = true ∧
        ((s.counter .tach).run = false → (t.counter .tach).count = 0 ∧ (t.counter .tach).firstEdge = true)) ∧
    (¬ ((s.air.fan.state = .kick ∨ s.air.fan.state = .run) ∧ duty = 0) → ¬ (s.air.fan.state = .stopped ∧ duty ≠ 0) →
      t.counter .tach = s.counter .tach ∧ t.counter .fantime = s.counter .fantime)

/-- R84: a damper has begun a homing toward that target: HOMING with 520 steps to drive, its position absent and no
periodic homing due. -/
def DamperRec.BeganHoming (target : Nat) (r t : DamperRec) : Prop :=
  t.state = .homing ∧ t.homingSteps = 520 ∧ t.position = none ∧ t.homeDue = false ∧ t.target = target ∧
    t.moveCount = r.moveCount

/-- R81, R82, R83, R85: what a target does to a damper record. One it has already changes nothing; one given in
UNHOMED or HOMING is stored; a READY damper stands there already, or moves, or takes the periodic homing first; a
MOVING one is retargeted, and its move ends if it stands there. -/
def DamperRec.Takes (v : Nat) (r t : DamperRec) : Prop :=
  (v = r.target → t = r) ∧
    (v ≠ r.target →
      ((r.state = .unhomed ∨ r.state = .homing) → t = { r with target := v }) ∧
      (r.state = .ready → r.position = some v → t = { r with target := v }) ∧
      (r.state = .ready → r.position ≠ some v → r.homeDue = true → DamperRec.BeganHoming v r t) ∧
      (r.state = .ready → r.position ≠ some v → r.homeDue = false →
        t.state = .moving ∧ t.target = v ∧ t.position = r.position ∧ t.moveCount = r.moveCount ∧ t.homeDue = false) ∧
      (r.state = .moving → r.position ≠ some v → t = { r with target := v }) ∧
      (r.state = .moving → r.position = some v →
        t.state = .ready ∧ t.target = v ∧ t.position = some v ∧ t.moveCount = r.moveCount + 1 ∧
          t.homeDue = (r.homeDue || decide (r.moveCount + 1 = 100))))

/-- R84, R95: what a homing request does to a damper record: a homing under way only gets the target 0. -/
def DamperRec.Homes (r t : DamperRec) : Prop :=
  (r.state = .homing → t = { r with target := 0 }) ∧ (r.state ≠ .homing → DamperRec.BeganHoming 0 r t)

/-- R81: the openings of a route or of a phase are given to both dampers. -/
def OpeningsTaken (fresh chill : Nat) (s t : State) : Prop :=
  DamperRec.Takes ((fresh * 480 + 50) / 100) (s.damper .fresh) (t.damper .fresh) ∧
    DamperRec.Takes ((chill * 480 + 50) / 100) (s.damper .chill) (t.damper .chill)

/-- R49, R60, R64: IDLE has been entered from `s`: a waiting commit applied, the IDLE entry given. -/
def IdleEntered (s t : State) : Prop :=
  ∀ plan : Plan, plan = (if s.arb.commitPending then s.arb.staged else s.arb.active) →
    (s.arb.commitPending = true → t.cond.deltas.getLsbD 24 = true) ∧
    t.arb = { s.arb with holder := .nobody, active := plan, commitPending := false, fullEnd := none } ∧
    OpeningsTaken plan.idle.freshOpen plan.idle.chillOpen s t ∧ FanAsked plan.idle.fanDuty s t ∧
    DemandTaken (.auto none) s t

/-- R49, R51, R52, R55, R57, R64: zone `z` has been granted a slot from `s`: a waiting commit is applied first, the
slot is MIN, fixed for a TIMED zone, on the plan's entry, WAIT stops with its count, SLOT is written with LOST_SERVE or
SLOT_MIN and runs once both dampers stand at the route. -/
def SlotGranted (z : Zone) (s t : State) : Prop :=
  ∀ (plan : Plan) (route : Route) (fixed serving : Bool),
    plan = (if s.arb.commitPending then s.arb.staged else s.arb.active) →
    route = (match z with
      | .fresh => plan.fresh
      | .chill => plan.chill
      | .freeze => plan.freeze) →
    fixed = decide ((s.zone z).subst = .timed) →
    serving =
      (decide ((t.damper .fresh).state = .ready ∧ (t.damper .fresh).position = some (t.damper .fresh).target) &&
        decide ((t.damper .chill).state = .ready ∧ (t.damper .chill).position = some (t.damper .chill).target)) →
    (s.arb.commitPending = true → t.cond.deltas.getLsbD 24 = true) ∧
    t.arb =
      { s.arb with
        holder := .slot { zone := z, phase := .min, fixed := fixed, route := route, source := .plan, serving := serving }
        lastServed := z, active := plan, commitPending := false, fullEnd := none } ∧
    t.counter (.wait z) = (s.counter (.wait z)).stop ∧ (t.counter .slot).run = serving ∧
    (t.counter .slot).count = s.effN (if fixed then .lostServe else .slotMin) ∧
    (t.counter .slot).reload = s.effN (if fixed then .lostServe else .slotMin) ∧
    OpeningsTaken route.freshOpen route.chillOpen s t ∧ FanAsked (if serving then route.fanDuty else 0) s t ∧
    DemandTaken (.auto route.floor) s t

/-- R58, R59: arbitration has run in `s`: it grants a slot to the zone chosen, or enters IDLE. -/
def Arbitrated (s t : State) : Prop := (s.choice = none → IdleEntered s t) ∧ ∀ z : Zone, s.choice = some z → SlotGranted z s t

/-- R21, R56: the state that arbitration reads after the end of a slot of `z`: no holder, SLOT stopped, WAIT running
from 0, and a TIMED zone no longer calling. -/
def State.slotGone (z : Zone) (fullEnd : Option Zone) (s : State) : State :=
  { s with
    arb := { s.arb with holder := .nobody, fullEnd := fullEnd }
    zones := if (s.zone z).subst = .timed then s.zones.set z { s.zone z with calling := false } else s.zones
    bank :=
      (s.bank.set .slot (s.counter .slot).stop).set (.wait z)
        { s.counter (.wait z) with run := true, count := 0, saturated := false, part := 0 } }

/-- R71: a SLOT frame popped in `s` has resumed, with its snapshot, or without one with the plan's entry after a waiting
commit. It is no grant: last_served and the WAIT counters stay. -/
def SlotResumed (z : Zone) (phase : SlotPhase) (fixed : Bool) (remaining : Nat) (snapshot : Option Route)
    (rest : List SuspFrame) (s t : State) : Prop :=
  ∀ (plan : Plan) (route : Route) (serving : Bool),
    plan = (if s.arb.commitPending = true ∧ snapshot = none then s.arb.staged else s.arb.active) →
    route =
      (match snapshot, z with
        | some r, _ => r
        | none, .fresh => plan.fresh
        | none, .chill => plan.chill
        | none, .freeze => plan.freeze) →
    serving =
      (decide ((t.damper .fresh).state = .ready ∧ (t.damper .fresh).position = some (t.damper .fresh).target) &&
        decide ((t.damper .chill).state = .ready ∧ (t.damper .chill).position = some (t.damper .chill).target)) →
    (s.arb.commitPending = true → snapshot = none → t.cond.deltas.getLsbD 24 = true) ∧
    t.arb =
      { s.arb with
        holder :=
          .slot
            { zone := z, phase := phase, fixed := fixed, route := route
              source := if snapshot = none then .plan else .snapshot, serving := serving }
        stack := rest, active := plan, commitPending := s.arb.commitPending && decide (snapshot ≠ none) } ∧
    (∀ y : Zone, t.counter (.wait y) = s.counter (.wait y)) ∧ (t.counter .slot).run = serving ∧
    (t.counter .slot).count = remaining ∧ (t.counter .slot).reload = remaining ∧
    OpeningsTaken route.freshOpen route.chillOpen s t ∧ FanAsked (if serving then route.fanDuty else 0) s t ∧
    DemandTaken (.auto route.floor) s t

/-- R126: HEAT has been entered from `s`, its budget HEAT_MAX, and at most 1500 s where the last COIL sample event
reported LOST. -/
def HeatEntered (s t : State) : Prop :=
  ∀ budget : Nat,
    budget = (if s.defr.coilLost then min 1500 (s.effN .heatMax * 60) else s.effN .heatMax * 60) →
    t.defr.heatBudget = budget ∧ t.defr.coilTimed = s.defr.coilLost ∧ t.defr.termCount = 0 ∧
    t.counter .phase = (s.counter .phase).timing budget

/-- R66, R67, R143: the claim of a door pause is taken from `s`: DOOR holds, a slot lies on the stack as a frame with
SAVE_MASK_DOOR, the pause is HELD with PAUSE at DOOR_PAUSE_MAX, the fan is asked for 0 and AUTO demanded. -/
def DoorClaimed (s t : State) : Prop :=
  t.arb =
      { s.arb with
        holder := .door
        stack :=
          (match s.arb.holder with
            | .slot r =>
              [.slot (s.effN (.saveMask .door)) r.zone r.phase r.fixed (s.counter .slot).count
                (if s.effN (.saveMask .door) % 2 = 1 then some r.route else none)]
            | _ => []) ++ s.arb.stack } ∧
    t.doors = { s.doors with pause := .held } ∧
    t.counter .pause = (s.counter .pause).timing (s.effN .doorPauseMax) ∧ (t.counter .settle).run = false ∧
    (s.arb.holder ≠ .nobody → (t.counter .slot).run = false ∧ (t.counter .slot).count = (s.counter .slot).count) ∧
    t.air.dampers = s.air.dampers ∧ FanAsked 0 s t ∧ DemandTaken (.auto none) s t ∧
    t.defr.phase = s.defr.phase ∧ t.defr.frost = s.defr.frost ∧
    t.settings = s.settings ∧ t.zones = s.zones ∧ t.scanner = s.scanner ∧ t.link = s.link

/-- R66, R67, R122, R123: the defrost's claim is taken from `s`: DEFROST holds, a slot lies on the stack as a frame with
SAVE_MASK_DEFROST, DEFROST_ACTIVE asserts, and PRE_CHILL runs, or STOP_WAIT and HEAT at once where PRECHILL_TIME is 0 or
the compressor is in LOCKOUT. -/
def DefrostClaimed (s t : State) : Prop :=
  t.arb =
      { s.arb with
        holder := .defrost
        stack :=
          (match s.arb.holder with
            | .slot r =>
              [.slot (s.effN (.saveMask .defrost)) r.zone r.phase r.fixed (s.counter .slot).count
                (if s.effN (.saveMask .defrost) % 2 = 1 then some r.route else none)]
            | _ => []) ++ s.arb.stack } ∧
    t.level .defrostActive = true ∧ t.defr.frost = s.defr.frost ∧
    (s.arb.holder ≠ .nobody → (t.counter .slot).run = false ∧ (t.counter .slot).count = (s.counter .slot).count) ∧
    t.counter .gap = s.counter .gap ∧ t.counter .runsec = s.counter .runsec ∧
    (s.effN .prechillTime ≠ 0 → s.defr.compState ≠ .lockout →
      t.defr.phase = .preChill ∧ t.defr.heaterDrive = false ∧
      t.counter .phase = (s.counter .phase).timing (s.effN .prechillTime) ∧
      OpeningsTaken s.arb.active.freeze.freshOpen s.arb.active.freeze.chillOpen s t ∧
      FanAsked s.arb.active.freeze.fanDuty s t ∧ DemandTaken (.fixed (s.effN .nMax)) s t) ∧
    ((s.effN .prechillTime = 0 ∨ s.defr.compState = .lockout) → s.defr.resumeHeat = false →
      (t.defr.phase = if t.comp.state = .running then .stopWait else .heat) ∧
      (t.defr.phase = .heat → HeatEntered s t) ∧ OpeningsTaken 0 0 s t ∧ FanAsked 0 s t ∧ DemandTaken .stop s t) ∧
    t.doors = s.doors ∧ t.settings = s.settings ∧ t.zones = s.zones ∧ t.scanner = s.scanner ∧ t.link = s.link

/-- R144: a DEFERRED door pause may claim again. -/
def DoorClaimWaits (s : State) : Prop :=
  s.doors.pause = .deferred ∧ (∃ d : Door, (s.door d).isOpen = true) ∧ s.doors.pauseSpent = false

/-- R50, R122, R144: the claims that a holder report of no holder or a slot leads to, from the state `s` that the event
itself has left. A waiting door pause and a PENDING defrost each claim; where both wait either may be first (log 8); and
without one nothing follows. -/
def ClaimsMade (s t : State) : Prop :=
  (DoorClaimWaits s → s.defr.phase ≠ .pending → DoorClaimed s t) ∧
    (s.defr.phase = .pending → ¬ DoorClaimWaits s → DefrostClaimed s t) ∧
    (s.defr.phase = .pending → DoorClaimWaits s → DoorClaimed s t ∨ DefrostClaimed s t) ∧
    (s.defr.phase ≠ .pending → ¬ DoorClaimWaits s → t = s)

/-- What an event that settles a slot or IDLE leaves alone. -/
def PathOnly (s t : State) : Prop :=
  t.settings = s.settings ∧ t.zones = s.zones ∧ t.scanner = s.scanner ∧ t.link = s.link ∧ t.doors = s.doors ∧
    t.defr.phase = s.defr.phase ∧ t.defr.frost = s.defr.frost ∧ t.defr.resumeHeat = s.defr.resumeHeat ∧
    t.counter .gap = s.counter .gap ∧ t.counter .runsec = s.counter .runsec ∧ t.counter .phase = s.counter .phase ∧
    t.counter .pause = s.counter .pause

/-- R123, R136: the outputs of a phase that stops the cold, with the phase that results: a STOP_WAIT that finds the
compressor not RUNNING goes on to HEAT at once (R125). -/
def StopWaitResumed (s t : State) : Prop :=
  (t.defr.phase = if t.comp.state = .running then .stopWait else .heat) ∧
    OpeningsTaken 0 0 s t ∧ FanAsked 0 s t ∧ DemandTaken .stop s t

/-- R72, R136: a DEFROST frame popped in `s` has resumed its phase. PHASE goes on from the count it was stopped with. -/
def DefrostResumed (rest : List SuspFrame) (s t : State) : Prop :=
  t.arb = { s.arb with holder := .defrost, stack := rest } ∧ t.defr.suspended = false ∧
    t.defr.frost = s.defr.frost ∧ t.counter .gap = s.counter .gap ∧ t.counter .runsec = s.counter .runsec ∧
    t.defr.heaterDrive =
      (decide (t.defr.phase = .heat) && !s.level .heaterStuck && decide (t.comp.state ≠ .running)) ∧
    (s.defr.phase = .preChill → s.defr.compState ≠ .lockout →
      t.defr.phase = .preChill ∧ t.counter .phase = { s.counter .phase with run := true, part := 0 } ∧
      OpeningsTaken s.arb.active.freeze.freshOpen s.arb.active.freeze.chillOpen s t ∧
      FanAsked s.arb.active.freeze.fanDuty s t ∧ DemandTaken (.fixed (s.effN .nMax)) s t) ∧
    (s.defr.phase = .preChill → s.defr.compState = .lockout → StopWaitResumed s t ∧ HeatEntered s t) ∧
    (s.defr.phase = .stopWait → StopWaitResumed s t ∧
      (t.defr.phase = .stopWait →
        t.defr.resumeHeat = s.defr.resumeHeat ∧ t.counter .phase = s.counter .phase) ∧
      (t.defr.phase = .heat →
        t.defr.resumeHeat = false ∧
        (s.defr.resumeHeat = false → HeatEntered s t) ∧
        (s.defr.resumeHeat = true →
          t.counter .phase = { s.counter .phase with run := true, part := 0 } ∧
          t.defr.heatBudget = s.defr.heatBudget))) ∧
    (s.defr.phase = .heat → StopWaitResumed s t ∧ t.defr.heatBudget = s.defr.heatBudget ∧
      (t.defr.phase = .stopWait → t.defr.resumeHeat = true ∧ t.counter .phase = s.counter .phase) ∧
      (t.defr.phase = .heat →
        t.defr.resumeHeat = false ∧ t.counter .phase = { s.counter .phase with run := true, part := 0 })) ∧
    (s.defr.phase = .drip →
      t.defr.phase = .drip ∧ t.counter .phase = { s.counter .phase with run := true, part := 0 } ∧
      OpeningsTaken 0 0 s t ∧ FanAsked 0 s t ∧ DemandTaken .stop s t) ∧
    (s.defr.phase = .recover →
      t.defr.phase = .recover ∧ t.counter .phase = { s.counter .phase with run := true, part := 0 } ∧
      OpeningsTaken 0 0 s t ∧ FanAsked 0 s t ∧ DemandTaken (.fixed (s.effN .nMax)) s t) ∧
    t.doors = s.doors ∧ t.settings = s.settings ∧ t.zones = s.zones ∧ t.scanner = s.scanner ∧ t.link = s.link

/-- R70, R71, R72: what a release of the path in `s` leaves, by the top of the stack, with the claims that the holder
report then leads to. A SLOT frame resumes with TIME in its mask and its zone calling, and is dropped otherwise. -/
def PathReleased (s t : State) : Prop :=
  (s.arb.stack = [] → ∃ u : State, Arbitrated s u ∧ PathOnly s u ∧ ClaimsMade u t) ∧
    (∀ mask z phase fixed remaining snapshot rest,
      s.arb.stack = .slot mask z phase fixed remaining snapshot :: rest →
      (mask / 2 % 2 = 1 → (s.zone z).calling = true → remaining ≠ 0 →
        ∃ u : State, SlotResumed z phase fixed remaining snapshot rest s u ∧ PathOnly s u ∧ ClaimsMade u t) ∧
      ((mask / 2 % 2 = 0 ∨ (s.zone z).calling = false) →
        ∀ w : State, w = State.slotGone z none { s with arb := { s.arb with stack := rest } } →
          ∃ u : State, Arbitrated w u ∧ PathOnly w u ∧ ClaimsMade u t)) ∧
    (∀ mask rest, s.arb.stack = .door mask :: rest →
      t.arb = { s.arb with holder := .door, stack := rest } ∧ t.air.dampers = s.air.dampers ∧ FanAsked 0 s t ∧
        DemandTaken (.auto none) s t ∧ t.counter .pause = s.counter .pause ∧
        t.doors = { s.doors with pause := if s.doors.pause = .suspended then .held else s.doors.pause }) ∧
    ∀ mask rest, s.arb.stack = .defrost mask :: rest → DefrostResumed rest s t

end Sys2Proof.Machine
end

