-- ==== Sys2Proof/Laws/Ops.lean ====
section
/-! SUPPORT. What the shared operations answer: one lemma for each counter operation, for the Condition Unit's two
reports, for the link's end of a step and for an accepted request, and the reading back of multi-byte fields. -/

namespace Sys2Proof.Machine

/-! ### Counters -/

@[simp] theorem State.counter_setCounter_self (s : State) (i : CounterId) (c : Counter) :
    (s.setCounter i c).counter i = c := by
  simp [State.counter]

theorem State.counter_setCounter_of_ne (s : State) (i j : CounterId) (c : Counter) (h : j ≠ i) :
    (s.setCounter i c).counter j = s.counter j := by
  simp [State.counter, Bank.get_set_of_ne _ _ _ _ h]

@[simp] theorem Bank.set_set (b : Bank) (i : CounterId) (c d : Counter) : (b.set i c).set i d = b.set i d := by
  cases i <;> simp [Bank.set]

theorem State.setCounter_setCounter (s : State) (i : CounterId) (c d : Counter) :
    (s.setCounter i c).setCounter i d = s.setCounter i d := by
  simp [State.setCounter]

/-- R153: a restart of an interval counter or a one-shot with a length other than 0 leaves a fresh timing of that
length and nothing else. -/
theorem State.restartC_eq (s : State) (i : CounterId) (n : Nat) (hn : n ≠ 0)
    (hm : i.mode = .oneShot ∨ i.mode = .interval) :
    s.restartC i n = s.setCounter i ((s.counter i).timing n) := by
  unfold State.restartC State.startC State.stopC State.writeC
  rcases h : s.counter i with ⟨run, count, reload, part, sat, res, ro, fe⟩
  cases run <;> rcases hm with hm | hm <;>
    simp [State.onCounter, h, hm, Counter.stop, Counter.write, Counter.start, Counter.timing, hn,
      State.setCounter_setCounter]

/-- R153, R155: a start of a stopped one-shot with a count other than 0 lets it go on from that count. -/
theorem State.startC_oneShot_eq (s : State) (i : CounterId) (hm : i.mode = .oneShot) (hr : (s.counter i).run = false)
    (hn : (s.counter i).count ≠ 0) :
    s.startC i = s.setCounter i { s.counter i with run := true, part := 0 } := by
  unfold State.startC
  simp [State.onCounter, Counter.start, hm, hr, hn]

/-- R153: a stop leaves the counter STOPPED with its count. -/
theorem State.stopC_eq (s : State) (i : CounterId) : s.stopC i = s.setCounter i (s.counter i).stop := rfl

@[simp] theorem Counter.stop_run (c : Counter) : c.stop.run = false := by
  unfold Counter.stop
  split <;> simp_all

@[simp] theorem Counter.stop_count (c : Counter) : c.stop.count = c.count := by
  unfold Counter.stop
  split <;> rfl

/-- R155: what the expiry of a running one-shot does. -/
theorem fireOneShot_of_run (i : CounterId) (effect : State → State) (s : State) (h : (s.counter i).run = true) :
    fireOneShot i effect s = effect (s.setCounter i { s.counter i with run := false, count := 0, part := 0 }) := by
  simp [fireOneShot, h, State.onCounter, Counter.expire]

/-- R155: the expiry of a stopped one-shot does not occur. -/
theorem fireOneShot_of_stopped (i : CounterId) (effect : State → State) (s : State)
    (h : (s.counter i).run = false) : fireOneShot i effect s = s := by
  simp [fireOneShot, h]

/-! ### The Condition Unit -/

/-- A bit of a set after `putBit`. -/
theorem getLsbD_putBit (v : Set32) (n k : Nat) (b : Bool) :
    (putBit v n b).getLsbD k = if k = n ∧ n < 32 then b else v.getLsbD k := by
  unfold putBit
  cases b <;> simp only [Bool.false_eq_true, if_false, if_true, BitVec.getLsbD_and, BitVec.getLsbD_or,
    BitVec.getLsbD_not, BitVec.getLsbD_twoPow] <;> by_cases hk : k = n
  · subst hk; by_cases hn : k < 32 <;> simp [hn]
    exact BitVec.getLsbD_of_ge _ _ (Nat.le_of_not_lt hn)
  · by_cases hl : k < 32 <;> simp [hk, hl, Ne.symm hk]
    exact BitVec.getLsbD_of_ge _ _ (Nat.le_of_not_lt hl)
  · subst hk; by_cases hn : k < 32 <;> simp [hn]
  · simp [hk, Ne.symm hk]

/-- R165: every condition has a bit of the 32-bit sets. -/
theorem Cond.id_lt (i : Cond) : i.id < 27 := by
  cases i with
  | zoneWarm z => cases z <;> decide
  | zoneCold z => cases z <;> decide
  | sensorLost c => cases c <;> decide
  | doorAjar d => cases d <;> decide
  | _ => decide

/-- R166: the level of a condition after a report of a level. -/
@[simp] theorem Conditions.level_setLevel_self (c : Conditions) (i : Cond) (b : Bool) : (c.setLevel i b).level i = b := by
  have h : i.id < 32 := Nat.lt_trans (Cond.id_lt i) (by decide)
  unfold Conditions.setLevel
  split
  · assumption
  · show (putBit c.levels i.id b).getLsbD i.id = b
    rw [getLsbD_putBit, if_pos ⟨rfl, h⟩]

/-- R166: a report of the level in force changes nothing. -/
theorem Conditions.setLevel_of_level (c : Conditions) (i : Cond) (b : Bool) (h : c.level i = b) : c.setLevel i b = c := by
  simp [Conditions.setLevel, h]

/-- R166: the delta of a reported condition is set. -/
theorem Conditions.mark_deltas (c : Conditions) (i : Cond) : (c.mark i).deltas = putBit c.deltas i.id true := rfl

theorem Conditions.mark_levels (c : Conditions) (i : Cond) : (c.mark i).levels = c.levels := rfl

theorem Conditions.mark_mask (c : Conditions) (i : Cond) : (c.mark i).mask = c.mask := rfl

/-! ### The end of a step -/

theorem startReply_of_settled (s : State) (h : s.link.tx = none → s.link.replies = []) : startReply s = s := by
  unfold startReply
  cases htx : s.link.tx with
  | none => simp [h htx]
  | some t => simp

theorem execute_of_waiting (n : Nat) (s : State) (h : s.link.requests = [] ∨ s.executorFree = false) :
    execute n s = s := by
  cases n with
  | zero => rfl
  | succ n =>
    unfold execute
    rcases h with h | h
    · simp [h]
    · split <;> simp_all

/-- The end of a step whose event has left the link alone: only a pending NOTE can begin. -/
theorem finish_of_settled (s : State) (h : Settled s) : finish s = startNote s := by
  obtain ⟨h1, h2, h3⟩ := h
  simp [finish, drainAll_of_quiet s h1, runLink, startReply_of_settled s h3, execute_of_waiting _ s h2]

/-- An event that leaves the link and the signalled expiries as they were leaves the link settled. -/
theorem Settled.of_eq {s t : State} (h : Settled s) (hl : t.link = s.link) (ho : t.own.signalled = s.own.signalled) :
    Settled t := by
  simpa [Settled, State.executorFree, hl, ho] using h

/-- With room in the buffer a complete frame is appended (R176). -/
theorem offerFrame_of_room (f : Frame) (s : State) (h : s.link.requests.length < 2) :
    offerFrame f s = s.onLink fun l => { l with requests := l.requests ++ [f] } := by
  simp [offerFrame, h]

/-- A request received while the link accepts is taken, its effect made and its reply queued (R177); the model's
drain of expiries stands between (log 28). -/
theorem submit_of_accepting (f : Frame) (s : State) (h : Accepting s) :
    submit f s = startNote (startReply (drainAll (takeFrame f s))) := by
  obtain ⟨h1, h2, h3, h4⟩ := h
  have hoff : offerFrame f s = s.onLink fun l => { l with requests := [f] } := by
    simp [offerFrame, State.onLink, h2]
  have hback : ((s.onLink fun l => { l with requests := [f] }).onLink fun l => { l with requests := [] }) = s := by
    cases s
    rename_i link own
    cases link
    simp_all [State.onLink]
  have hq : (s.onLink fun l => { l with requests := [f] }).own.signalled = [] := by simpa using h1
  have hf : (s.onLink fun l => { l with requests := [f] }).executorFree = true := by
    exact h3
  simp only [submit, finish, hoff, drainAll_of_quiet _ hq, runLink]
  rw [startReply_of_settled (s.onLink fun l => { l with requests := [f] }) (by simpa using h4)]
  simp [execute, hf, hback]

/-- A request whose effect starts no one-shot at count 0: the reply, then a pending NOTE. -/
theorem submit_eq_replied (f : Frame) (s : State) (h : Accepting s)
    (hq : (performFrame f s).2.own.signalled = []) :
    submit f s = replied f (performFrame f s).1 (performFrame f s).2 := by
  rw [submit_of_accepting f s h]
  unfold takeFrame replied
  rw [drainAll_of_quiet]
  simpa using hq

/-! ### Multi-byte fields (R181) -/

@[simp] theorem joinHalf_halfBytes (h : Half) : joinHalf (h.extractLsb' 8 8) (h.extractLsb' 0 8) = h := by
  unfold joinHalf
  apply BitVec.eq_of_getLsbD_eq
  intro i hi
  simp only [BitVec.getLsbD_append, BitVec.getLsbD_extractLsb']
  by_cases h8 : i < 8
  · simp [h8]
  · have : i - 8 < 8 := by omega
    have e : 8 + (i - 8) = i := by omega
    simp [h8, this, e]

/-- A 32-bit set is read back from its four bytes. -/
@[simp] theorem joinSet_setBytes (v : Set32) :
    joinSet (v.extractLsb' 24 8) (v.extractLsb' 16 8) (v.extractLsb' 8 8) (v.extractLsb' 0 8) = v := by
  unfold joinSet
  apply BitVec.eq_of_getLsbD_eq
  intro i hi
  simp only [BitVec.getLsbD_append, BitVec.getLsbD_extractLsb']
  by_cases h8 : i < 8
  · simp [h8]
  · by_cases h16 : i - 8 < 8
    · have e : 8 + (i - 8) = i := by omega
      simp [h8, h16, e]
    · by_cases h24 : i - 8 - 8 < 8
      · have e : 16 + (i - 8 - 8) = i := by omega
        simp [h8, h16, h24, e]
      · have h32 : i - 8 - 8 - 8 < 8 := by omega
        have e : 24 + (i - 8 - 8 - 8) = i := by omega
        simp [h8, h16, h24, h32, e]

end Sys2Proof.Machine
end

