-- ==== Sys2Proof/Certificates/Slice0/Obligations.lean ====
section
/-! DEFINITION. The statements for the provers. They are stated in the terms of Sys2Proof/Safety.lean: `Settled` and
`Accepting` say how a command finds the link, `replied` is the state with a reply queued, `startNote` begins a pending
NOTE when the transmitter is free and no reply is queued, and changes nothing else. That a request is taken, and its
reply begun, inside the step that receives it, and that a reply goes before a NOTE, is the model's choice (log 3, log 4);
every statement of a request is told through `replied` and `Accepting`, and rests on it. -/

section Statements

open Sys2Proof Sys2Proof.Machine

/-! ### The machine -/

/-- A step takes the command at the front of the queue and runs exactly it, with the queue's rest. On an empty queue
it is one tick of the clock, which is the model's choice (log 1). -/
def Obligations.StepRunsTheFrontCommand : Prop :=
  (∀ (c : Instr) (rest : List Instr) (s : State), s.pending = c :: rest →
    step s = exec c { s with pending := rest }) ∧
  ∀ s : State, s.pending = [] → step s = .next (tick s)

/-- Every command of the table answers a next state in every state, and leaves the queue of waiting commands alone. That
no command stops the block is the model's reading of every chapter (log 26), with no effect of its own for an event that
does not occur in the state it finds (log 2); that a reset keeps the queue, which is the model's own field, is the
model's choice (log 20). -/
def Obligations.EveryCommandAnswersNext : Prop :=
  ∀ (c : Instr) (s : State), ∃ t, exec c s = .next t ∧ t.pending = s.pending

/-! ### Frames and requests on the link -/

/-- R181: the example frame, and the running CRC at each of its bytes. R177, R181: the frame of every request, with
every operand at every value its fields admit, is read back as that request. -/
def Obligations.RequestFramesReadBack : Prop :=
  ((Request.frame 5 .ident).bytes = [0xC3#8, 0x02#8, 0x01#8, 0x05#8, 0xD8#8] ∧
     crc8 [0x02#8] = 0x0E#8 ∧ crc8 [0x02#8, 0x01#8] = 0x2D#8 ∧ crc8 [0x02#8, 0x01#8, 0x05#8] = 0xD8#8) ∧
  (∀ (tag : Byte) (r : Request), r.wf → checkFrame (Request.frame tag r) = .request r)

/-- R174, R175: a receiver in HUNT that is given the bytes of any frame with a body of 0 to 62 bytes completes exactly
that frame and offers it to the request buffer; with another last byte it discards the frame and counts RX_CRC_ERR. -/
def Obligations.WholeFrameIsReceived : Prop :=
  ∀ (f : Frame) (s : State), f.body.length ≤ 62 → s.link.rx.state = .hunt →
    exec (.requestFrameReceived f.bytes) s =
      .next (finish (offerFrame f { s with link := { s.link with rx := ⟨.hunt, 0, [], 0⟩ } })) ∧
    ∀ b : Byte, b ≠ crc8 (byteOf (f.body.length + 2) :: f.kind :: f.tag :: f.body) →
      exec (.requestFrameReceived
          (0xC3#8 :: byteOf (f.body.length + 2) :: f.kind :: f.tag :: (f.body ++ [b]))) s =
        .next (finish
          { s with link := { s.link with rx := ⟨.hunt, 0, [], 0⟩, rxCrcErr := min 65535 (s.link.rxCrcErr + 1) } })

/-- R175: what the receiver does with one byte, by its state. R175: a gap longer than 20 ms discards the frame being
assembled and counts RX_TIMEOUT; in HUNT it has no effect. -/
def Obligations.ReceiverByState : Prop :=
  (∀ (b : Byte) (s : State), Settled s →
     (s.link.rx.state = .hunt → b ≠ 0xC3#8 → exec (.byteReceived b) s = .next (startNote s)) ∧
     (s.link.rx.state = .hunt → b = 0xC3#8 →
       exec (.byteReceived b) s = .next (startNote { s with link := { s.link with rx := ⟨.length, 0, [], 0⟩ } })) ∧
     (s.link.rx.state = .length → 2 ≤ b.toNat → b.toNat ≤ 64 →
       exec (.byteReceived b) s = .next (startNote { s with link := { s.link with rx := ⟨.content, b.toNat, [], 0⟩ } })) ∧
     (s.link.rx.state = .length → (b.toNat < 2 ∨ 64 < b.toNat) →
       exec (.byteReceived b) s =
         .next (startNote
           { s with link := { s.link with rx := ⟨.hunt, 0, [], 0⟩, rxLenErr := min 65535 (s.link.rxLenErr + 1) } })) ∧
     (s.link.rx.state = .content →
       exec (.byteReceived b) s =
         .next (startNote
           { s with
             link :=
               { s.link with
                 rx :=
                   ⟨if s.link.rx.len ≤ s.link.rx.got.length + 1 then .check else .content, s.link.rx.len,
                     s.link.rx.got ++ [b], 0⟩ } })) ∧
     (s.link.rx.state = .check → b ≠ crc8 (byteOf s.link.rx.len :: s.link.rx.got) →
       exec (.byteReceived b) s =
         .next (startNote
           { s with link := { s.link with rx := ⟨.hunt, 0, [], 0⟩, rxCrcErr := min 65535 (s.link.rxCrcErr + 1) } })) ∧
     (s.link.rx.state = .check → b = crc8 (byteOf s.link.rx.len :: s.link.rx.got) →
       exec (.byteReceived b) s =
         .next (finish (offerFrame (Frame.ofContent s.link.rx.got)
           { s with link := { s.link with rx := ⟨.hunt, 0, [], 0⟩ } })))) ∧
  (∀ s : State, Settled s →
     (s.link.rx.state = .hunt → exec .rxTimeout s = .next (startNote s)) ∧
     (s.link.rx.state ≠ .hunt →
       exec .rxTimeout s =
         .next (startNote
           { s with link := { s.link with rx := ⟨.hunt, 0, [], 0⟩, rxTimeout := min 65535 (s.link.rxTimeout + 1) } })))

/-- R176: a complete frame is appended to a buffer of fewer than 2 frames, and dropped by a full one, with RX_OVERRUN
increased and the LINK_OVERRUN event raised. Told of a part whose executor waits (R177). -/
def Obligations.RequestBufferTakesTwo : Prop :=
  ∀ (f : Frame) (s : State), Settled s → s.executorFree = false → f.body.length ≤ 62 →
    s.link.rx = ⟨.hunt, 0, [], 0⟩ →
    (s.link.requests.length < 2 →
      exec (.requestFrameReceived f.bytes) s =
        .next (startNote { s with link := { s.link with requests := s.link.requests ++ [f] } })) ∧
    (2 ≤ s.link.requests.length →
      exec (.requestFrameReceived f.bytes) s =
        .next (startNote
          { s with
            link := { s.link with rxOverrun := min 65535 (s.link.rxOverrun + 1) }
            cond := s.cond.mark .linkOverrun }))

/-- R177, R181: the reply to a request of a kind below 0x80 has that kind plus 0x80, the request's TAG, and the status
byte, with contents only after OK or CLAMPED. R177: a request whose KIND is not one of the fourteen is answered
UNKNOWN_KIND and has no effect. R177 step 2: a request of a known kind is answered BAD_LENGTH and has no effect
exactly when its body length is not one the kind accepts (R181). R181: an ORDER whose code is none of 1 to 8, received
as a frame, is answered NOT_APPLICABLE and has no effect. -/
def Obligations.RepliesAndRefusedFrames : Prop :=
  (∀ (f : Frame) (a : Answer), f.kind.toNat < 0x80 →
     replyTo f a =
       { kind := f.kind + 0x80#8
         tag := f.tag
         body := a.status.byte :: (if a.status = .ok ∨ a.status = .clamped then a.contents else []) }) ∧
  (∀ (kind tag : Byte) (body : List Byte) (s : State), Accepting s → isRequestKind kind = false →
     exec (.unknownKind kind tag body) s = .next (replied ⟨kind, tag, body⟩ (.refuse .unknownKind) s)) ∧
  (∀ (f : Frame) (s : State), isRequestKind f.kind = true →
     (¬ acceptedLength f.kind.toNat f.body.length → performFrame f s = (.refuse .badLength, s)) ∧
     (acceptedLength f.kind.toNat f.body.length → ∃ r, checkFrame f = .request r ∧ r.wf ∧ r.kind = f.kind ∧
       r.body = f.body)) ∧
  (∀ (tag c : Byte) (s : State), Accepting s → s.link.rx = ⟨.hunt, 0, [], 0⟩ → (c.toNat = 0 ∨ 8 < c.toNat) →
     exec (.requestFrameReceived (⟨0x04#8, tag, [c]⟩ : Frame).bytes) s =
       .next (replied ⟨0x04#8, tag, [c]⟩ (.refuse .notApplicable) s))

/-- R178: at the end of a frame the oldest queued reply begins; with none queued, the pending NOTE, whose body is
built at that moment, or nothing if its set of masked deltas is empty (R172); otherwise the transmitter is idle. A
FRAME_SENT that finds the transmitter idle is no end of a frame and has no effect of its own (log 2): with nothing
queued and no NOTE pending nothing changes, and the end of the step begins a NOTE that is pending (log 4). R177, R178:
with four replies queued and an IDENT waiting in the buffer, the end of a frame lets the oldest reply begin and the
executor take the waiting request. -/
def Obligations.FrameSentBeginsTheNext : Prop :=
  (∀ s : State, s.own.signalled = [] → s.link.requests = [] →
     (s.link.tx = none → s.link.replies = [] → s.cond.notePending = false → exec .frameSent s = .next s) ∧
     (s.link.tx = none → s.link.replies = [] → s.cond.notePending = true → exec .frameSent s = .next (startNote s)) ∧
     (∀ x f rest, s.link.tx = some x → s.link.replies = f :: rest →
       exec .frameSent s = .next { s with link := { s.link with tx := some ⟨f, 0⟩, replies := rest } }) ∧
     (∀ x, s.link.tx = some x → s.link.replies = [] → s.link.restarting = false →
       (s.cond.notePending = false → exec .frameSent s = .next { s with link := { s.link with tx := none } }) ∧
       (s.cond.notePending = true → s.cond.maskedDeltas = 0#32 →
         exec .frameSent s =
           .next { s with link := { s.link with tx := none }, cond := { s.cond with notePending := false } }) ∧
       (s.cond.notePending = true → s.cond.maskedDeltas ≠ 0#32 →
         exec .frameSent s =
           .next
             { s with
               link :=
                 { s.link with
                   tx := some ⟨⟨0x40#8, 0x00#8, setBytes s.cond.levels ++ setBytes s.cond.maskedDeltas⟩, 0⟩ }
               cond := { s.cond with notePending := false } }))) ∧
  (∀ (s : State) (x : Sending) (r1 r2 r3 r4 : Frame) (tag : Byte), s.own.signalled = [] → s.link.tx = some x →
     s.link.replies = [r1, r2, r3, r4] → s.link.requests = [Request.frame tag .ident] → s.link.restarting = false →
     exec .frameSent s =
       .next
         { s with
           link :=
             { s.link with
               requests := []
               tx := some ⟨r1, 0⟩
               replies :=
                 [r2, r3, r4,
                   ⟨0x81#8, tag,
                     [0x00#8, 0x3C#8, 0x01#8, byteOf s.settings.profile, flagByte s.scanner.loaded]⟩] } })

/-- R179: RESTART is answered OK and stops the executor; the end of its reply is the WARM restart, the door lines
being as they stand. The end of a frame is known to be that of the RESTART reply by no reply being queued (log 27), and
the WARM_RESTART command is the taking effect of a restart, with the raw door lines as they stand (log 6). -/
def Obligations.RestartIsCarriedOutAfterItsReply : Prop :=
  (∀ (tag : Byte) (s : State), Accepting s →
    exec (.restart tag) s =
      .next (replied ⟨0x04#8, tag, [0x06#8]⟩ (.ok [0x06#8]) { s with link := { s.link with restarting := true } })) ∧
  ∀ (s : State) (x : Sending), s.link.tx = some x → s.link.restarting = true → s.link.replies = [] →
    exec .frameSent s = exec (.warmRestart s.rawLines) s

/-! ### Resets -/

/-- R46, R78, R116: what a FULL reset leaves in the Sensor Scanner, the Arbiter and the Compressor Controller, whatever
the state it finds. That it keeps the queue of waiting commands, the model's own field, is the model's choice (log
20). -/
def Obligations.FullResetScannerArbiterCompressor : Prop :=
  ∀ (lines : DoorLines) (s : State), ∃ t, exec (.fullReset lines) s = .next t ∧ t.pending = s.pending ∧
    (∀ c, t.channel c =
      { state := .valid, bad := 0, good := 0, acc := none, tf := none, shift := if c = .coil then 0 else 3, lost := 0 }) ∧
    t.scanner.active =
      [700, 660, 600, 520, 430, 340, 260, 190, 118, 52, -14, -82, -156, -240, -338, -450, -500] ∧
    t.scanner.staged = t.scanner.active ∧ t.scanner.loaded = false ∧ t.scanner.heaterSense = none ∧
    t.scanner.compFlt = none ∧ (t.counter .scan).run = true ∧ (t.counter .scan).count = 1000 ∧
    (∀ c, t.level (.sensorLost c) = false) ∧
    t.arb.holder = .nobody ∧ t.arb.holder.alloc = .idle ∧ t.arb.fullEnd = none ∧ t.arb.lastServed = .freeze ∧
    t.arb.stack = [] ∧
    t.arb.active = { fresh := ⟨100, 0, 70, none⟩, chill := ⟨0, 100, 60, none⟩, freeze := ⟨0, 0, 80, none⟩,
                     idle := ⟨0, 0, 0, none⟩ } ∧
    t.arb.staged = t.arb.active ∧ t.arb.commitPending = false ∧ t.cond.deltas.getLsbD 24 = false ∧
    (t.counter .slot).run = false ∧
    (t.counter .svc).run = false ∧ (∀ z, (t.counter (.wait z)).run = true ∧ (t.counter (.wait z)).count = 0) ∧
    t.level .serviceHold = false ∧ (∀ d, (t.damper d).target = 0) ∧ (∀ z, (t.zone z).calling = false) ∧
    t.comp =
      { state := .off, command := 0, target := 0, demand := .auto none, guard := .minOff, stopHeld := false,
        faultCount := 0, fltRounds := 0, ambient := 250, fanCap := false, condFan := false } ∧
    (t.counter .guard).run = true ∧ (t.counter .guard).count = 300 ∧ (t.counter .ramp).run = true ∧
    (t.counter .ramp).count = 1000 ∧ (t.counter .condrun).run = false ∧ t.level .compFault = false ∧
    t.level .compLockout = false

/-- What a FULL reset leaves in the other blocks (R28, R98, R138, R150, R164, R173, R180, R189). That the last COIL
verdict is forgotten, which R138 does not list, is the model's choice (log 32). -/
def Obligations.FullResetOtherBlocks : Prop :=
  ∀ (lines : DoorLines) (s : State), ∃ t, exec (.fullReset lines) s = .next t ∧
    (∀ i, t.settings.follows i = true ∧ t.eff i = i.defaultA) ∧ t.settings.profile = 0 ∧
    (∀ z, t.zone z = { debt := 0, urgency := 0, calling := false, subst := .absent, warmArmed := false }) ∧
    (∀ z, t.mode z = .normal) ∧
    (∀ d, t.damper d =
      { state := .homing, position := none, target := 0, homingSteps := 520, moveCount := 0, homeDue := false,
        stepPart := 0 }) ∧
    t.air.fan =
      { state := .stopped, requested := 0, drive := 0, overflowRun := 0, proven := false, stallCount := 0, rpm := 0,
        fault := false } ∧
    t.defr =
      { phase := .idle, frost := 0, suspended := false, resumeHeat := false, heatBudget := 0, coilTimed := false,
        termCount := 0, lastHeat := 0, heaterDrive := false, openRun := 0, stuckRun := 0, compState := .off,
        ambient := 250, coilLost := false, svcHeater := false } ∧
    (∀ d, (t.door d).isOpen = lines.get d ∧ (t.door d).openCount = 0 ∧ (t.door d).lastWidth = 0 ∧
      (t.door d).widthOverflow = false ∧ (t.door d).ajar = false) ∧
    t.doors.pause = .none ∧ t.doors.pauseSpent = false ∧
    (∀ i, (t.counter i).run = true ↔ (i = .scan ∨ i = .ramp ∨ i = .guard ∨ i = .runsec ∨ i = .gap ∨
      (∃ z, i = .wait z) ∨ ∃ d, i = .door d)) ∧
    (∀ i, (t.counter i).part = 0 ∧ (t.counter i).saturated = false ∧ (t.counter i).result = 0 ∧
      (t.counter i).resultOverflow = false ∧ (t.counter i).firstEdge = false) ∧
    t.cond.levels = 0#32 ∧ (∀ n : Nat, t.cond.deltas.getLsbD n = decide (n = 26)) ∧
    t.cond.mask = 0xFFFFFFFF#32 ∧ t.cond.attn = true ∧ t.cond.notePending = true ∧
    (∀ z, t.alarm z = ⟨.none, none⟩) ∧
    t.link =
      { rx := ⟨.hunt, 0, [], 0⟩, requests := [], replies := [], tx := none, restarting := false, rxTimeout := 0,
        rxLenErr := 0, rxCrcErr := 0, rxOverrun := 0 }

/-- What a WARM restart keeps and what it puts back (R28, R47, R79, R98, R117, R138, R150, R164, R173, R180, R189). That
WARM_RESTART takes effect in every state is the model's choice (log 6), and so are the queue of waiting commands it
keeps (log 20) and the last COIL verdict it forgets (log 32). -/
def Obligations.WarmRestartKeepsAndClears : Prop :=
  ∀ (lines : DoorLines) (s : State), ∃ t, exec (.warmRestart lines) s = .next t ∧ t.pending = s.pending ∧
    t.settings.profile = s.settings.profile ∧
    (∀ i, (∀ z, i ≠ .mode z) → t.eff i = s.eff i ∧ t.settings.follows i = s.settings.follows i) ∧
    (∀ z, t.settings.follows (.mode z) = true ∧ t.mode z = .normal) ∧
    (∀ z, t.zone z = { debt := 0, urgency := 0, calling := false, subst := .absent, warmArmed := false }) ∧
    (∀ c, t.channel c =
      { state := .valid, bad := 0, good := 0, acc := none, tf := none, shift := s.effN (.filterShift c), lost := 0 }) ∧
    t.scanner.active = s.scanner.active ∧ t.scanner.staged = s.scanner.staged ∧ t.scanner.loaded = s.scanner.loaded ∧
    t.scanner.heaterSense = none ∧ t.scanner.compFlt = none ∧
    t.arb =
      { holder := .nobody, lastServed := .freeze, fullEnd := none, stack := [], active := s.arb.active,
        staged := s.arb.staged, commitPending := false } ∧
    t.damper .fresh =
      { state := .homing, position := none, target := (s.arb.active.idle.freshOpen * 480 + 50) / 100,
        homingSteps := 520, moveCount := 0, homeDue := false, stepPart := 0 } ∧
    t.damper .chill =
      { state := .homing, position := none, target := (s.arb.active.idle.chillOpen * 480 + 50) / 100,
        homingSteps := 520, moveCount := 0, homeDue := false, stepPart := 0 } ∧
    t.air.fan =
      { state := if s.arb.active.idle.fanDuty = 0 then .stopped else .kick
        requested := s.arb.active.idle.fanDuty
        drive := if s.arb.active.idle.fanDuty = 0 then 0 else 255
        overflowRun := 0, proven := false, stallCount := 0, rpm := 0, fault := false } ∧
    t.comp =
      { state := if s.comp.state = .lockout then .lockout else .off
        faultCount := if s.comp.state = .lockout then 3 else s.comp.faultCount
        command := 0, target := 0, demand := .auto none, guard := .minOff, stopHeld := false, fltRounds := 0,
        ambient := s.eff .ambRef, fanCap := false, condFan := false } ∧
    (t.counter .guard).run = true ∧ (t.counter .guard).count = s.effN .minOff ∧
    t.defr =
      { phase := .idle, frost := s.defr.frost, suspended := false, resumeHeat := false, heatBudget := 0,
        coilTimed := false, termCount := 0, lastHeat := s.defr.lastHeat, heaterDrive := false, openRun := 0,
        stuckRun := 0, compState := if s.comp.state = .lockout then .lockout else .off
        ambient := s.eff .ambRef, coilLost := false, svcHeater := false } ∧
    (∀ d, (t.door d).isOpen = lines.get d ∧ (t.door d).openCount = (s.door d).openCount ∧
      (t.door d).lastWidth = 0 ∧ (t.door d).widthOverflow = false ∧ (t.door d).ajar = false) ∧
    t.doors.pause = .none ∧ t.doors.pauseSpent = false ∧
    t.counter .gap = s.counter .gap ∧
    t.level .compFault = decide (s.comp.state = .lockout) ∧ t.level .compLockout = decide (s.comp.state = .lockout) ∧
    (∀ n : Nat, t.cond.deltas.getLsbD n = decide (n = 26)) ∧ t.cond.mask = 0xFFFFFFFF#32 ∧ t.cond.attn = true ∧
    t.cond.notePending = true ∧
    t.link =
      { rx := ⟨.hunt, 0, [], 0⟩, requests := [], replies := [], tx := none, restarting := false, rxTimeout := 0,
        rxLenErr := 0, rxCrcErr := 0, rxOverrun := 0 }

/-! ### Item requests -/

/-- R188: IDENT. R182: GET of PROFILE, of a writable item, of a read-only item and of an id that is not listed. R187:
GET of each read-only id answers the owner's value as `readOnlyTable` writes it out from 11.4, with a follows flag of
0; an id that neither 11.3 nor 11.4 lists is answered UNKNOWN_ITEM. -/
def Obligations.IdentAndGetAnswered : Prop :=
  (∀ (tag : Byte) (s : State), Accepting s →
     exec (.ident tag) s =
       .next (replied ⟨0x01#8, tag, []⟩
         (.ok [0x3C#8, 0x01#8, byteOf s.settings.profile, if s.scanner.loaded then 0x01#8 else 0x00#8]) s)) ∧
  (∀ (tag item : Byte) (s : State), Accepting s →
     (item = 0x00#8 →
       exec (.get tag item) s =
         .next (replied ⟨0x02#8, tag, [item]⟩ (.ok ([item] ++ intBytes s.settings.profile ++ [0x00#8])) s)) ∧
     (∀ i, item.toNat = i.id →
       exec (.get tag item) s =
         .next (replied ⟨0x02#8, tag, [item]⟩
           (.ok ([item] ++ intBytes (s.eff i) ++ [if s.settings.follows i then 0x01#8 else 0x00#8])) s)) ∧
     (item ≠ 0x00#8 → (∀ i : Item, item.toNat ≠ i.id) → ∀ v, s.readOnly? item.toNat = some v →
       exec (.get tag item) s =
         .next (replied ⟨0x02#8, tag, [item]⟩ (.ok ([item] ++ intBytes v ++ [0x00#8])) s)) ∧
     (item ≠ 0x00#8 → (∀ i : Item, item.toNat ≠ i.id) → s.readOnly? item.toNat = none →
       exec (.get tag item) s = .next (replied ⟨0x02#8, tag, [item]⟩ (.refuse .unknownItem) s))) ∧
  (∀ (tag item : Byte) (s : State), Accepting s →
     (∀ p ∈ readOnlyTable s, item.toNat = p.1 →
       exec (.get tag item) s =
         .next (replied ⟨0x02#8, tag, [item]⟩ (.ok ([item] ++ intBytes p.2 ++ [0x00#8])) s)) ∧
     (item ≠ 0x00#8 → (∀ i : Item, item.toNat ≠ i.id) → (∀ p ∈ readOnlyTable s, item.toNat ≠ p.1) →
       exec (.get tag item) s = .next (replied ⟨0x02#8, tag, [item]⟩ (.refuse .unknownItem) s)))

/-- R182, R183, R184: the SETs that are refused store nothing. -/
def Obligations.RefusedSetsStoreNothing : Prop :=
  ∀ (tag item : Byte) (value : Half) (s : State), Accepting s →
    (item ≠ 0x00#8 → (∀ i : Item, item.toNat ≠ i.id) →
      exec (.set tag item value) s =
        .next (replied ⟨0x03#8, tag, item :: halfBytes value⟩
          (.refuse (if s.readOnly? item.toNat = none then .unknownItem else .readOnly)) s)) ∧
    (∀ z : Zone, item.toNat = 0x22 + zoneCode z → value.toInt ≠ -32768 → (value.toInt < 0 ∨ 2 < value.toInt) →
      exec (.set tag item value) s =
        .next (replied ⟨0x03#8, tag, item :: halfBytes value⟩ (.refuse .notApplicable) s)) ∧
    (∀ z : Zone, value.toInt ≠ -32768 →
      (value.toInt < 0 ∨ 3 < value.toInt ∨ (value.toInt = 3 ∧ z ≠ .chill) ∨ (value.toInt = 2 ∧ z ≠ .fresh)) →
      exec (.setMode tag z value) s =
        .next (replied ⟨0x03#8, tag, byteOf (0x13 + zoneCode z) :: halfBytes value⟩ (.refuse .notApplicable) s)) ∧
    (value.toInt = -32768 →
      exec (.setProfile tag value) s =
        .next (replied ⟨0x03#8, tag, 0x00#8 :: halfBytes value⟩ (.refuse .notApplicable) s))

/-- R183: a SET of an item that its owner reads at its next use (`Item.readAtUse`). A value is limited to the item's
range and stored, −32768 makes the item follow the profile, and nothing else changes. A following item keeps no
written value (log 18), and SLOT_MAX, which EXTEND reads at its start, times no counter (log 12). R161, R182: a SET of
SVC_MAX during a hold reaches only the reload value of the running SVC; with SVC stopped it reaches no counter. R161,
R182: a changed length is written into the reload value of the counter that the item governs, while that counter is
RUNNING such a timing (log 12), and reaches no counter otherwise: SLOT_MIN and LOST_SERVE the MIN phase of an ordinary
and of a fixed slot, SVC_MAX a hold, MIN_ON and MIN_OFF the guard, HEAT_MAX, DRIP_TIME and PRECHILL_TIME their phases,
DOOR_PAUSE_MAX a pause, BOOST_LEN the boosts. -/
def Obligations.SetStoresLimitedValue : Prop :=
  (∀ (tag : Byte) (i : Item) (value : Half) (s : State), Accepting s → i.readAtUse = true →
     (value.toInt = -32768 →
       exec (.set tag (byteOf i.id) value) s =
         .next (replied ⟨0x03#8, tag, byteOf i.id :: halfBytes value⟩
           (.ok ([byteOf i.id] ++ intBytes (i.default s.settings.profile) ++ [0x01#8]))
           { s with settings := { s.settings with written := dropWritten s.settings.written i.id } })) ∧
     (value.toInt ≠ -32768 →
       exec (.set tag (byteOf i.id) value) s =
         .next (replied ⟨0x03#8, tag, byteOf i.id :: halfBytes value⟩
           { status := if i.range.1 ≤ value.toInt ∧ value.toInt ≤ i.range.2 then .ok else .clamped
             contents := [byteOf i.id] ++ intBytes (max i.range.1 (min i.range.2 value.toInt)) ++ [0x00#8] }
           { s with
             settings :=
               { s.settings with
                 written := putWritten s.settings.written i.id (max i.range.1 (min i.range.2 value.toInt)) } }))) ∧
  (∀ (tag : Byte) (value : Half) (s : State), Accepting s → 300 ≤ value.toInt → value.toInt ≤ 7200 →
     s.eff .svcMax ≠ value.toInt →
     exec (.set tag 0x39#8 value) s =
       .next (replied ⟨0x03#8, tag, 0x39#8 :: halfBytes value⟩ (.ok ([0x39#8] ++ intBytes value.toInt ++ [0x00#8]))
         { s with
           settings := { s.settings with written := putWritten s.settings.written 0x39 value.toInt }
           bank := if (s.counter .svc).run then s.bank.set .svc { s.counter .svc with reload := value.toInt.toNat }
             else s.bank })) ∧
  (∀ (tag : Byte) (i : Item) (value : Half) (s w : State), Accepting s → w = s.stored i value.toInt →
     (∀ (c : CounterId) (n : Nat) (governs : Prop),
       ((i = .slotMin ∧ c = .slot ∧ n = w.effN i ∧
           (governs ↔ ∃ r, s.arb.holder = .slot r ∧ r.phase = .min ∧ r.fixed = false)) ∨
         (i = .lostServe ∧ c = .slot ∧ n = w.effN i ∧
           (governs ↔ ∃ r, s.arb.holder = .slot r ∧ r.phase = .min ∧ r.fixed = true)) ∨
         (i = .svcMax ∧ c = .svc ∧ n = w.effN i ∧ governs) ∨
         (i = .minOn ∧ c = .guard ∧ n = w.effN i ∧ (governs ↔ s.comp.guard = .minOn)) ∨
         (i = .minOff ∧ c = .guard ∧ n = w.effN i ∧ (governs ↔ s.comp.guard = .minOff)) ∨
         (i = .heatMax ∧ c = .phase ∧ n = (if s.defr.coilTimed then min 1500 (w.effN i * 60) else w.effN i * 60) ∧
           (governs ↔ s.defr.phase = .heat)) ∨
         (i = .dripTime ∧ c = .phase ∧ n = w.effN i ∧ (governs ↔ s.defr.phase = .drip)) ∨
         (i = .prechillTime ∧ c = .phase ∧ n = w.effN i ∧ (governs ↔ s.defr.phase = .preChill)) ∨
         (i = .doorPauseMax ∧ c = .pause ∧ n = w.effN i ∧ governs)) →
       (w.eff i ≠ s.eff i → governs →
         SetLeaves tag i value s { w with bank := s.bank.set c ((s.counter c).reloaded n) }) ∧
       ((w.eff i = s.eff i ∨ ¬ governs) → SetLeaves tag i value s w)) ∧
     (i = .boostLen → w.eff i ≠ s.eff i →
       SetLeaves tag i value s
         { w with
           bank :=
             { s.bank with
               boost :=
                 { fresh := s.bank.boost.fresh.reloaded (w.effN i), chill := s.bank.boost.chill.reloaded (w.effN i)
                   freeze := s.bank.boost.freeze.reloaded (w.effN i) } } }) ∧
     (i = .boostLen → w.eff i = s.eff i → SetLeaves tag i value s w))

/-- R182, R183: a written value is the effective value of its item and of no other; a dropped one leaves the item at
the active profile's default. R182: a SET that leaves the effective value hands nothing on, and a changed value
reaches its owner at once: W the urgency (R15), U_LOST the urgency in FORCE_CALL and TIMED, S the warm alarm's arming
(R16), ALARM_HI, ALARM_LO and ALARM_DELAY an evaluation (R167, told by `evalAlarm`, the three zones in zone order by
log 11), N_MIN and N_MAX the command and target of a RUNNING compressor (R107), AMB_REF the ambient while AMBIENT
gives none (R42, log 14), F_DUE, MIN_GAP and MAX_GAP the due check (R120), with resume_heat as R136 has it
(`ResumeLaw`), AJAR_TIME the open doors (R146). LOSS_POLICY waits for a sample (R19). -/
def Obligations.WrittenValueIsEffective : Prop :=
  (∀ (t : Settings) (i j : Item) (v : Int),
     (t.write i (some v)).eff i = v ∧ (t.write i (some v)).follows i = false ∧
     (t.write i none).eff i = i.default t.profile ∧ (t.write i none).follows i = true ∧
     (j ≠ i → (t.write i (some v)).eff j = t.eff j ∧ (t.write i none).eff j = t.eff j)) ∧
  (∀ (tag : Byte) (i : Item) (value : Half) (s w : State), Accepting s → SettingsLaw s → ResumeLaw s →
     w = s.stored i value.toInt →
     ((∀ z, i ≠ .mode z ∧ i ≠ .lossPolicy z) → w.eff i = s.eff i → SetLeaves tag i value s w) ∧
     (∀ z, i = .lossPolicy z → (value.toInt = -32768 ∨ (0 ≤ value.toInt ∧ value.toInt ≤ 2)) →
       SetLeaves tag i value s w) ∧
     (w.eff i ≠ s.eff i →
       (∀ z, i = .weight z →
         SetLeaves tag i value s
           { w with
             zones := s.zones.set z
               { s.zone z with
                 urgency :=
                   if ((s.zone z).subst = .forceCall ∨ (s.zone z).subst = .timed) ∧ s.mode z ≠ .off then s.effN .uLost
                   else min 65535
                     ((s.zone z).debt * (if s.mode z = .boost then min 64 (2 * w.effN i) else w.effN i) / 16) } }) ∧
       (i = .uLost →
         ∃ t, SetLeaves tag i value s t ∧
           (∀ z, t.zone z =
             if ((s.zone z).subst = .forceCall ∨ (s.zone z).subst = .timed) ∧ s.mode z ≠ .off then
               { s.zone z with urgency := w.effN .uLost }
             else if (s.zone z).subst = .forceCall ∨ (s.zone z).subst = .timed then
               { s.zone z with urgency := min 65535 ((s.zone z).debt * s.wEff z / 16) }
             else s.zone z) ∧
           t = { w with zones := t.zones }) ∧
       (∀ z, i = .setpoint z →
         (s.mode z = .holiday → (s.zone z).warmArmed = false → SetLeaves tag i value s w) ∧
         ((s.mode z ≠ .holiday ∨ (s.zone z).warmArmed = true) →
           SetLeaves tag i value s
             (evalAlarm z .change { w with zones := s.zones.set z { s.zone z with warmArmed := false } }))) ∧
       (∀ z, (i = .alarmHi z ∨ i = .alarmLo z) → SetLeaves tag i value s (evalAlarm z .change w)) ∧
       (i = .alarmDelay →
         SetLeaves tag i value s
           (evalAlarm .freeze .change (evalAlarm .chill .change (evalAlarm .fresh .change
             { w with
               bank :=
                 { s.bank with
                   alm :=
                     { fresh := s.bank.alm.fresh.reloaded (w.effN i * 60), chill := s.bank.alm.chill.reloaded (w.effN i * 60)
                       freeze := s.bank.alm.freeze.reloaded (w.effN i * 60) } } })))) ∧
       ((i = .nMin ∨ i = .nMax) →
         (s.comp.state ≠ .running → SetLeaves tag i value s w) ∧
         (s.comp.state = .running →
           SetLeaves tag i value s
             { w with
               comp :=
                 { s.comp with
                   command := max (w.effN .nMin) (min (w.effN .nMax) s.comp.command)
                   target :=
                     if s.comp.stopHeld then w.effN .nMin
                     else max (w.effN .nMin) (min (w.effN .nMax) s.comp.target) } })) ∧
       (i = .ambRef →
         (((s.channel .ambient).state = .lost ∨ (s.channel .ambient).tf = none) →
           SetLeaves tag i value s
             { w with comp := { s.comp with ambient := w.eff i }, defr := { s.defr with ambient := w.eff i } }) ∧
         ((s.channel .ambient).state ≠ .lost → (s.channel .ambient).tf ≠ none → SetLeaves tag i value s w)) ∧
       ((i = .fDue ∨ i = .minGap ∨ i = .maxGap) →
         ∀ due : Prop,
           (due ↔ s.defr.phase = .idle ∧ s.level .heaterStuck = false ∧
             ((w.effN .fDue ≤ s.defr.frost ∧ w.effN .minGap ≤ (s.counter .gap).count) ∨
               w.effN .maxGap ≤ (s.counter .gap).count)) →
           (¬ due → SetLeaves tag i value s w) ∧
           (due → (s.arb.holder = .door ∨ s.arb.holder = .service) →
             SetLeaves tag i value s
               { w with
                 defr :=
                   { s.defr with
                     phase := .pending
                     heaterDrive :=
                       decide (s.arb.holder = .service) && s.defr.svcHeater && decide (s.defr.compState ≠ .running) } }) ∧
           (due → (s.arb.holder = .nobody ∨ ∃ r, s.arb.holder = .slot r) →
             ∃ t, SetLeaves tag i value s t ∧ t.arb.holder = .defrost ∧ t.level .defrostActive = true ∧
               t.settings = w.settings ∧ t.defr.frost = s.defr.frost)) ∧
       (i = .ajarTime →
         ∃ t, SetLeaves tag i value s t ∧ t.settings = w.settings ∧
           (∀ d, t.door d =
             { s.door d with
               ajar := (s.door d).ajar ||
                 ((s.door d).isOpen && decide (w.effN .ajarTime ≤ (s.counter (.door d)).count)) }) ∧
           (∀ d, t.level (.doorAjar d) =
             (s.level (.doorAjar d) ||
               (!(s.door d).ajar && (s.door d).isOpen && decide (w.effN .ajarTime ≤ (s.counter (.door d)).count)))) ∧
           (∀ c, (∀ d, c ≠ .doorAjar d) → t.level c = s.level c) ∧ t.zones = s.zones ∧ t.scanner = s.scanner ∧
           t.arb = s.arb ∧ t.air = s.air ∧ t.comp = s.comp ∧ t.defr = s.defr ∧ t.bank = s.bank ∧ t.link = s.link)))

/-- R183, R185: a SET of PROFILE is limited to 0..3; items with written values keep them, and the following items
take the new profile's defaults. Stated where the change makes no defrost fall due (R120). -/
def Obligations.SetProfileSelectsDefaults : Prop :=
  ∀ (tag : Byte) (value : Half) (p : Nat) (s : State), Accepting s → value.toInt ≠ -32768 →
    p = (max 0 (min 3 value.toInt)).toNat →
    (s.defr.phase = .idle →
      ({ s with settings := { s.settings with profile := p } } : State).defrostDue = false) →
    ∃ t, exec (.setProfile tag value) s =
        .next (replied ⟨0x03#8, tag, 0x00#8 :: halfBytes value⟩
          { status := if 0 ≤ value.toInt ∧ value.toInt ≤ 3 then .ok else .clamped
            contents := [0x00#8] ++ intBytes p ++ [0x00#8] } t) ∧
      t.settings = { s.settings with profile := p } ∧
      t.scanner = s.scanner ∧ t.arb = s.arb ∧ t.air = s.air ∧ t.defr = s.defr ∧ t.link = s.link ∧
      (∀ z, (t.zone z).debt = (s.zone z).debt ∧ (t.zone z).calling = (s.zone z).calling ∧
        (t.zone z).subst = (s.zone z).subst) ∧
      (∀ i, (t.counter i).run = (s.counter i).run ∧ (t.counter i).count = (s.counter i).count) ∧
      (s.comp.state = .running → p ≠ s.settings.profile → s.settings.follows .nMax = true →
        s.settings.follows .nMin = true → Item.default p .nMax ≠ Item.default s.settings.profile .nMax →
        t.comp.command = max 1200 (min (Item.default p .nMax).toNat s.comp.command))

/-- R6, R11, R16: a MODE write that puts FRESH into HOLIDAY or back into NORMAL stores the mode, disarms the warm
alarm, recomputes U, and leaves D, calling and the substitution alone. R9, R168: CHILL entering OFF stops calling, has
D 0 and U 0, no slot open and no zone alarm, and its ALM counter is stopped; out of BOOST its BOOST counter stops
(R8). Stated where no claim waits for the holder report that the end of its slot may make. R7, R15: a write of BOOST
to a zone in another mode but OFF doubles W up to 64, starts BOOST with BOOST_LEN, keeps D, disarms the warm alarm and
makes the zone call, but not in IGNORE or TIMED; a call that finds the path with nobody is granted a slot. A repeated
BOOST restarts the counter alone. R8: a write of NORMAL or HOLIDAY that leaves BOOST stops the counter and keeps D and
calling. R10: CHILL leaving OFF for NORMAL or BOOST starts from D 0 with the warm alarm disarmed. In FORCE_CALL it
calls, in TIMED by its WAIT count, both with U_LOST; in IGNORE it does not; otherwise it calls in BOOST alone, U being
0. -/
def Obligations.SetModeHolidayAndOff : Prop :=
  (∀ (tag : Byte) (value : Half) (s : State), Accepting s → SettingsLaw s →
     ((s.mode .fresh = .normal ∧ value.toInt = 2) ∨ (s.mode .fresh = .holiday ∧ value.toInt = 0)) →
     ∃ t, exec (.setMode tag .fresh value) s =
         .next (replied ⟨0x03#8, tag, 0x13#8 :: halfBytes value⟩
           (.ok ([0x13#8] ++ intBytes value.toInt ++ [0x00#8])) t) ∧
       t.settings = { s.settings with written := putWritten s.settings.written 0x13 value.toInt } ∧
       t.sEff .fresh = (if value.toInt = 2 then 150 else s.eff (.setpoint .fresh)) ∧
       t.zones =
         { s.zones with
           fresh := { s.zones.fresh with warmArmed := false, urgency := t.urgencyNow .fresh } } ∧
       t.scanner = s.scanner ∧ t.arb = s.arb ∧ t.air = s.air ∧ t.comp = s.comp ∧ t.defr = s.defr ∧
       t.doors = s.doors ∧ t.link = s.link ∧
       (∀ i, i ≠ .alm .fresh → t.counter i = s.counter i)) ∧
  (∀ (tag : Byte) (s : State), Accepting s → SettingsLaw s → StackLaw s →
     ((s.arb.holder = .nobody ∨ ∃ r, s.arb.holder = .slot r) → NoClaimWaits s) → s.mode .chill ≠ .off →
     ∃ t, exec (.setMode tag .chill 3#16) s =
         .next (replied ⟨0x03#8, tag, [0x14#8, 0x00#8, 0x03#8]⟩ (.ok [0x14#8, 0x00#8, 0x03#8, 0x00#8]) t) ∧
       t.settings = { s.settings with written := putWritten s.settings.written 0x14 3 } ∧ t.mode .chill = .off ∧
       (t.zone .chill).calling = false ∧ (t.zone .chill).debt = 0 ∧ (t.zone .chill).urgency = 0 ∧
       (t.zone .chill).subst = (s.zone .chill).subst ∧ t.slotOpen .chill = false ∧
       t.level (.zoneWarm .chill) = false ∧ t.level (.zoneCold .chill) = false ∧
       (t.counter (.alm .chill)).run = false ∧ (s.mode .chill = .boost → (t.counter (.boost .chill)).run = false) ∧
       (∀ z, z ≠ .chill → t.zone z = s.zone z) ∧ t.scanner = s.scanner ∧ t.link = s.link ∧
       (s.slotOpen .chill = false → t.arb = s.arb ∧ t.air = s.air ∧ t.comp = s.comp)) ∧
  (∀ (tag : Byte) (z : Zone) (s : State), Accepting s → SettingsLaw s →
     (s.mode z ≠ .boost → s.mode z ≠ .off →
         ((s.arb.holder = .nobody ∨ ∃ r, s.arb.holder = .slot r) → NoClaimWaits s) →
       ∃ t, exec (.setMode tag z 1#16) s =
           .next (replied ⟨0x03#8, tag, [byteOf (0x13 + zoneCode z), 0x00#8, 0x01#8]⟩
             (.ok [byteOf (0x13 + zoneCode z), 0x00#8, 0x01#8, 0x00#8]) t) ∧
         t.settings = { s.settings with written := putWritten s.settings.written (0x13 + zoneCode z) 1 } ∧
         t.mode z = .boost ∧ t.counter (.boost z) = (s.counter (.boost z)).timing (s.effN .boostLen) ∧
         t.zones = s.zones.set z
           { s.zone z with
             warmArmed := false
             calling :=
               (s.zone z).calling || (decide ((s.zone z).subst ≠ .ignore) && decide ((s.zone z).subst ≠ .timed))
             urgency :=
               if (s.zone z).subst = .forceCall ∨ (s.zone z).subst = .timed then s.effN .uLost
               else min 65535 ((s.zone z).debt * min 64 (2 * s.effN (.weight z)) / 16) } ∧
         (((s.zone z).calling = true ∨ (s.zone z).subst = .ignore ∨ (s.zone z).subst = .timed ∨
             s.arb.holder ≠ .nobody) →
           t.arb = s.arb ∧ t.air = s.air ∧ t.comp = s.comp ∧ t.defr = s.defr ∧ t.doors = s.doors ∧
           ∀ i, i ≠ .boost z → i ≠ .alm z → t.counter i = s.counter i) ∧
         ((s.zone z).calling = false → (s.zone z).subst ≠ .ignore → (s.zone z).subst ≠ .timed →
           s.arb.holder = .nobody → ∃ r, t.arb.holder = .slot r) ∧
         t.scanner = s.scanner ∧ t.link = s.link) ∧
     (s.mode z = .boost →
       exec (.setMode tag z 1#16) s =
         .next (replied ⟨0x03#8, tag, [byteOf (0x13 + zoneCode z), 0x00#8, 0x01#8]⟩
           (.ok [byteOf (0x13 + zoneCode z), 0x00#8, 0x01#8, 0x00#8])
           { s with
             settings := { s.settings with written := putWritten s.settings.written (0x13 + zoneCode z) 1 }
             bank := s.bank.set (.boost z) ((s.counter (.boost z)).timing (s.effN .boostLen)) })) ∧
     (∀ value : Half, s.mode z = .boost → (value.toInt = 0 ∨ (z = .fresh ∧ value.toInt = 2)) →
       ∃ t, exec (.setMode tag z value) s =
           .next (replied ⟨0x03#8, tag, byteOf (0x13 + zoneCode z) :: halfBytes value⟩
             (.ok ([byteOf (0x13 + zoneCode z)] ++ intBytes value.toInt ++ [0x00#8])) t) ∧
         t.settings = { s.settings with written := putWritten s.settings.written (0x13 + zoneCode z) value.toInt } ∧
         t.mode z = (if value.toInt = 2 then .holiday else .normal) ∧
         t.counter (.boost z) = (s.counter (.boost z)).stop ∧
         t.zones = s.zones.set z
           { s.zone z with
             warmArmed := false
             urgency :=
               if (s.zone z).subst = .forceCall ∨ (s.zone z).subst = .timed then s.effN .uLost
               else min 65535 ((s.zone z).debt * s.effN (.weight z) / 16) } ∧
         (∀ i, i ≠ .boost z → i ≠ .alm z → t.counter i = s.counter i) ∧
         t.scanner = s.scanner ∧ t.arb = s.arb ∧ t.air = s.air ∧ t.comp = s.comp ∧ t.defr = s.defr ∧
         t.doors = s.doors ∧ t.link = s.link)) ∧
  (∀ (tag : Byte) (value : Half) (calls : Bool) (s : State), Accepting s → SettingsLaw s → OffLaw s →
     ((s.arb.holder = .nobody ∨ ∃ r, s.arb.holder = .slot r) → NoClaimWaits s) →
     s.mode .chill = .off → (value.toInt = 0 ∨ value.toInt = 1) →
     calls =
       (match (s.zone .chill).subst with
         | .forceCall => true
         | .timed => decide (s.effN .lostPeriod ≤ (s.counter (.wait .chill)).count)
         | .ignore => false
         | .absent => decide (value.toInt = 1)
         | .holdWindow => decide (value.toInt = 1)) →
     ∃ t, exec (.setMode tag .chill value) s =
         .next (replied ⟨0x03#8, tag, 0x14#8 :: halfBytes value⟩
           (.ok ([0x14#8] ++ intBytes value.toInt ++ [0x00#8])) t) ∧
       t.settings = { s.settings with written := putWritten s.settings.written 0x14 value.toInt } ∧
       t.counter (.boost .chill) =
         (if value.toInt = 1 then (s.counter (.boost .chill)).timing (s.effN .boostLen) else s.counter (.boost .chill)) ∧
       t.zones = s.zones.set .chill
         { s.zone .chill with
           debt := 0
           warmArmed := false
           calling := calls
           urgency :=
             if (s.zone .chill).subst = .forceCall ∨ (s.zone .chill).subst = .timed then s.effN .uLost else 0 } ∧
       ((calls = false ∨ s.arb.holder ≠ .nobody) →
         t.arb = s.arb ∧ t.air = s.air ∧ t.comp = s.comp ∧ t.defr = s.defr ∧ t.doors = s.doors ∧
         ∀ i, i ≠ .boost .chill → i ≠ .alm .chill → t.counter i = s.counter i) ∧
       (calls = true → s.arb.holder = .nobody → ∃ r, t.arb.holder = .slot r) ∧
       t.scanner = s.scanner ∧ t.link = s.link)

/-! ### Orders -/

/-- R121: START_DEFROST by phase; with the path held by DOOR or SERVICE the sequencer stays PENDING (R122). R66, R67,
R122, R123, R124: a START_DEFROST that finds the path with a slot or with nobody is taken: DEFROST holds, the slot
lies on the stack with the effective SAVE_MASK_DEFROST, DEFROST_ACTIVE asserts and PRE_CHILL runs with PHASE at
PRECHILL_TIME and the demand FIXED(N_MAX). -/
def Obligations.StartDefrostByPhaseAndHolder : Prop :=
  (∀ (tag : Byte) (s : State), Accepting s →
     (s.defr.phase = .idle → s.level .heaterStuck = true →
       exec (.startDefrost tag) s = .next (replied ⟨0x04#8, tag, [0x01#8]⟩ (.refuse .notApplicable) s)) ∧
     (s.defr.phase ≠ .idle →
       exec (.startDefrost tag) s = .next (replied ⟨0x04#8, tag, [0x01#8]⟩ (.refuse .busy) s)) ∧
     (s.defr.phase = .idle → s.level .heaterStuck = false → (s.arb.holder = .door ∨ s.arb.holder = .service) →
       exec (.startDefrost tag) s =
         .next (replied ⟨0x04#8, tag, [0x01#8]⟩ (.ok [0x01#8])
           { s with
             defr :=
               { s.defr with
                 phase := .pending
                 heaterDrive :=
                   decide (s.arb.holder = .service) && s.defr.svcHeater && decide (s.defr.compState ≠ .running) } }))) ∧
  (∀ (tag : Byte) (s : State), Accepting s → SettingsLaw s → s.defr.phase = .idle → s.level .heaterStuck = false →
     s.effN .prechillTime ≠ 0 → s.defr.compState ≠ .lockout →
     (s.arb.holder = .nobody ∨ ∃ r, s.arb.holder = .slot r) →
     ∃ t, exec (.startDefrost tag) s = .next (replied ⟨0x04#8, tag, [0x01#8]⟩ (.ok [0x01#8]) t) ∧
       t.arb =
         { s.arb with
           holder := .defrost
           stack :=
             (match s.arb.holder with
               | .slot r =>
                 [.slot (s.effN (.saveMask .defrost)) r.zone r.phase r.fixed (s.counter .slot).count
                   (if s.effN (.saveMask .defrost) % 2 = 1 then some r.route else none)]
               | _ => []) ++ s.arb.stack } ∧
       t.level .defrostActive = true ∧ t.defr.phase = .preChill ∧ t.defr.heaterDrive = false ∧
       t.defr.frost = s.defr.frost ∧ t.counter .phase = (s.counter .phase).timing (s.effN .prechillTime) ∧
       (s.arb.holder ≠ .nobody → (t.counter .slot).run = false ∧ (t.counter .slot).count = (s.counter .slot).count) ∧
       t.counter .gap = s.counter .gap ∧ t.counter .runsec = s.counter .runsec ∧
       t.comp.demand = .fixed (s.effN .nMax) ∧ t.air.fan.requested = s.arb.active.freeze.fanDuty ∧
       (t.damper .fresh).target = (s.arb.active.freeze.freshOpen * 480 + 50) / 100 ∧
       (t.damper .chill).target = (s.arb.active.freeze.chillOpen * 480 + 50) / 100 ∧
       t.settings = s.settings ∧ t.zones = s.zones ∧ t.scanner = s.scanner ∧ t.link = s.link)

/-- R134: ABORT_DEFROST in the phases it leaves alone, in PENDING, and before HEAT: with the DEFROST frame suspended
on the stack the frame is removed (R73), and with DEFROST holding over an empty stack the path is released (R70).
R128, R130, R134: an abort of HEAT, or of the STOP_WAIT of its resume, enters DRIP with half of F, last_heat the
minutes heated so far, RUNSEC cleared, and F_DUE not adapted. R50, R70, R71, R134, R144: an abort before HEAT with
DEFROST holding releases the path, whatever lies on the stack and whatever door pause waits (`PathReleased`, told from
the state the abort leaves: IDLE, PHASE stopped). -/
def Obligations.AbortDefrostByPhase : Prop :=
  (∀ (tag : Byte) (s : State), Accepting s →
     ((s.defr.phase = .idle ∨ s.defr.phase = .drip ∨ s.defr.phase = .recover) →
       exec (.abortDefrost tag) s = .next (replied ⟨0x04#8, tag, [0x02#8]⟩ (.refuse .notApplicable) s)) ∧
     (s.defr.phase = .pending → s.arb.holder ≠ .defrost →
       exec (.abortDefrost tag) s =
         .next (replied ⟨0x04#8, tag, [0x02#8]⟩ (.ok [0x02#8])
           { s with
             defr :=
               { s.defr with
                 phase := .idle
                 heaterDrive :=
                   decide (s.arb.holder = .service) && s.defr.svcHeater && !s.level .heaterStuck &&
                     decide (s.defr.compState ≠ .running) } })) ∧
     ((s.defr.phase = .preChill ∨ (s.defr.phase = .stopWait ∧ s.defr.resumeHeat = false)) → s.defr.suspended = true →
       ∃ t, exec (.abortDefrost tag) s = .next (replied ⟨0x04#8, tag, [0x02#8]⟩ (.ok [0x02#8]) t) ∧
         t.defr.phase = .idle ∧ t.defr.suspended = false ∧ t.defr.frost = s.defr.frost ∧
         t.arb = { s.arb with stack := s.arb.stack.filter fun f => !f.isDefrost } ∧ t.level .defrostActive = false ∧
         (t.counter .phase).run = false ∧ (∀ i, i ≠ .phase → t.counter i = s.counter i) ∧
         t.settings = s.settings ∧ t.zones = s.zones ∧ t.scanner = s.scanner ∧ t.air = s.air ∧ t.comp = s.comp ∧
         t.doors = s.doors ∧ t.link = s.link) ∧
     ((s.defr.phase = .preChill ∨ (s.defr.phase = .stopWait ∧ s.defr.resumeHeat = false)) →
       s.defr.suspended = false → s.arb.holder = .defrost → s.arb.stack = [] → s.doors.pause ≠ .deferred →
       SettingsLaw s →
       ∃ t, exec (.abortDefrost tag) s = .next (replied ⟨0x04#8, tag, [0x02#8]⟩ (.ok [0x02#8]) t) ∧
         t.defr.phase = .idle ∧ t.defr.frost = s.defr.frost ∧ t.defr.heaterDrive = false ∧
         t.arb.holder.isFree = true ∧ t.arb.stack = [] ∧ t.level .defrostActive = false ∧
         (t.counter .phase).run = false ∧ t.counter .gap = s.counter .gap ∧ t.counter .runsec = s.counter .runsec ∧
         t.settings = s.settings ∧ t.zones = s.zones ∧ t.scanner = s.scanner ∧ t.doors = s.doors ∧ t.link = s.link)) ∧
  (∀ (tag : Byte) (s : State), Accepting s → SettingsLaw s → s.defr.suspended = false →
     (s.defr.phase = .heat ∨ (s.defr.phase = .stopWait ∧ s.defr.resumeHeat = true)) →
     ∃ t, exec (.abortDefrost tag) s = .next (replied ⟨0x04#8, tag, [0x02#8]⟩ (.ok [0x02#8]) t) ∧
       t.defr.phase = .drip ∧ t.defr.frost = s.defr.frost / 2 ∧ t.defr.resumeHeat = false ∧ t.defr.termCount = 0 ∧
       t.defr.lastHeat = (s.defr.heatBudget - (s.counter .phase).count) / 60 ∧
       (t.counter .phase).run = true ∧ (t.counter .phase).count = s.effN .dripTime ∧ (t.counter .runsec).count = 0 ∧
       t.counter .gap = s.counter .gap ∧ t.comp.demand = .stop ∧ t.air.fan.requested = 0 ∧
       (t.damper .fresh).target = 0 ∧ (t.damper .chill).target = 0 ∧
       t.settings = s.settings ∧ t.zones = s.zones ∧ t.scanner = s.scanner ∧ t.arb = s.arb ∧ t.doors = s.doors ∧
       t.cond = s.cond ∧ t.link = s.link) ∧
  (∀ (tag : Byte) (w s : State), Accepting s → SettingsLaw s → HeaterLaw s → ResumeLaw s →
     (s.defr.phase = .preChill ∨ (s.defr.phase = .stopWait ∧ s.defr.resumeHeat = false)) → s.defr.suspended = false →
     s.arb.holder = .defrost → (∀ f ∈ s.arb.stack, f.isDefrost = false) →
     w =
       { s with
         defr := { s.defr with phase := .idle }
         bank := s.bank.set .phase (s.counter .phase).stop } →
     ∃ t, exec (.abortDefrost tag) s = .next (replied ⟨0x04#8, tag, [0x02#8]⟩ (.ok [0x02#8]) t) ∧ PathReleased w t ∧
       t.level .defrostActive = false)

/-- R49, R66, R67, R75, R135: HOLD takes the path for SERVICE from whatever holder there is, with a frame for it, and
is NOT_APPLICABLE when SERVICE holds already. -/
def Obligations.HoldTakesThePath : Prop :=
  ∀ (tag : Byte) (s : State), Accepting s → SettingsLaw s →
    (s.arb.holder = .service →
      exec (.hold tag) s = .next (replied ⟨0x04#8, tag, [0x03#8]⟩ (.refuse .notApplicable) s)) ∧
    (s.arb.holder ≠ .service →
      ∃ t, exec (.hold tag) s = .next (replied ⟨0x04#8, tag, [0x03#8]⟩ (.ok [0x03#8]) t) ∧
        t.arb =
          { s.arb with
            holder := .service
            stack :=
              (match s.arb.holder with
                | .slot r =>
                  [.slot (s.effN (.saveMask .service)) r.zone r.phase r.fixed (s.counter .slot).count
                    (if s.effN (.saveMask .service) % 2 = 1 then some r.route else none)]
                | .door => [.door (s.effN (.saveMask .service))]
                | .defrost => [.defrost (s.effN (.saveMask .service))]
                | _ => []) ++ s.arb.stack } ∧
        t.counter .svc = (s.counter .svc).timing (s.effN .svcMax) ∧ t.level .serviceHold = true ∧
        t.comp.demand = .stop ∧ t.air.fan.requested = 0 ∧ DemandTaken .stop s t ∧ FanAsked 0 s t ∧
        t.air.dampers = s.air.dampers ∧
        t.defr.heaterDrive = false ∧ t.defr.svcHeater = false ∧ t.defr.phase = s.defr.phase ∧
        t.defr.frost = s.defr.frost ∧ (s.arb.holder = .defrost → t.defr.suspended = true ∧ t.defr.termCount = 0 ∧
          (t.counter .phase).run = false ∧ (t.counter .phase).count = (s.counter .phase).count) ∧
        t.doors.recs = s.doors.recs ∧
        t.doors.pause = (if s.doors.pause = .held then .suspended else s.doors.pause) ∧
        t.counter .pause = s.counter .pause ∧ t.counter .gap = s.counter .gap ∧
        t.settings = s.settings ∧ t.zones = s.zones ∧ t.scanner = s.scanner ∧ t.link = s.link)

/-- R75: RELEASE with an empty stack ends the hold: SVC is stopped, SERVICE_HOLD deasserts, the service heater command
lapses (R113), and arbitration settles the holder, which is a slot exactly when a zone is calling (R70). It is
NOT_APPLICABLE when SERVICE does not hold. R51, R52, R55, R57, R60, R64: the RELEASE of an empty stack with a zone to
choose grants it a slot (`SlotGranted`: the plan with a waiting commit applied, the slot, WAIT, SLOT, and what the
dampers, the fan and the compressor make of the route); with none to choose IDLE is entered (`IdleEntered`). R70, R71,
R72, R75, R122, R136, R144: RELEASE works on the stack from its top (`PathReleased`). With nothing on it arbitration
settles the holder; a SLOT frame resumes, or is dropped and arbitration runs; a DOOR or a DEFROST frame resumes, the
defrost by its phase. The holder report that finds the path with a slot or with nobody makes the claims that wait, a
DEFERRED door pause's and a PENDING defrost's (`ClaimsMade`). -/
def Obligations.ReleaseEndsTheHold : Prop :=
  (∀ (tag : Byte) (s : State), Accepting s → SettingsLaw s →
     (s.arb.holder ≠ .service →
       exec (.release tag) s = .next (replied ⟨0x04#8, tag, [0x04#8]⟩ (.refuse .notApplicable) s)) ∧
     (s.arb.holder = .service → s.arb.stack = [] → NoClaimWaits s →
       ∃ t, exec (.release tag) s = .next (replied ⟨0x04#8, tag, [0x04#8]⟩ (.ok [0x04#8]) t) ∧
         (t.counter .svc).run = false ∧ t.level .serviceHold = false ∧ t.defr.svcHeater = false ∧
         t.defr.heaterDrive = false ∧ t.arb.stack = [] ∧ t.arb.fullEnd = none ∧
         (t.arb.holder = .nobody ↔ ∀ z, (s.zone z).calling = false) ∧
         (t.arb.holder ≠ .nobody → ∃ r, t.arb.holder = .slot r ∧ (s.zone r.zone).calling = true ∧ r.phase = .min ∧
           r.route = t.arb.active.zone r.zone ∧ t.arb.lastServed = r.zone ∧ (t.counter (.wait r.zone)).run = false) ∧
         t.counter .gap = s.counter .gap ∧ t.defr.phase = s.defr.phase ∧ t.defr.frost = s.defr.frost ∧
         t.doors.recs = s.doors.recs ∧
         t.settings = s.settings ∧ t.zones = s.zones ∧ t.scanner = s.scanner ∧ t.link = s.link)) ∧
  (∀ (tag : Byte) (s : State), Accepting s → SettingsLaw s → s.arb.holder = .service → s.arb.stack = [] →
     NoClaimWaits s →
     ∃ t, exec (.release tag) s = .next (replied ⟨0x04#8, tag, [0x04#8]⟩ (.ok [0x04#8]) t) ∧
       (s.choice = none → IdleEntered s t) ∧ ∀ z, s.choice = some z → SlotGranted z s t) ∧
  (∀ (tag : Byte) (s : State), Accepting s → SettingsLaw s → HeaterLaw s → ResumeLaw s → s.arb.holder = .service →
     ((∃ mask rest, s.arb.stack = .defrost mask :: rest) →
       (s.counter .phase).run = false ∧ (s.counter .phase).count ≠ 0) →
     ∃ t, exec (.release tag) s = .next (replied ⟨0x04#8, tag, [0x04#8]⟩ (.ok [0x04#8]) t) ∧ PathReleased s t ∧
       (t.counter .svc).run = false ∧ t.level .serviceHold = false ∧ t.defr.svcHeater = false)

/-- R72, R136: the release of SERVICE pops a DOOR frame, and DOOR holds again with the dampers' targets as they stand
and the fan at 0; a SLOT frame beneath stays. R72, R136: the release of SERVICE pops a DEFROST frame: a HEAT suspended
with its PHASE count resumes from that count with the heater on when the compressor is not running, and otherwise
waits in STOP_WAIT with resume_heat yes and PHASE stopped. Stated with HEATER_STUCK negated. -/
def Obligations.ReleaseResumesThePoppedFrame : Prop :=
  (∀ (tag : Byte) (mask : Nat) (rest : List SuspFrame) (s : State), Accepting s → SettingsLaw s →
     s.arb.holder = .service → s.arb.stack = .door mask :: rest →
     ∃ t, exec (.release tag) s = .next (replied ⟨0x04#8, tag, [0x04#8]⟩ (.ok [0x04#8]) t) ∧
       t.arb = { s.arb with holder := .door, stack := rest } ∧ t.air.dampers = s.air.dampers ∧
       t.air.fan.requested = 0 ∧ t.comp.demand = .auto none ∧ t.level .serviceHold = false ∧
       (t.counter .svc).run = false ∧ t.defr.svcHeater = false ∧ t.defr.heaterDrive = false ∧
       t.counter .pause = s.counter .pause ∧ t.counter .settle = s.counter .settle ∧
       t.doors.pause = (if s.doors.pause = .suspended then .held else s.doors.pause) ∧ t.doors.recs = s.doors.recs ∧
       t.settings = s.settings ∧ t.zones = s.zones ∧ t.scanner = s.scanner ∧ t.link = s.link) ∧
  (∀ (tag : Byte) (mask : Nat) (rest : List SuspFrame) (s : State), Accepting s → SettingsLaw s → HeaterLaw s →
     s.arb.holder = .service → s.arb.stack = .defrost mask :: rest → s.defr.phase = .heat →
     (s.counter .phase).run = false → (s.counter .phase).count ≠ 0 → s.level .heaterStuck = false →
     ∃ t, exec (.release tag) s = .next (replied ⟨0x04#8, tag, [0x04#8]⟩ (.ok [0x04#8]) t) ∧
       t.arb = { s.arb with holder := .defrost, stack := rest } ∧ t.defr.suspended = false ∧
       t.level .serviceHold = false ∧ (t.counter .svc).run = false ∧ t.comp.demand = .stop ∧
       t.defr.frost = s.defr.frost ∧ t.defr.heatBudget = s.defr.heatBudget ∧
       (s.comp.state ≠ .running →
         t.defr.phase = .heat ∧ t.defr.heaterDrive = true ∧
         t.counter .phase = { s.counter .phase with run := true, part := 0 }) ∧
       (s.comp.state = .running → s.comp.guard = .minOn →
         t.defr.phase = .stopWait ∧ t.defr.resumeHeat = true ∧ t.defr.heaterDrive = false ∧
         t.counter .phase = s.counter .phase ∧ t.comp.stopHeld = true) ∧
       t.settings = s.settings ∧ t.zones = s.zones ∧ t.scanner = s.scanner ∧ t.link = s.link)

/-- R110: CLEAR_FAULT ends LOCKOUT, and changes nothing in any other state. -/
def Obligations.ClearFaultEndsLockout : Prop :=
  ∀ (tag : Byte) (s : State), Accepting s → SettingsLaw s →
    (s.comp.state ≠ .lockout →
      exec (.clearFault tag) s = .next (replied ⟨0x04#8, tag, [0x05#8]⟩ (.refuse .notApplicable) s)) ∧
    (s.comp.state = .lockout →
      ∃ t, exec (.clearFault tag) s = .next (replied ⟨0x04#8, tag, [0x05#8]⟩ (.ok [0x05#8]) t) ∧
        t.comp = { s.comp with state := .off, faultCount := 0, fltRounds := 0, guard := .minOff } ∧
        t.bank = s.bank.set .guard ((s.counter .guard).timing (s.effN .minOff)) ∧
        t.level .compFault = false ∧ t.level .compLockout = false ∧
        (∀ i, i ≠ .compFault → i ≠ .compLockout → t.level i = s.level i) ∧
        (∃ drive, t.defr = { s.defr with compState := .off, heaterDrive := drive }) ∧
        t.settings = s.settings ∧ t.zones = s.zones ∧ t.scanner = s.scanner ∧ t.arb = s.arb ∧ t.air = s.air ∧
        t.doors = s.doors ∧ t.link = s.link)

/-- R63, R64: PLAN_COMMIT applies the staged plan at once in IDLE, gives its IDLE entry and raises PLAN_APPLIED; with
any holder it leaves commit_pending yes. -/
def Obligations.PlanCommitByHolder : Prop :=
  ∀ (tag : Byte) (s : State), Accepting s → SettingsLaw s →
    (s.arb.holder ≠ .nobody →
      exec (.planCommit tag) s =
        .next (replied ⟨0x04#8, tag, [0x07#8]⟩ (.ok [0x07#8]) { s with arb := { s.arb with commitPending := true } })) ∧
    (s.arb.holder = .nobody → NoClaimWaits s →
      ∃ t, exec (.planCommit tag) s = .next (replied ⟨0x04#8, tag, [0x07#8]⟩ (.ok [0x07#8]) t) ∧
        t.arb = { s.arb with active := s.arb.staged, commitPending := false } ∧
        t.cond.deltas.getLsbD 24 = true ∧
        (t.damper .fresh).target = (s.arb.staged.idle.freshOpen * 480 + 50) / 100 ∧
        (t.damper .chill).target = (s.arb.staged.idle.chillOpen * 480 + 50) / 100 ∧
        t.air.fan.requested = s.arb.staged.idle.fanDuty ∧
        OpeningsTaken s.arb.staged.idle.freshOpen s.arb.staged.idle.chillOpen s t ∧
        FanAsked s.arb.staged.idle.fanDuty s t ∧ DemandTaken (.auto none) s t ∧
        t.settings = s.settings ∧ t.zones = s.zones ∧ t.scanner = s.scanner ∧ t.doors = s.doors ∧ t.link = s.link)

/-- R41: CURVE_COMMIT. -/
def Obligations.CurveCommitChecksTheStagedCurve : Prop :=
  ∀ (tag : Byte) (s : State), Accepting s →
    (((∀ v ∈ s.scanner.staged, -500 ≤ v ∧ v ≤ 700) ∧
        (s.scanner.staged.Pairwise (· < ·) ∨ s.scanner.staged.Pairwise (· > ·))) →
      exec (.curveCommit tag) s =
        .next (replied ⟨0x04#8, tag, [0x08#8]⟩ (.ok [0x08#8])
          { s with scanner := { s.scanner with active := s.scanner.staged, loaded := true } })) ∧
    (¬ ((∀ v ∈ s.scanner.staged, -500 ≤ v ∧ v ≤ 700) ∧
        (s.scanner.staged.Pairwise (· < ·) ∨ s.scanner.staged.Pairwise (· > ·))) →
      exec (.curveCommit tag) s = .next (replied ⟨0x04#8, tag, [0x08#8]⟩ (.refuse .notApplicable) s))

/-! ### Views, plans, curves, conditions -/

/-- R27, R181: ZONE_VIEW answers the record of the zone named, 21 bytes, or 23 in BOOST, and changes nothing. R65:
PLAN_VIEW. R77: STACK_VIEW. R169: CONDITIONS. They answer what stands and change nothing. -/
def Obligations.ZonePlanStackAndConditionsViews : Prop :=
  (∀ (tag : Byte) (z : Zone) (s : State), Accepting s →
     exec (.zoneView tag (byteOf (zoneCode z))) s =
       .next (replied ⟨0x05#8, tag, [byteOf (zoneCode z)]⟩
         (.ok
           ([byteOf (zoneCode z), byteOf (s.mode z).code] ++ intBytes (s.eff (.setpoint z)) ++ intBytes (s.sEff z) ++
             [byteOf (s.effN (.hOn z)), byteOf (s.effN (.hOff z)), byteOf (s.effN (.weight z)), byteOf (s.wEff z)] ++
             natBytes (s.zone z).debt ++ natBytes (s.zone z).urgency ++
             [flagByte (s.zone z).calling, byteOf (s.zone z).subst.code, flagByte (s.zone z).warmArmed,
               flagByte (s.doorOpen z)] ++
             intBytes ((s.channel (zoneChannel z)).tf.getD (-32768)) ++
             [byteOf (s.channel (zoneChannel z)).state.code] ++
             (if s.mode z = .boost then natBytes (s.counter (.boost z)).count else []))) s) ∧
     (zoneRecord z s).length = (if s.mode z = .boost then 23 else 21) ∧
     ∀ b : Byte, 3 ≤ b.toNat →
       exec (.zoneView tag b) s = .next (replied ⟨0x05#8, tag, [b]⟩ (.refuse .notApplicable) s)) ∧
  (∀ (tag : Byte) (s : State), Accepting s →
     exec (.planView tag 0x00#8) s =
       .next (replied ⟨0x07#8, tag, [0x00#8]⟩
         (.ok ([0x00#8, flagByte s.arb.commitPending] ++
           [s.arb.active.fresh, s.arb.active.chill, s.arb.active.freeze, s.arb.active.idle].flatMap routeRecord)) s) ∧
     exec (.planView tag 0x01#8) s =
       .next (replied ⟨0x07#8, tag, [0x01#8]⟩
         (.ok ([0x01#8, flagByte s.arb.commitPending] ++
           [s.arb.staged.fresh, s.arb.staged.chill, s.arb.staged.freeze, s.arb.staged.idle].flatMap routeRecord)) s) ∧
     (∀ b : Byte, 2 ≤ b.toNat →
       exec (.planView tag b) s = .next (replied ⟨0x07#8, tag, [b]⟩ (.refuse .notApplicable) s)) ∧
     (exec (.stackView tag) s =
       .next (replied ⟨0x0C#8, tag, []⟩
         (.ok
           ((match s.arb.holder with
             | .nobody => [0x00#8, 0xFF#8, 0x00#8, 0xFF#8, 0xFF#8]
             | .slot r =>
               [0x01#8, byteOf (zoneCode r.zone), if r.serving then 0x02#8 else 0x01#8,
                 (match r.phase with
                   | .extend => 0x01#8
                   | .min => if r.fixed then 0x02#8 else 0x00#8),
                 (match r.source with
                   | .plan => 0x00#8
                   | .snapshot => 0x01#8)]
             | .door => [0x02#8, 0xFF#8, 0x03#8, 0xFF#8, 0xFF#8]
             | .defrost => [0x03#8, 0xFF#8, 0x03#8, 0xFF#8, 0xFF#8]
             | .service => [0x04#8, 0xFF#8, 0x03#8, 0xFF#8, 0xFF#8]) ++
             byteOf s.arb.stack.length :: s.arb.stack.flatMap suspFrameRecord)) s)) ∧
     exec (.conditions tag) s =
       .next (replied ⟨0x09#8, tag, []⟩
         (.ok (setBytes s.cond.levels ++ setBytes s.cond.deltas ++ setBytes s.cond.mask ++
           [flagByte s.cond.notePending])) s))

/-- R163, R181: COUNTER_VIEW answers the record of the counter with that id as it stands, and NOT_APPLICABLE to an id
above 25. -/
def Obligations.CounterViewAnswersTheRecord : Prop :=
  ∀ (tag : Byte) (s : State), Accepting s →
    (∀ (n : Nat) (i : CounterId), CounterId.all[n]? = some i →
      exec (.counterView tag (byteOf n)) s =
        .next (replied ⟨0x0E#8, tag, [byteOf n]⟩
          (.ok
            ([byteOf n, byteOf i.mode.code, flagByte (s.counter i).run] ++ natBytes (s.counter i).count ++
              natBytes (if i = .runsec then 60 else (s.counter i).reload) ++
              [flagByte (s.counter i).saturated,
                flagByte (match i with
                  | .runsec => decide (s.defr.compState = .running)
                  | .door d => (s.door d).isOpen
                  | _ => false)] ++
              natBytes (s.counter i).result ++
              [flagByte (s.counter i).resultOverflow, flagByte (s.counter i).firstEdge])) s)) ∧
    CounterId.all.length = 26 ∧
    ∀ b : Byte, 26 ≤ b.toNat →
      exec (.counterView tag b) s = .next (replied ⟨0x0E#8, tag, [b]⟩ (.refuse .notApplicable) s)

/-- R62: PLAN_STAGE brings each field within the route limits, writes the entry into the staged plan alone, and
answers CLAMPED exactly when a field was changed. -/
def Obligations.PlanStageLimitsTheRoute : Prop :=
  ∀ (tag entry : Byte) (a b c d : Half) (s : State), Accepting s →
    (∀ (z : Zone) (r : Route), entry = byteOf (zoneCode z) →
      r.freshOpen = (max 0 (min 100 a.toInt)).toNat → r.chillOpen = (max 0 (min 100 b.toInt)).toNat →
      r.fanDuty = (max 25 (min 100 c.toInt)).toNat →
      r.floor = (if d.toInt = 0 then none else some ((max 900 (min 5400 d.toInt)) / 30 * 30).toNat) →
      exec (.planStage tag entry a b c d) s =
        .next (replied ⟨0x06#8, tag, entry :: (halfBytes a ++ halfBytes b ++ halfBytes c ++ halfBytes d)⟩
          { status :=
              if a.toInt = r.freshOpen ∧ b.toInt = r.chillOpen ∧ c.toInt = r.fanDuty ∧ d.toInt = r.floor.getD 0 then .ok
              else .clamped
            contents := entry :: routeRecord r }
          { s with
            arb :=
              { s.arb with
                staged :=
                  match z with
                  | .fresh => { s.arb.staged with fresh := r }
                  | .chill => { s.arb.staged with chill := r }
                  | .freeze => { s.arb.staged with freeze := r } } })) ∧
    (∀ r : Route, entry = 0x03#8 →
      r.freshOpen = (max 0 (min 100 a.toInt)).toNat → r.chillOpen = (max 0 (min 100 b.toInt)).toNat →
      r.fanDuty = (if c.toInt ≤ 0 then 0 else max 25 (min 100 c.toInt)).toNat →
      r.floor = (if d.toInt = 0 then none else some ((max 900 (min 5400 d.toInt)) / 30 * 30).toNat) →
      exec (.planStage tag entry a b c d) s =
        .next (replied ⟨0x06#8, tag, entry :: (halfBytes a ++ halfBytes b ++ halfBytes c ++ halfBytes d)⟩
          { status :=
              if a.toInt = r.freshOpen ∧ b.toInt = r.chillOpen ∧ c.toInt = r.fanDuty ∧ d.toInt = r.floor.getD 0 then .ok
              else .clamped
            contents := entry :: routeRecord r }
          { s with arb := { s.arb with staged := { s.arb.staged with idle := r } } })) ∧
    (4 ≤ entry.toNat →
      exec (.planStage tag entry a b c d) s =
        .next (replied ⟨0x06#8, tag, entry :: (halfBytes a ++ halfBytes b ++ halfBytes c ++ halfBytes d)⟩
          (.refuse .notApplicable) s))

/-- R40: CURVE_LOAD writes its values, as sent, into the staged curve from the start index on, if they fit. -/
def Obligations.CurveLoadWritesTheStagedCurve : Prop :=
  ∀ (tag start : Byte) (values : List Half) (s : State), Accepting s → s.scanner.staged.length = 17 →
    1 ≤ values.length → values.length ≤ 17 →
    (start.toNat + values.length ≤ 17 →
      ∃ staged : List Int,
        exec (.curveLoad tag start values) s =
          .next (replied ⟨0x08#8, tag, start :: values.flatMap halfBytes⟩ (.ok [start, byteOf values.length])
            { s with scanner := { s.scanner with staged := staged } }) ∧
        staged.length = 17 ∧
        ∀ k : Nat, staged[k]? =
          if start.toNat ≤ k ∧ k < start.toNat + values.length then (values.map BitVec.toInt)[k - start.toNat]?
          else s.scanner.staged[k]?) ∧
    (17 < start.toNat + values.length →
      exec (.curveLoad tag start values) s =
        .next (replied ⟨0x08#8, tag, start :: values.flatMap halfBytes⟩ (.refuse .notApplicable) s))

/-- R169: CLEAR_DELTAS makes the deltas of its set clear, touches no level, and re-evaluates ATTN (R171); the NOTE
pending mark stays. R170: NOTIFY_MASK replaces the mask whole, re-evaluates ATTN (R171), and makes a NOTE pending for
a bit that goes from 0 to 1 while the delta of its condition is set (R172). -/
def Obligations.ClearDeltasAndNotifyMask : Prop :=
  (∀ (tag : Byte) (v : Set32) (s : State), Accepting s →
     ∃ deltas attn,
       exec (.clearDeltas tag v) s =
         .next (replied ⟨0x0A#8, tag, setBytes v⟩ (.ok (setBytes deltas))
           { s with cond := { s.cond with deltas := deltas, attn := attn } }) ∧
       (∀ n : Nat, n ≤ 26 → deltas.getLsbD n = (s.cond.deltas.getLsbD n && !v.getLsbD n)) ∧
       (∀ n : Nat, 27 ≤ n → deltas.getLsbD n = s.cond.deltas.getLsbD n) ∧
       (attn = true ↔ ∃ n : Nat, n ≤ 26 ∧ deltas.getLsbD n = true ∧ s.cond.mask.getLsbD n = true)) ∧
  (∀ (tag : Byte) (m : Set32) (s : State), Accepting s →
     ∃ attn note,
       exec (.notifyMask tag m) s =
         .next (replied ⟨0x0B#8, tag, setBytes m⟩ (.ok (setBytes m))
           { s with cond := { s.cond with mask := m, attn := attn, notePending := note } }) ∧
       (attn = true ↔ ∃ n : Nat, n ≤ 26 ∧ s.cond.deltas.getLsbD n = true ∧ m.getLsbD n = true) ∧
       (note = true ↔ s.cond.notePending = true ∨ ∃ n : Nat, n ≤ 26 ∧ m.getLsbD n = true ∧
         s.cond.mask.getLsbD n = false ∧ s.cond.deltas.getLsbD n = true))

/-! ### SERVICE_DRIVE -/

/-- R76, R113: the SERVICE_DRIVE requests that are refused, in the order of the checks, apply no field. R95, R96,
R112, R113, R114: an accepted SERVICE_DRIVE sets the damper targets, the requested duty, the demand and the heater
command by its fields, answers the outputs as they then stand, and CLAMPED exactly when a field was limited. R82, R83,
R84, R85: a damper takes its target or its homing by its state. R88, R89, R93: the fan takes its duty by its state.
R101, R103, R105: the compressor takes its demand by its state. A field that keeps leaves its output alone. -/
def Obligations.ServiceDriveByItsFields : Prop :=
  (∀ (tag : Byte) (a b c d e : Half) (s : State), Accepting s →
     (s.arb.holder ≠ .service →
       exec (.serviceDrive tag a b c d e) s =
         .next (replied ⟨0x0D#8, tag, halfBytes a ++ halfBytes b ++ halfBytes c ++ halfBytes d ++ halfBytes e⟩
           (.refuse .notApplicable) s)) ∧
     (s.arb.holder = .service → s.comp.state = .lockout → 0 < d.toInt →
       exec (.serviceDrive tag a b c d e) s =
         .next (replied ⟨0x0D#8, tag, halfBytes a ++ halfBytes b ++ halfBytes c ++ halfBytes d ++ halfBytes e⟩
           (.refuse .notApplicable) s)) ∧
     (s.arb.holder = .service → ¬ (s.comp.state = .lockout ∧ 0 < d.toInt) →
       (0 < e.toInt ∨ (e.toInt = -32768 ∧ s.defr.svcHeater = true)) →
       (s.comp.state = .running ∨ 0 < d.toInt ∨ (d.toInt = -32768 ∧ ∃ n, s.comp.demand = .fixed n)) →
       exec (.serviceDrive tag a b c d e) s =
         .next (replied ⟨0x0D#8, tag, halfBytes a ++ halfBytes b ++ halfBytes c ++ halfBytes d ++ halfBytes e⟩
           (.refuse .busy) s))) ∧
  (∀ (tag : Byte) (a b c d e : Half) (s : State), Accepting s → SettingsLaw s → s.arb.holder = .service →
     ¬ (s.comp.state = .lockout ∧ 0 < d.toInt) →
     ¬ ((0 < e.toInt ∨ (e.toInt = -32768 ∧ s.defr.svcHeater = true)) ∧
       (s.comp.state = .running ∨ 0 < d.toInt ∨ (d.toInt = -32768 ∧ ∃ n, s.comp.demand = .fixed n))) →
     ∃ t, exec (.serviceDrive tag a b c d e) s =
         .next (replied ⟨0x0D#8, tag, halfBytes a ++ halfBytes b ++ halfBytes c ++ halfBytes d ++ halfBytes e⟩
           { status :=
               if (a.toInt = -32768 ∨ (-1 ≤ a.toInt ∧ a.toInt ≤ 480)) ∧
                   (b.toInt = -32768 ∨ (-1 ≤ b.toInt ∧ b.toInt ≤ 480)) ∧
                   (c.toInt = -32768 ∨ c.toInt = 0 ∨ (25 ≤ c.toInt ∧ c.toInt ≤ 100)) ∧
                   (d.toInt = -32768 ∨ d.toInt = 0 ∨
                     (s.eff .nMin ≤ d.toInt ∧ d.toInt ≤ s.eff .nMax ∧ d.toInt % 30 = 0)) ∧
                   (e.toInt = -32768 ∨ e.toInt = 0 ∨ e.toInt = 1) then .ok
               else .clamped
             contents := driveRecord t } t) ∧
       (t.damper .fresh).target =
         (if a.toInt = -32768 then (s.damper .fresh).target else (max 0 (min 480 a.toInt)).toNat) ∧
       (t.damper .chill).target =
         (if b.toInt = -32768 then (s.damper .chill).target else (max 0 (min 480 b.toInt)).toNat) ∧
       (a.toInt = -1 → (t.damper .fresh).state = .homing) ∧ (b.toInt = -1 → (t.damper .chill).state = .homing) ∧
       (∀ (x : Half) (m : Damper), (m = .fresh ∧ x = a ∨ m = .chill ∧ x = b) →
         (x.toInt = -32768 → t.damper m = s.damper m) ∧
         (x.toInt = -1 → DamperRec.Homes (s.damper m) (t.damper m)) ∧
         (x.toInt ≠ -32768 → x.toInt ≠ -1 →
           DamperRec.Takes (max 0 (min 480 x.toInt)).toNat (s.damper m) (t.damper m))) ∧
       (c.toInt = -32768 →
         t.air.fan = s.air.fan ∧ t.counter .tach = s.counter .tach ∧ t.counter .fantime = s.counter .fantime) ∧
       (c.toInt ≠ -32768 → FanAsked (if c.toInt ≤ 0 then 0 else (max 25 (min 100 c.toInt)).toNat) s t) ∧
       (d.toInt = -32768 → CompKeepsTime s.comp s t) ∧
       (d.toInt ≠ -32768 → DemandTaken t.comp.demand s t) ∧
       t.air.fan.requested =
         (if c.toInt = -32768 then s.air.fan.requested
           else if c.toInt ≤ 0 then 0 else (max 25 (min 100 c.toInt)).toNat) ∧
       t.comp.demand =
         (if d.toInt = -32768 then s.comp.demand
           else if d.toInt ≤ 0 then .stop
           else .fixed ((max (s.eff .nMin) (min (s.eff .nMax) d.toInt)).toNat / 30 * 30)) ∧
       t.defr.svcHeater = (if e.toInt = -32768 then s.defr.svcHeater else decide (0 < e.toInt)) ∧
       t.defr.heaterDrive = (t.defr.svcHeater && !s.level .heaterStuck && decide (t.defr.compState ≠ .running)) ∧
       t.settings = s.settings ∧ t.zones = s.zones ∧ t.scanner = s.scanner ∧ t.arb = s.arb ∧ t.doors = s.doors ∧
       t.cond = s.cond ∧ t.link = s.link)

/-! ### The scan round and the zones -/

/-- R30, R44, with the channel rules R31 to R39 as `channelRound` gives them: a round completion gives every channel
its record for the round, decides the two line levels by at least 5 of the samples, begins a new round, and rewinds
SCAN. R31 to R37: a round of a channel that is not LOST: a bad sample (OPEN, SHORT, or more than 100 dC from Tf) holds
Tf and counts, the fifth in a row makes the channel LOST; another sample makes it VALID and is filtered. R36: a round
in LOST makes no STEP test, holds the filter and counts the second; an in-range sample counts toward the return and
another sets that count to 0; the fifth in a row returns the channel with its filter at that sample. R39: a changed
shift is taken before the round is judged, A being set to Tf × 2^s. R35, R36: after a round the SENSOR_LOST level of
each channel tells whether its record is LOST. R38, R44: what the round is then handed to, in the model's order (log
10): HEATER_SENSE, COMP_FLT, the three zones, COIL, AMBIENT. -/
def Obligations.RoundCompletionTakesTheRound : Prop :=
  (∀ (sets : List SampleSet) (s : State), (s.counter .scan).run = true → s.link.requests = [] →
     ∃ t, exec (.roundCompletion sets) s = .next t ∧
       (∀ c, t.channel c =
         channelRound s.scanner.active (s.effN (.filterShift c)) (((sets.map fun x => x.codes.get c).sum + 4) / 8)
           (s.channel c)) ∧
       t.scanner.heaterSense = some (decide (5 ≤ (sets.filter fun x => x.heaterSense).length)) ∧
       t.scanner.compFlt = some (decide (5 ≤ (sets.filter fun x => x.compFlt).length)) ∧
       t.scanner.sets = [] ∧ t.scanner.active = s.scanner.active ∧ t.scanner.staged = s.scanner.staged ∧
       t.scanner.loaded = s.scanner.loaded ∧
       t.counter .scan = { s.counter .scan with count := (s.counter .scan).reload, part := 0 } ∧
       t.pending = s.pending) ∧
  (∀ (curve : List Int) (code : Nat) (r : ChannelRec), r.state ≠ .lost → (r.state = .valid → r.bad = 0) →
     (∀ t, ¬ (code ≤ 31 ∨ 4064 ≤ code) → convert curve code = t →
       (r.tf = none → channelRound curve r.shift code r =
         { r with state := .valid, bad := 0, acc := some (t * 2 ^ r.shift), tf := some t }) ∧
       (∀ a tf, r.acc = some a → r.tf = some tf → |t - tf| ≤ 100 →
         channelRound curve r.shift code r =
           { r with
             state := .valid
             bad := 0
             acc := some (a - a / 2 ^ r.shift + t)
             tf := some ((a - a / 2 ^ r.shift + t) / 2 ^ r.shift) })) ∧
     ((code ≤ 31 ∨ 4064 ≤ code ∨ ∃ tf, r.tf = some tf ∧ 100 < |convert curve code - tf|) →
       channelRound curve r.shift code r =
         if r.bad + 1 < 5 then { r with state := .suspect, bad := r.bad + 1 }
         else { r with state := .lost, bad := 5, good := 0, lost := 0 })) ∧
  (∀ (curve : List Int) (shift code : Nat) (r : ChannelRec),
     (r.state = .lost →
       ((code ≤ 31 ∨ 4064 ≤ code) →
         channelRound curve r.shift code r = { r with good := 0, lost := min 65535 (r.lost + 1) }) ∧
       (¬ (code ≤ 31 ∨ 4064 ≤ code) → r.good < 4 →
         channelRound curve r.shift code r = { r with good := r.good + 1, lost := min 65535 (r.lost + 1) }) ∧
       (∀ t, ¬ (code ≤ 31 ∨ 4064 ≤ code) → 4 ≤ r.good → convert curve code = t →
         channelRound curve r.shift code r =
           { r with
             state := .valid, bad := 0, good := 0, lost := 0, acc := some (t * 2 ^ r.shift), tf := some t })) ∧
     (r.shift ≠ shift →
       (r.tf = none → channelRound curve shift code r = channelRound curve shift code { r with shift := shift }) ∧
       ∀ t, r.tf = some t →
         channelRound curve shift code r =
           channelRound curve shift code { r with shift := shift, acc := some (t * 2 ^ shift) })) ∧
  (∀ (sets : List SampleSet) (s w : State), (s.counter .scan).run = true →
     w = updateChannels sets
       { s with
         bank := s.bank.set .scan { s.counter .scan with count := (s.counter .scan).reload, part := 0 } } →
     (∀ c, w.level (.sensorLost c) = decide ((w.channel c).state = .lost)) ∧
     ∀ sense flt : Bool, sense = decide (5 ≤ (sets.filter fun x => x.heaterSense).length) →
       flt = decide (5 ≤ (sets.filter fun x => x.compFlt).length) →
       exec (.roundCompletion sets) s =
         .next (finish (onAmbientSample (coilSample (zoneSample .freeze (zoneSample .chill (zoneSample .fresh
           (onCompFlt flt (onHeaterSenseRound sense
             { w with scanner := { w.scanner with heaterSense := some sense, compFlt := some flt, sets := [] } })))))))))

/-- R13, R14, R15: a VALID sample of a zone with no substitution whose temperature lies inside its band adds the
error, limited to -100..100, to the debt, which stays in 0..60000, and gives the urgency floor(D × W_eff / 16) limited
to 65535; calling stays. Stated of the Zone Table's own effect on a state whose alarms are not touched by it. R12, R18
to R23: what a sample event does to a zone, by the channel's state and the substitution: a trusted sample, one without
a temperature (log 16), the end of a substitution, a hold, the hold window, the entry to FORCE_CALL, TIMED or IGNORE,
a change of policy, and the TIMED rhythm; the alarms are evaluated after it (log 11, log 33). In OFF only subst moves.
R14, R26: at S_eff + H_ON and above a zone begins to call; at S_eff − H_OFF and below a calling one stops, with D 0
and the warm alarm armed. R17: a change of calling reaches the Arbiter, which grants a slot if nobody holds the path
and ends the zone's own slot in EXTEND (R54); otherwise calling alone changes. -/
def Obligations.TrustedSampleAddsTheError : Prop :=
  (∀ (z : Zone) (tf : Int) (s : State), (s.zone z).debt ≤ 60000 →
     ((s.zone z).subst = .absent ∨ (s.zone z).subst = .holdWindow ∨ (s.zone z).subst = .ignore) →
     ((s.zone z).calling = true → s.sEff z - s.eff (.hOff z) < tf) →
     ((s.zone z).calling = false → tf < s.sEff z + s.eff (.hOn z)) →
     trustedSample z tf s =
       { s with
         zones := s.zones.set z
           { s.zone z with
             debt := (max 0 (min 60000 ((s.zone z).debt + max (-100) (min 100 (tf - s.sEff z))))).toNat
             urgency := min 65535
               ((max 0 (min 60000 ((s.zone z).debt + max (-100) (min 100 (tf - s.sEff z))))).toNat * s.wEff z / 16) } }) ∧
  (∀ (z : Zone) (c : ChannelRec) (r : ZoneRec) (s : State), c = s.channel (zoneChannel z) → r = s.zone z →
     (s.mode z ≠ .off →
       (∀ t, c.state = .valid → c.tf = some t → (r.subst = .absent ∨ r.subst = .holdWindow) →
         zoneSample z s = alarmSample z (trustedSample z t { s with zones := s.zones.set z { r with subst := .absent } })) ∧
       (c.state = .valid → c.tf = none → (r.subst = .absent ∨ r.subst = .holdWindow) →
         zoneSample z s = alarmSample z { s with zones := s.zones.set z { r with subst := .absent } }) ∧
       (c.state = .valid → (r.subst = .forceCall ∨ r.subst = .timed ∨ r.subst = .ignore) →
         zoneSample z s =
           alarmSample z { s with zones := s.zones.set z { r with subst := .absent, debt := 0, urgency := 0 } }) ∧
       (c.state = .suspect → zoneSample z s = alarmSample z s) ∧
       (c.state = .lost → (r.subst = .absent ∨ r.subst = .holdWindow) → c.lost < s.effN .lossHold →
         zoneSample z s = alarmSample z { s with zones := s.zones.set z { r with subst := .holdWindow } }) ∧
       (c.state = .lost → ((r.subst = .absent ∨ r.subst = .holdWindow) → s.effN .lossHold ≤ c.lost) →
         (s.eff (.lossPolicy z) = 0 → r.subst ≠ .forceCall →
           zoneSample z s =
             alarmSample z (setCalling z true
               { s with zones := s.zones.set z { r with subst := .forceCall, urgency := s.effN .uLost } })) ∧
         (s.eff (.lossPolicy z) = 1 → r.subst ≠ .timed →
           (s.slotOpen z = true →
             zoneSample z s =
               alarmSample z { s with zones := s.zones.set z { r with subst := .timed, urgency := s.effN .uLost } }) ∧
           (s.slotOpen z = false →
             zoneSample z s =
               alarmSample z (setCalling z (decide (s.effN .lostPeriod ≤ (s.counter (.wait z)).count))
                 { s with zones := s.zones.set z { r with subst := .timed, urgency := s.effN .uLost } }))) ∧
         (s.eff (.lossPolicy z) = 2 → r.subst ≠ .ignore →
           zoneSample z s =
             alarmSample z (setCalling z false
               { s with zones := s.zones.set z { r with subst := .ignore, debt := 0, urgency := 0 } })) ∧
         ((s.eff (.lossPolicy z) = 0 ∧ r.subst = .forceCall ∨ s.eff (.lossPolicy z) = 2 ∧ r.subst = .ignore) →
           zoneSample z s = alarmSample z s) ∧
         (s.eff (.lossPolicy z) = 1 → r.subst = .timed →
           zoneSample z s =
             alarmSample z
               (if r.calling = false ∧ s.slotOpen z = false ∧ s.effN .lostPeriod ≤ (s.counter (.wait z)).count then
                 setCalling z true s
               else s)))) ∧
     (s.mode z = .off →
       ∃ p, zoneSample z s = alarmSample z { s with zones := s.zones.set z { r with subst := p } } ∧
         (c.state = .valid → p = .absent) ∧ (c.state = .suspect → p = r.subst) ∧
         (c.state = .lost → (r.subst = .absent ∨ r.subst = .holdWindow) → c.lost < s.effN .lossHold →
           p = .holdWindow) ∧
         (c.state = .lost → ((r.subst = .absent ∨ r.subst = .holdWindow) → s.effN .lossHold ≤ c.lost) →
           (s.eff (.lossPolicy z) = 0 → p = .forceCall) ∧ (s.eff (.lossPolicy z) = 1 → p = .timed) ∧
           (s.eff (.lossPolicy z) = 2 → p = .ignore)))) ∧
  (∀ (z : Zone) (tf : Int) (debt : Nat) (r : ZoneRec) (s : State), r = s.zone z → r.debt ≤ 60000 →
     ((debt : Int) = max 0 (min 60000 (r.debt + max (-100) (min 100 (tf - s.sEff z))))) →
     (r.subst = .absent → r.calling = false → s.sEff z + s.eff (.hOn z) ≤ tf →
       trustedSample z tf s =
         setCalling z true
           { s with zones := s.zones.set z { r with debt := debt, urgency := min 65535 (debt * s.wEff z / 16) } }) ∧
     (r.subst = .absent → r.calling = true → tf ≤ s.sEff z - s.eff (.hOff z) →
       trustedSample z tf s =
         setCalling z false { s with zones := s.zones.set z { r with debt := 0, warmArmed := true, urgency := 0 } }) ∧
     (∀ b : Bool,
       (r.calling = b → setCalling z b s = s) ∧
       (r.calling ≠ b →
         (b = true → s.arb.holder ≠ .nobody) →
         (b = false → ∀ q, s.arb.holder = .slot q → ¬ (q.zone = z ∧ q.phase = .extend ∧ q.serving = true)) →
         setCalling z b s = { s with zones := s.zones.set z { r with calling := b } }) ∧
       (r.calling = false → b = true → s.arb.holder = .nobody → NoClaimWaits s →
         (setCalling z b s).zones = s.zones.set z { r with calling := true } ∧
         ∃ q, (setCalling z b s).arb.holder = .slot q ∧ ((s.zone q.zone).calling = true ∨ q.zone = z)) ∧
       (∀ q, r.calling = true → b = false → s.arb.holder = .slot q → q.zone = z → q.phase = .extend →
         q.serving = true → NoClaimWaits s → (∀ y, y ≠ z → (s.zone y).calling = false) →
         (setCalling z b s).zones = s.zones.set z { r with calling := false } ∧
         (setCalling z b s).arb.holder = .nobody ∧ ((setCalling z b s).counter .slot).run = false ∧
         ((setCalling z b s).counter (.wait z)).run = true ∧ ((setCalling z b s).counter (.wait z)).count = 0)))

/-- R8, R183: the BOOST expiry returns the MODE item to following the profile: the zone comes back in NORMAL with its
warm alarm disarmed, and D, calling and substitution as they were. The item that follows keeps no written value (log
18). -/
def Obligations.BoostExpiryReturnsToNormal : Prop :=
  ∀ (z : Zone) (s : State), Settled s → SettingsLaw s → (s.counter (.boost z)).run = true → s.mode z = .boost →
    ∃ t, exec (.boostExpiry z) s = .next (startNote t) ∧
      t.settings = { s.settings with written := dropWritten s.settings.written (0x13 + zoneCode z) } ∧
      t.mode z = .normal ∧ (t.counter (.boost z)).run = false ∧ (t.counter (.boost z)).count = 0 ∧
      t.zones = s.zones.set z { s.zone z with warmArmed := false, urgency := t.urgencyNow z } ∧
      (∀ i, i ≠ .boost z → i ≠ .alm z → t.counter i = s.counter i) ∧
      t.scanner = s.scanner ∧ t.arb = s.arb ∧ t.air = s.air ∧ t.comp = s.comp ∧ t.defr = s.defr ∧
      t.doors = s.doors ∧ t.link = s.link

/-! ### Slots and the service hold -/

/-- R53: the expiry of SLOT in MIN of an ordinary slot whose zone is calling, with SLOT_MAX above SLOT_MIN, begins
EXTEND: SLOT is restarted with the difference, and nothing else changes. R53, R54, R55, R56, R58: the expiry of SLOT
that ends the slot stops SLOT or leaves it to the next slot, clears and starts the zone's WAIT counter, ends a TIMED
zone's call, and arbitration settles the holder. Stated for a state in which no other zone is calling and the zone
itself has stopped calling, so that IDLE is entered (R60). R53, R54, R55, R56, R58: every expiry of SLOT that ends the
slot. It ends at full length in EXTEND, for a fixed slot, and in MIN with the zone calling and no length left for
EXTEND; with the zone not calling in MIN it does not. SLOT has stopped, WAIT runs from 0 and a TIMED zone has stopped
calling (R21), which is the state `w` that arbitration reads (R59). It grants a slot or enters IDLE. After a full
length another calling zone is chosen, and the zone itself is granted again where it alone is calling still. R50, R56,
R58, R122, R144: the same ends of a slot whatever waits. Arbitration runs in the state that the end leaves
(`State.slotGone`), and the holder report then makes the claims that wait (`ClaimsMade`). -/
def Obligations.SlotExpiryExtendsOrEnds : Prop :=
  (∀ (r : Slot) (s : State), Settled s → s.arb.holder = .slot r → r.phase = .min → r.fixed = false →
     (s.zone r.zone).calling = true → s.eff .slotMin < s.eff (.slotMax r.zone) → (s.counter .slot).run = true →
     exec .slotExpiry s =
       .next (startNote
         { s with
           arb := { s.arb with holder := .slot { r with phase := .extend } }
           bank := s.bank.set .slot
             ((s.counter .slot).timing (s.eff (.slotMax r.zone) - s.eff .slotMin).toNat) })) ∧
  (∀ (r : Slot) (s : State), Settled s → SettingsLaw s → StackLaw s → NoClaimWaits s → s.arb.holder = .slot r →
     (s.counter .slot).run = true → (∀ z, (s.zone z).calling = false) → s.arb.commitPending = false →
     ∃ t, exec .slotExpiry s = .next (startNote t) ∧
       t.arb = { s.arb with holder := .nobody, fullEnd := none } ∧
       (t.counter .slot).run = false ∧ (t.counter (.wait r.zone)).run = true ∧ (t.counter (.wait r.zone)).count = 0 ∧
       (∀ z, z ≠ r.zone → t.counter (.wait z) = s.counter (.wait z)) ∧
       t.air.fan.requested = s.arb.active.idle.fanDuty ∧
       (t.damper .fresh).target = (s.arb.active.idle.freshOpen * 480 + 50) / 100 ∧
       (t.damper .chill).target = (s.arb.active.idle.chillOpen * 480 + 50) / 100 ∧ t.comp.demand = .auto none ∧
       t.settings = s.settings ∧ t.zones = s.zones ∧ t.scanner = s.scanner ∧ t.doors = s.doors ∧ t.link = s.link) ∧
  (∀ (r : Slot) (full : Bool) (w s : State), Settled s → SettingsLaw s → NoClaimWaits s → s.arb.holder = .slot r →
     (s.counter .slot).run = true →
     (full = true ∧
         (r.phase = .extend ∨ r.fixed = true ∨
           (s.zone r.zone).calling = true ∧ s.eff (.slotMax r.zone) ≤ s.eff .slotMin) ∨
       full = false ∧ r.phase = .min ∧ r.fixed = false ∧ (s.zone r.zone).calling = false) →
     w =
       { s with
         arb := { s.arb with holder := .nobody, fullEnd := if full then some r.zone else none }
         zones :=
           if (s.zone r.zone).subst = .timed then s.zones.set r.zone { s.zone r.zone with calling := false } else s.zones
         bank :=
           (s.bank.set .slot { s.counter .slot with run := false, count := 0, part := 0 }).set (.wait r.zone)
             { s.counter (.wait r.zone) with run := true, count := 0, saturated := false, part := 0 } } →
     ∃ t, exec .slotExpiry s = .next (startNote t) ∧
       (w.choice = none → IdleEntered w t) ∧ (∀ z, w.choice = some z → SlotGranted z w t) ∧
       (full = true → (∃ y, y ≠ r.zone ∧ (s.zone y).calling = true) →
         ∃ q, t.arb.holder = .slot q ∧ q.zone ≠ r.zone ∧ (s.zone q.zone).calling = true ∧
           (t.counter (.wait r.zone)).run = true ∧ (t.counter (.wait r.zone)).count = 0) ∧
       ((∀ y, y ≠ r.zone → (s.zone y).calling = false) →
         ((s.zone r.zone).calling = true → (s.zone r.zone).subst ≠ .timed →
           ∃ q, t.arb.holder = .slot q ∧ q.zone = r.zone ∧ q.phase = .min) ∧
         (((s.zone r.zone).calling = false ∨ (s.zone r.zone).subst = .timed) → t.arb.holder = .nobody)) ∧
       (∀ z, z ≠ r.zone → (∀ q, t.arb.holder = .slot q → q.zone ≠ z) →
         t.counter (.wait z) = s.counter (.wait z)) ∧
       t.zones = w.zones ∧ t.settings = s.settings ∧ t.scanner = s.scanner ∧ t.doors = s.doors ∧ t.link = s.link) ∧
  (∀ (r : Slot) (full : Bool) (w s : State), Settled s → SettingsLaw s → HeaterLaw s → ResumeLaw s →
     s.arb.holder = .slot r → (s.counter .slot).run = true →
     (full = true ∧
         (r.phase = .extend ∨ r.fixed = true ∨
           (s.zone r.zone).calling = true ∧ s.eff (.slotMax r.zone) ≤ s.eff .slotMin) ∨
       full = false ∧ r.phase = .min ∧ r.fixed = false ∧ (s.zone r.zone).calling = false) →
     w =
       State.slotGone r.zone (if full then some r.zone else none)
         { s with bank := s.bank.set .slot { s.counter .slot with run := false, count := 0, part := 0 } } →
     ∃ u t, exec .slotExpiry s = .next (startNote t) ∧ Arbitrated w u ∧ PathOnly w u ∧ ClaimsMade u t)

/-- R59: the choice of arbitration. It names a candidate: a calling zone, other than the one whose full-length slot
has just ended if another zone calls. With a candidate at or above AGE_LIMIT it has waited longest of those, and
otherwise no candidate has a greater urgency. None is chosen exactly when no zone calls. R59: the candidates are the
calling zones, without the one whose full-length slot has just ended if another calls. Of the candidates that hold the
greatest value compared, the one chosen comes first in zone order from the successor of last_served on. -/
def Obligations.ArbitrationChoosesByAgeThenUrgency : Prop :=
  (∀ s : State,
     (s.choice = none ↔ ∀ z, (s.zone z).calling = false) ∧
     ∀ z, s.choice = some z →
       (s.zone z).calling = true ∧
       (s.arb.fullEnd = some z → ∀ y, (s.zone y).calling = true → y = z) ∧
       ((∃ y ∈ s.candidates, s.effN .ageLimit ≤ (s.counter (.wait y)).count) →
         s.effN .ageLimit ≤ (s.counter (.wait z)).count ∧
         ∀ y ∈ s.candidates, (s.counter (.wait y)).count ≤ (s.counter (.wait z)).count) ∧
       ((∀ y ∈ s.candidates, (s.counter (.wait y)).count < s.effN .ageLimit) →
         ∀ y ∈ s.candidates, (s.zone y).urgency ≤ (s.zone z).urgency)) ∧
  (∀ (order : List Zone) (s : State),
     order = (match s.arb.lastServed with
       | .fresh => [.chill, .freeze, .fresh]
       | .chill => [.freeze, .fresh, .chill]
       | .freeze => [.fresh, .chill, .freeze]) →
     (∀ y, y ∈ s.candidates ↔
       (s.zone y).calling = true ∧ (s.arb.fullEnd = some y → ∀ x, (s.zone x).calling = true → x = y)) ∧
     ∀ z y, s.choice = some z → y ∈ s.candidates →
       ((∃ x ∈ s.candidates, s.effN .ageLimit ≤ (s.counter (.wait x)).count) →
         (s.counter (.wait y)).count = (s.counter (.wait z)).count → order.idxOf z ≤ order.idxOf y) ∧
       ((∀ x ∈ s.candidates, (s.counter (.wait x)).count < s.effN .ageLimit) →
         (s.zone y).urgency = (s.zone z).urgency → order.idxOf z ≤ order.idxOf y))

/-- R75: the SVC expiry ends the hold as a RELEASE does; with a SLOT frame on the stack that the mask or a zone no
longer calling drops, the slot ends (R71). Stated for a frame whose mask lacks TIME, with no zone calling. R70, R71,
R72, R75, R122, R136, R144: the SVC expiry works on the stack as a RELEASE does (`PathReleased`), whatever lies on it
and whatever claim waits. -/
def Obligations.SvcExpiryEndsTheHold : Prop :=
  (∀ (mask : Nat) (z : Zone) (p : SlotPhase) (fixed : Bool) (remaining : Nat) (route : Option Route) (s : State),
     Settled s → SettingsLaw s → NoClaimWaits s → s.arb.holder = .service →
     s.arb.stack = [.slot mask z p fixed remaining route] → (mask = 0 ∨ mask = 1) → (∀ y, (s.zone y).calling = false) →
     s.arb.commitPending = false → (s.counter .svc).run = true →
     ∃ t, exec .svcExpiry s = .next (startNote t) ∧
       t.arb = { s.arb with holder := .nobody, stack := [], fullEnd := none } ∧
       (t.counter .svc).run = false ∧ t.level .serviceHold = false ∧ t.defr.svcHeater = false ∧
       t.defr.heaterDrive = false ∧ (t.counter (.wait z)).run = true ∧ (t.counter (.wait z)).count = 0 ∧
       (∀ y, y ≠ z → t.counter (.wait y) = s.counter (.wait y)) ∧
       t.settings = s.settings ∧ t.zones = s.zones ∧ t.scanner = s.scanner ∧ t.doors = s.doors ∧ t.link = s.link) ∧
  (∀ s : State, Settled s → SettingsLaw s → HeaterLaw s → ResumeLaw s → s.arb.holder = .service →
     (s.counter .svc).run = true →
     ((∃ mask rest, s.arb.stack = .defrost mask :: rest) →
       (s.counter .phase).run = false ∧ (s.counter .phase).count ≠ 0) →
     ∃ t, exec .svcExpiry s = .next (startNote t) ∧ PathReleased s t ∧ (t.counter .svc).run = false ∧
       t.level .serviceHold = false ∧ t.defr.svcHeater = false)

/-! ### Dampers and fan -/

/-- R82, R84, R86: a move that ends, and a homing that ends with target 0, while no slot holds the path. R52, R89: the
completion that leaves both dampers at a switching slot's targets ends SWITCHING: the slot serves, SLOT starts from
its count, and a stopped fan is kicked toward the route's duty. Stated where no claim waits. R50, R52, R86, R122,
R144: a completion of either damper, the end of a move or of a homing with target 0, under a slot. The one that leaves
both dampers at a switching slot's targets makes it serve: SLOT runs from its count, the fan is asked for the route's
duty and the demand is given; the holder report then makes the claims that wait (`ClaimsMade`). Any other settles its
damper alone. -/
def Obligations.DamperMoveAndHomingEnd : Prop :=
  (∀ (d : Damper) (s : State), Settled s → (∀ r, s.arb.holder ≠ .slot r) →
     ((s.damper d).state = .moving →
       exec (.damperMoveComplete d) s =
         .next (startNote
           { s with
             air :=
               { s.air with
                 dampers := s.air.dampers.set d
                   { s.damper d with
                     state := .ready
                     position := some (s.damper d).target
                     moveCount := (s.damper d).moveCount + 1
                     homeDue := (s.damper d).homeDue || decide ((s.damper d).moveCount + 1 = 100)
                     stepPart := 0 } } })) ∧
     ((s.damper d).state = .homing →
       exec (.homingEnd d) s =
         .next (startNote
           { s with
             air :=
               { s.air with
                 dampers := s.air.dampers.set d
                   { s.damper d with
                     state := if (s.damper d).target = 0 then .ready else .moving
                     position := some 0
                     homingSteps := 0
                     moveCount := 0
                     homeDue := false
                     stepPart := 0 } } }))) ∧
  (∀ (r : Slot) (s : State), Settled s → SettingsLaw s → NoClaimWaits s → s.arb.holder = .slot r → r.serving = false →
     (s.damper .fresh).state = .moving → (s.damper .chill).state = .ready →
     (s.damper .chill).position = some (s.damper .chill).target → (s.counter .slot).run = false →
     (s.counter .slot).count ≠ 0 → s.air.fan.state = .stopped → r.route.fanDuty ≠ 0 →
     ∃ t, exec (.damperMoveComplete .fresh) s = .next (startNote t) ∧
       t.arb = { s.arb with holder := .slot { r with serving := true } } ∧
       t.counter .slot = { s.counter .slot with run := true, part := 0 } ∧
       t.air.fan = { s.air.fan with state := .kick, requested := r.route.fanDuty, drive := 255, overflowRun := 0,
                                    proven := false } ∧
       t.counter .fantime = (s.counter .fantime).timing 2 ∧ (t.counter .tach).run = true ∧
       t.comp.demand = .auto r.route.floor ∧
       t.settings = s.settings ∧ t.zones = s.zones ∧ t.scanner = s.scanner ∧ t.doors = s.doors ∧ t.link = s.link) ∧
  (∀ (c : Instr) (d : Damper) (r : Slot) (w s : State), Settled s → SettingsLaw s → HeaterLaw s → ResumeLaw s →
     s.arb.holder = .slot r →
     (c = .damperMoveComplete d ∧ (s.damper d).state = .moving ∧
         w =
           { s with
             air :=
               { s.air with
                 dampers := s.air.dampers.set d
                   { s.damper d with
                     state := .ready, position := some (s.damper d).target, moveCount := (s.damper d).moveCount + 1
                     homeDue := (s.damper d).homeDue || decide ((s.damper d).moveCount + 1 = 100), stepPart := 0 } } } ∨
       c = .homingEnd d ∧ (s.damper d).state = .homing ∧ (s.damper d).target = 0 ∧
         w =
           { s with
             air :=
               { s.air with
                 dampers := s.air.dampers.set d
                   { s.damper d with
                     state := .ready, position := some 0, homingSteps := 0, moveCount := 0, homeDue := false
                     stepPart := 0 } } }) →
     ((r.serving = true ∨
         ∃ e, (w.damper e).state ≠ .ready ∨ (w.damper e).position ≠ some (w.damper e).target) →
       exec c s = .next (startNote w)) ∧
     (r.serving = false → (∀ e, (w.damper e).state = .ready ∧ (w.damper e).position = some (w.damper e).target) →
       (s.counter .slot).run = false → (s.counter .slot).count ≠ 0 →
       ∃ u t, exec c s = .next (startNote t) ∧ u.arb = { s.arb with holder := .slot { r with serving := true } } ∧
         u.counter .slot = { s.counter .slot with run := true, part := 0 } ∧ u.air.dampers = w.air.dampers ∧
         FanAsked r.route.fanDuty s u ∧ DemandTaken (.auto r.route.floor) s u ∧ PathOnly s u ∧ ClaimsMade u t))

/-- R88, R89, R91, R92, R94: what the expiry of FANTIME does in KICK, in REST or RETRY_WAIT, and in RUN. -/
def Obligations.FanTimeExpiryByFanState : Prop :=
  ∀ s : State, Settled s → (s.counter .fantime).run = true →
    (s.air.fan.state = .kick →
      exec .kickEnd s =
        .next (startNote
          { s with
            bank := s.bank.set .fantime { s.counter .fantime with run := false, count := 0, part := 0 }
            air :=
              { s.air with
                fan :=
                  { s.air.fan with
                    state := .run, drive := (s.air.fan.requested * 255 + 50) / 100, overflowRun := 0 } } })) ∧
    ((s.air.fan.state = .rest ∨ s.air.fan.state = .retryWait) → s.air.fan.requested = 0 →
      exec .fanRetry s =
        .next (startNote
          { s with
            bank := s.bank.set .fantime { s.counter .fantime with run := false, count := 0, part := 0 }
            air := { s.air with fan := { s.air.fan with state := .stopped } } })) ∧
    ((s.air.fan.state = .rest ∨ s.air.fan.state = .retryWait) → s.air.fan.requested ≠ 0 →
      (s.counter .tach).run = false →
      exec .fanRetry s =
        .next (startNote
          { s with
            bank := (s.bank.set .fantime ((s.counter .fantime).timing 2)).set .tach
              { s.counter .tach with run := true, count := 0, part := 0, firstEdge := true }
            air :=
              { s.air with
                fan := { s.air.fan with state := .kick, drive := 255, overflowRun := 0, proven := false } } })) ∧
    (s.air.fan.state = .run →
      exec .provingWindowEnd s =
        .next (startNote
          { s with
            bank := s.bank.set .fantime { s.counter .fantime with run := false, count := 0, part := 0 }
            air := { s.air with fan := { s.air.fan with proven := true, stallCount := 0, fault := false } }
            cond := s.cond.setLevel .fanFault false
            comp := { s.comp with fanCap := false } }))

/-- R90, R92, R160: a rising tachometer edge: ignored by a stopped TACH or at a count of 0, a first edge after a start
or an overflow, and otherwise a result that gives the speed. In RUN the first valid result starts the proving window.
R90, R91, R160: a TACH overflow gives rpm 0 and makes the next edge a first edge; in RUN it counts toward a stall and
stops the proving window, and the third in a row stalls the fan: REST for 10 s, or at the third stall RETRY_WAIT for
300 s with FAN_FAULT asserted (R94). -/
def Obligations.TachEdgeAndOverflow : Prop :=
  (∀ s : State, Settled s →
     (((s.counter .tach).run = false ∨ ((s.counter .tach).firstEdge = false ∧ (s.counter .tach).count = 0)) →
       exec .tachEdge s = .next (startNote s)) ∧
     ((s.counter .tach).run = true → (s.counter .tach).firstEdge = true →
       exec .tachEdge s =
         .next (startNote
           { s with bank := s.bank.set .tach { s.counter .tach with count := 0, firstEdge := false, part := 0 } })) ∧
     ((s.counter .tach).run = true → (s.counter .tach).firstEdge = false → (s.counter .tach).count ≠ 0 →
       exec .tachEdge s =
         .next (startNote
           { s with
             bank :=
               if s.air.fan.state = .run ∧ s.air.fan.proven = false ∧ (s.counter .fantime).run = false then
                 (s.bank.set .tach
                   { s.counter .tach with result := (s.counter .tach).count, count := 0, part := 0 }).set .fantime
                   ((s.counter .fantime).timing 10)
               else s.bank.set .tach
                 { s.counter .tach with result := (s.counter .tach).count, count := 0, part := 0 }
             air :=
               { s.air with
                 fan := { s.air.fan with rpm := min 65535 (3000000 / (s.counter .tach).count), overflowRun := 0 } } }))) ∧
  (∀ s : State, Settled s → (s.counter .tach).run = true →
     (s.air.fan.state = .kick →
       exec .tachOverflow s =
         .next (startNote
           { s with
             bank := s.bank.set .tach { s.counter .tach with count := 0, firstEdge := true, part := 0 }
             air := { s.air with fan := { s.air.fan with rpm := 0 } } })) ∧
     (s.air.fan.state = .run → s.air.fan.overflowRun < 2 →
       exec .tachOverflow s =
         .next (startNote
           { s with
             bank :=
               (s.bank.set .tach { s.counter .tach with count := 0, firstEdge := true, part := 0 }).set .fantime
                 (s.counter .fantime).stop
             air := { s.air with fan := { s.air.fan with rpm := 0, overflowRun := s.air.fan.overflowRun + 1 } } })) ∧
     (s.air.fan.state = .run → s.air.fan.overflowRun = 2 →
       ∃ t, exec .tachOverflow s = .next (startNote t) ∧
         t.air.fan.drive = 0 ∧ t.air.fan.rpm = 0 ∧ t.air.fan.overflowRun = 0 ∧ t.air.fan.proven = false ∧
         t.air.fan.requested = s.air.fan.requested ∧ (t.counter .tach).run = false ∧
         t.air.fan.stallCount = min 3 (s.air.fan.stallCount + 1) ∧
         (s.air.fan.stallCount < 2 →
           t.air.fan.state = .rest ∧ t.counter .fantime = (s.counter .fantime).timing 10 ∧ t.cond = s.cond ∧
           t.comp = s.comp ∧ t.air.fan.fault = s.air.fan.fault) ∧
         (2 ≤ s.air.fan.stallCount →
           t.air.fan.state = .retryWait ∧ t.counter .fantime = (s.counter .fantime).timing 300 ∧
           t.cond = s.cond.setLevel .fanFault true ∧ t.comp = { s.comp with fanCap := true } ∧ t.air.fan.fault = true) ∧
         (∀ i, i ≠ .tach → i ≠ .fantime → t.counter i = s.counter i) ∧ t.air.dampers = s.air.dampers ∧
         t.settings = s.settings ∧ t.zones = s.zones ∧ t.scanner = s.scanner ∧ t.arb = s.arb ∧ t.defr = s.defr ∧
         t.doors = s.doors ∧ t.link = s.link))

/-! ### Compressor -/

/-- R101, R104: each RAMP expiry of a RUNNING compressor resolves the demand and takes one step of 30 × RAMP_UP or 30
× RAMP_DN toward the target, not past it. The demand is FIXED, or AUTO with a zone calling, whose target is the AUTO
target (`Demand.RunsAt`). R101, R103, R104, R105: a RAMP expiry of a RUNNING compressor whose demand resolves to stop,
which is STOP, or AUTO with no zone calling, holds the stop in the minimum run, the target at N_MIN and the ramp going
on, and stops it after that. In OFF a demand that resolves to run starts it, unless GUARD is running. In FAULTED and
LOCKOUT it stays. Stated where no phase of the defrost waits for the report. R111: the CONDRUN expiry turns the
condenser fan line off. -/
def Obligations.RampAndCondrunExpiry : Prop :=
  (∀ (n : Nat) (s : State), Settled s → SettingsLaw s → (s.counter .ramp).run = true → s.comp.state = .running →
     s.comp.demand.RunsAt n s → s.defr.compState = .running →
     exec .rampExpiry s =
       .next (startNote
         { s with
           bank := s.bank.set .ramp { s.counter .ramp with count := (s.counter .ramp).reload, part := 0 }
           comp :=
             { s.comp with
               stopHeld := false
               target := n
               command :=
                 if s.comp.command < n then min n (s.comp.command + 30 * s.effN .rampUp)
                 else max n (s.comp.command - 30 * s.effN .rampDn) } })) ∧
  (∀ (rewound : Bank) (s : State), Settled s → SettingsLaw s → HeaterLaw s → (s.counter .ramp).run = true →
     rewound = s.bank.set .ramp { s.counter .ramp with count := (s.counter .ramp).reload, part := 0 } →
     (s.comp.state = .running → s.comp.demand.Stops s → s.comp.guard = .minOn →
       exec .rampExpiry s =
         .next (startNote
           { s with
             bank := rewound
             comp :=
               { s.comp with
                 stopHeld := true, target := s.effN .nMin
                 command :=
                   if s.comp.command < s.effN .nMin then min (s.effN .nMin) (s.comp.command + 30 * s.effN .rampUp)
                   else max (s.effN .nMin) (s.comp.command - 30 * s.effN .rampDn) } })) ∧
     (s.comp.state = .running → s.comp.demand.Stops s → s.comp.guard ≠ .minOn →
       (s.defr.suspended = true ∨ s.defr.phase ≠ .stopWait) →
       ∃ t, exec .rampExpiry s = .next (startNote t) ∧ CompStops s.comp.demand s t ∧
         (∀ i, i ≠ .ramp → i ≠ .guard → i ≠ .condrun → t.counter i = s.counter i) ∧
         t.counter .ramp = { s.counter .ramp with count := (s.counter .ramp).reload, part := 0 } ∧
         t.defr.phase = s.defr.phase ∧ t.settings = s.settings ∧ t.zones = s.zones ∧ t.scanner = s.scanner ∧
         t.arb = s.arb ∧ t.air = s.air ∧ t.doors = s.doors ∧ t.cond = s.cond ∧ t.link = s.link) ∧
     (∀ n, s.comp.state = .off → s.comp.demand.RunsAt n s → (s.counter .guard).run = false →
       (s.defr.suspended = true ∨ s.defr.phase ≠ .stopWait) →
       ∃ t, exec .rampExpiry s = .next (startNote t) ∧ CompStarts s.comp.demand n s t ∧
         (∀ i, i ≠ .ramp → i ≠ .guard → i ≠ .condrun → t.counter i = s.counter i) ∧
         t.defr.phase = s.defr.phase ∧ t.settings = s.settings ∧ t.zones = s.zones ∧ t.scanner = s.scanner ∧
         t.arb = s.arb ∧ t.air = s.air ∧ t.doors = s.doors ∧ t.cond = s.cond ∧ t.link = s.link) ∧
     ((s.comp.state = .off ∧ (s.comp.demand.Stops s ∨ (s.counter .guard).run = true) ∨ s.comp.state = .faulted ∨
         s.comp.state = .lockout ∧ (s.defr.suspended = true ∨ s.defr.phase ≠ .preChill)) →
       (s.defr.suspended = true ∨ s.defr.phase ≠ .stopWait) →
       exec .rampExpiry s = .next (startNote { s with bank := rewound }))) ∧
  (∀ s : State, Settled s → (s.counter .condrun).run = true →
     exec .condrunExpiry s =
       .next (startNote
         { s with
           bank := s.bank.set .condrun { s.counter .condrun with run := false, count := 0, part := 0 }
           comp := { s.comp with condFan := false } }))

/-- R102: the AUTO target: N_MIN while FAN_FAULT caps it, and otherwise N_raw with the ambient lift, rounded down to a
multiple of 30, limited to N_MIN..N_MAX, and raised to the limited speed floor. -/
def Obligations.AutoTargetFormula : Prop :=
  ∀ (floor : Option Nat) (s : State), SettingsLaw s →
    (s.comp.fanCap = true → s.autoTarget floor = s.effN .nMin) ∧
    (s.comp.fanCap = false →
      ∀ uSum lift nRaw : Nat,
        uSum = min (s.effN .uFull)
          ((if s.zones.fresh.calling then s.zones.fresh.urgency else 0) +
            (if s.zones.chill.calling then s.zones.chill.urgency else 0) +
            (if s.zones.freeze.calling then s.zones.freeze.urgency else 0)) →
        nRaw = s.effN .nMin + (s.effN .nMax - s.effN .nMin) * uSum / s.effN .uFull →
        (lift : Int) = (if s.eff .ambRef < s.comp.ambient then s.eff .ambGain * (s.comp.ambient - s.eff .ambRef) else 0) →
        s.autoTarget floor =
          max (max (s.effN .nMin) (min (s.effN .nMax) ((nRaw + lift) / 30 * 30)))
            (match floor with
              | none => 0
              | some f => max (s.effN .nMin) (min (s.effN .nMax) f)))

/-- R103, R106, R111: the GUARD expiry in OFF ends the minimum rest, and a demand that resolves to run starts the
compressor: RUNNING at N_MIN, GUARD restarted with MIN_ON, RAMP with 1000, CONDRUN stopped, the condenser fan on. In
RUNNING with a demand to run it ends the minimum run, which clears fault_count. The demand is FIXED, or AUTO with a
zone calling (`Demand.RunsAt`). R105, R106, R111: the GUARD expiry of a RUNNING compressor whose demand resolves to
stop, which is STOP, or AUTO with no zone calling, takes the held stop: OFF, GUARD restarted with MIN_OFF, CONDRUN
with 60. Stated where the sequencer does not wait for the stop. R106, R109, R110: the GUARD expiry leaves FAULTED for
OFF where the last round gave COMP_FLT negated, or none: COMP_FAULT deasserts, fault_count stays, and the demand is
resolved, so that a run starts there and then. With the level asserted, in LOCKOUT, and in OFF with a demand that
resolves to stop, only the guard changes. Stated where no phase of the defrost waits for the report. -/
def Obligations.GuardExpiryByStateAndDemand : Prop :=
  (∀ (n : Nat) (s : State), Settled s → SettingsLaw s → (s.counter .guard).run = true → s.comp.demand.RunsAt n s →
     (s.comp.state = .off → (s.defr.phase = .idle ∨ s.defr.phase = .recover ∨ s.defr.phase = .preChill) →
       ∃ t, exec .guardExpiry s = .next (startNote t) ∧
         t.comp =
           { s.comp with
             state := .running, command := s.effN .nMin, target := n, guard := .minOn, stopHeld := false
             condFan := true } ∧
         t.counter .guard = (s.counter .guard).timing (s.effN .minOn) ∧
         t.counter .ramp = (s.counter .ramp).timing 1000 ∧ (t.counter .condrun).run = false ∧
         (∀ i, i ≠ .guard → i ≠ .ramp → i ≠ .condrun → t.counter i = s.counter i) ∧
         t.defr = { s.defr with compState := .running, heaterDrive := false } ∧
         t.settings = s.settings ∧ t.zones = s.zones ∧ t.scanner = s.scanner ∧ t.arb = s.arb ∧ t.air = s.air ∧
         t.doors = s.doors ∧ t.cond = s.cond ∧ t.link = s.link) ∧
     (s.comp.state = .running → s.defr.compState = .running →
       exec .guardExpiry s =
         .next (startNote
           { s with
             bank := s.bank.set .guard { s.counter .guard with run := false, count := 0, part := 0 }
             comp := { s.comp with guard := .none, faultCount := 0, stopHeld := false } }))) ∧
  (∀ s : State, Settled s → SettingsLaw s → (s.counter .guard).run = true → s.comp.state = .running →
     s.comp.demand.Stops s → s.defr.phase ≠ .stopWait → s.defr.phase ≠ .heat →
     ∃ t, exec .guardExpiry s = .next (startNote t) ∧
       t.comp =
         { s.comp with
           state := .off, command := 0, target := 0, guard := .minOff, stopHeld := false, faultCount := 0 } ∧
       t.counter .guard = (s.counter .guard).timing (s.effN .minOff) ∧
       t.counter .condrun = (s.counter .condrun).timing 60 ∧
       (∀ i, i ≠ .guard → i ≠ .condrun → t.counter i = s.counter i) ∧ t.defr.compState = .off ∧
       t.settings = s.settings ∧ t.zones = s.zones ∧ t.scanner = s.scanner ∧ t.arb = s.arb ∧ t.air = s.air ∧
       t.doors = s.doors ∧ t.cond = s.cond ∧ t.link = s.link) ∧
  (∀ s : State, Settled s → SettingsLaw s → HeaterLaw s → (s.counter .guard).run = true →
     (s.defr.suspended = true ∨ s.defr.phase ≠ .stopWait) →
     ((s.comp.state = .faulted ∧ s.scanner.compFlt = some true ∨ s.comp.state = .off ∧ s.comp.demand.Stops s ∨
         s.comp.state = .lockout ∧ (s.defr.suspended = true ∨ s.defr.phase ≠ .preChill)) →
       exec .guardExpiry s =
         .next (startNote
           { s with
             bank := s.bank.set .guard { s.counter .guard with run := false, count := 0, part := 0 }
             comp := { s.comp with guard := .none } })) ∧
     (s.comp.state = .faulted → s.scanner.compFlt ≠ some true → s.comp.demand.Stops s →
       ∃ t, exec .guardExpiry s = .next (startNote t) ∧ t.comp = { s.comp with state := .off, guard := .none } ∧
         t.cond = s.cond.setLevel .compFault false ∧ t.defr.compState = .off ∧ t.defr.phase = s.defr.phase ∧
         t.bank = s.bank.set .guard { s.counter .guard with run := false, count := 0, part := 0 } ∧
         t.settings = s.settings ∧ t.zones = s.zones ∧ t.scanner = s.scanner ∧ t.arb = s.arb ∧ t.air = s.air ∧
         t.doors = s.doors ∧ t.link = s.link) ∧
     (∀ n, s.comp.state = .faulted → s.scanner.compFlt ≠ some true → s.comp.demand.RunsAt n s →
       ∃ t, exec .guardExpiry s = .next (startNote t) ∧
         t.comp =
           { s.comp with
             state := .running, command := s.effN .nMin, target := n, guard := .minOn, stopHeld := false
             condFan := true } ∧
         t.cond = s.cond.setLevel .compFault false ∧ t.defr.compState = .running ∧ t.defr.phase = s.defr.phase ∧
         t.counter .guard = (s.counter .guard).timing (s.effN .minOn) ∧
         t.counter .ramp = (s.counter .ramp).timing 1000 ∧ (t.counter .condrun).run = false ∧
         (∀ i, i ≠ .guard → i ≠ .ramp → i ≠ .condrun → t.counter i = s.counter i) ∧
         t.settings = s.settings ∧ t.zones = s.zones ∧ t.scanner = s.scanner ∧ t.arb = s.arb ∧ t.air = s.air ∧
         t.doors = s.doors ∧ t.link = s.link))

/-- R108, R110: a round with COMP_FLT asserted that follows another one stops the compressor: FAULTED, or LOCKOUT at
the third fault, with GUARD restarted with MIN_OFF, and a post-run if it was RUNNING (R111). R108, R109: a round with
COMP_FLT negated sets flt_rounds to 0; a FAULTED compressor whose guard has expired leaves for OFF at it, COMP_FAULT
deasserts, and the demand is resolved, FIXED, STOP or AUTO (`Demand.RunsAt`, `Demand.Stops`). R133: a round's
HEATER_SENSE level counts toward a change of HEATER_OPEN with the drive on and of HEATER_STUCK with it off; another
round sets the run to 0; the tenth in a row changes the level. HEATER_STUCK holds the drive off (R132), and its
negation is a due check (R120). -/
def Obligations.SecondFaultRoundStopsTheCompressor : Prop :=
  (∀ s : State, SettingsLaw s → (s.comp.state = .off ∨ s.comp.state = .running) → s.comp.fltRounds = 1 →
     (onCompFltRound true s).comp =
       { s.comp with
         state := if 3 ≤ s.comp.faultCount + 1 then .lockout else .faulted
         command := 0, target := 0, guard := .minOff, stopHeld := false, fltRounds := 2
         faultCount := s.comp.faultCount + 1 } ∧
     (onCompFltRound true s).counter .guard = (s.counter .guard).timing (s.effN .minOff) ∧
     (s.comp.state = .running →
       (onCompFltRound true s).counter .condrun = (s.counter .condrun).timing 60) ∧
     (s.comp.state = .off → (onCompFltRound true s).counter .condrun = s.counter .condrun) ∧
     (onCompFltRound true s).level .compFault = true ∧
     (3 ≤ s.comp.faultCount + 1 → (onCompFltRound true s).level .compLockout = true)) ∧
  (∀ s : State, SettingsLaw s →
     ((s.comp.state ≠ .faulted ∨ s.comp.guard ≠ .none) →
       onCompFltRound false s = { s with comp := { s.comp with fltRounds := 0 } }) ∧
     (s.comp.state = .faulted → s.comp.guard = .none → s.comp.demand.Stops s →
       (onCompFltRound false s).comp = { s.comp with fltRounds := 0, state := .off } ∧
       (onCompFltRound false s).cond = s.cond.setLevel .compFault false ∧
       (onCompFltRound false s).defr.compState = .off ∧ (onCompFltRound false s).bank = s.bank) ∧
     (∀ n, s.comp.state = .faulted → s.comp.guard = .none → s.comp.demand.RunsAt n s → (s.counter .guard).run = false →
       (onCompFltRound false s).comp =
         { s.comp with
           fltRounds := 0, state := .running, command := s.effN .nMin, target := n, guard := .minOn, stopHeld := false
           condFan := true } ∧
       (onCompFltRound false s).cond = s.cond.setLevel .compFault false ∧
       (onCompFltRound false s).counter .guard = (s.counter .guard).timing (s.effN .minOn))) ∧
  (∀ (sense due drive : Bool) (s : State),
     due = (decide (s.defr.phase = .idle) &&
       ((decide (s.effN .fDue ≤ s.defr.frost) && decide (s.effN .minGap ≤ (s.counter .gap).count)) ||
         decide (s.effN .maxGap ≤ (s.counter .gap).count))) →
     drive =
       ((match s.arb.holder with
         | .defrost => decide (s.defr.phase = .heat)
         | .service => s.defr.svcHeater
         | _ => false) && decide (s.defr.compState ≠ .running)) →
     (s.defr.heaterDrive = true →
       (sense ≠ s.level .heaterOpen →
         onHeaterSenseRound sense s = { s with defr := { s.defr with openRun := 0, stuckRun := 0 } }) ∧
       (sense = s.level .heaterOpen → s.defr.openRun < 9 →
         onHeaterSenseRound sense s = { s with defr := { s.defr with openRun := s.defr.openRun + 1, stuckRun := 0 } }) ∧
       (sense = s.level .heaterOpen → 9 ≤ s.defr.openRun →
         onHeaterSenseRound sense s =
           { s with
             defr := { s.defr with openRun := 0, stuckRun := 0 }
             cond := s.cond.setLevel .heaterOpen (!s.level .heaterOpen) })) ∧
     (s.defr.heaterDrive = false →
       (sense = s.level .heaterStuck →
         onHeaterSenseRound sense s = { s with defr := { s.defr with openRun := 0, stuckRun := 0 } }) ∧
       (sense ≠ s.level .heaterStuck → s.defr.stuckRun < 9 →
         onHeaterSenseRound sense s = { s with defr := { s.defr with openRun := 0, stuckRun := s.defr.stuckRun + 1 } }) ∧
       (sense = true → s.level .heaterStuck = false → 9 ≤ s.defr.stuckRun →
         onHeaterSenseRound sense s =
           { s with
             defr := { s.defr with openRun := 0, stuckRun := 0, heaterDrive := false }
             cond := s.cond.setLevel .heaterStuck true }) ∧
       (sense = false → s.level .heaterStuck = true → 9 ≤ s.defr.stuckRun →
         (due = false →
           onHeaterSenseRound sense s =
             { s with
               defr := { s.defr with openRun := 0, stuckRun := 0, heaterDrive := drive }
               cond := s.cond.setLevel .heaterStuck false }) ∧
         (due = true →
           (onHeaterSenseRound sense s).level .heaterStuck = false ∧
           (onHeaterSenseRound sense s).defr.phase ≠ .idle ∧
           (s.arb.holder.isFree = true → (onHeaterSenseRound sense s).arb.holder = .defrost)))))

/-! ### Defrost -/

/-- R119, R120, R156, R157: a RUNSEC carry adds 1 to F, or 2 with the ambient above 320 dC, and a GAP increment adds 1
to GAP. Neither does more while no defrost falls due by it; one that does makes the sequencer claim the path, and with
the path held by DOOR or SERVICE the claim waits in PENDING (R122). R119, R120, R122, R123: a RUNSEC carry that
changes F, or a GAP increment, by which a defrost falls due in IDLE. With HEATER_STUCK asserted the sequencer stays
IDLE. With the path held by DOOR or SERVICE it waits in PENDING, and a path with nobody or a slot is claimed at once
(`DefrostClaimed`, resume_heat being as R136 has it, `ResumeLaw`). A carry that finds F at 65535 changes no F, so it
is no check. -/
def Obligations.FrostAndGapGrow : Prop :=
  (∀ s : State, Settled s →
     (∀ frost : Nat, frost = min 65535 (s.defr.frost + if 320 < s.defr.ambient then 2 else 1) →
       (s.counter .runsec).run = true → s.defr.compState = .running →
       (s.defr.phase ≠ .idle ∨
         ¬ ((s.effN .fDue ≤ frost ∧ s.effN .minGap ≤ (s.counter .gap).count) ∨
           s.effN .maxGap ≤ (s.counter .gap).count)) →
       exec .runsecCarry s =
         .next (startNote
           { s with
             bank := s.bank.set .runsec { s.counter .runsec with count := 0, part := 0 }
             defr := { s.defr with frost := frost } })) ∧
     ((s.counter .gap).run = true → (s.counter .gap).count < 65535 →
       (s.defr.phase ≠ .idle ∨
         ¬ ((s.effN .fDue ≤ s.defr.frost ∧ s.effN .minGap ≤ (s.counter .gap).count + 1) ∨
           s.effN .maxGap ≤ (s.counter .gap).count + 1)) →
       exec .gapIncrement s =
         .next (startNote
           { s with
             bank := s.bank.set .gap
               { s.counter .gap with
                 count := (s.counter .gap).count + 1
                 saturated := (s.counter .gap).saturated || decide ((s.counter .gap).count + 1 = 65535)
                 part := 0 } })) ∧
     ((s.counter .gap).run = true → (s.counter .gap).count < 65535 → s.defr.phase = .idle →
       s.level .heaterStuck = false → s.effN .maxGap ≤ (s.counter .gap).count + 1 →
       (s.arb.holder = .door ∨ s.arb.holder = .service) →
       exec .gapIncrement s =
         .next (startNote
           { s with
             bank := s.bank.set .gap
               { s.counter .gap with
                 count := (s.counter .gap).count + 1
                 saturated := (s.counter .gap).saturated || decide ((s.counter .gap).count + 1 = 65535)
                 part := 0 }
             defr :=
               { s.defr with
                 phase := .pending
                 heaterDrive :=
                   decide (s.arb.holder = .service) && s.defr.svcHeater && decide (s.defr.compState ≠ .running) } }))) ∧
  (∀ (c : Instr) (w s : State), Settled s → SettingsLaw s → HeaterLaw s → ResumeLaw s →
     (c = .runsecCarry ∧ (s.counter .runsec).run = true ∧ s.defr.compState = .running ∧
         w =
           { s with
             bank := s.bank.set .runsec { s.counter .runsec with count := 0, part := 0 }
             defr := { s.defr with frost := min 65535 (s.defr.frost + if 320 < s.defr.ambient then 2 else 1) } } ∨
       c = .gapIncrement ∧ (s.counter .gap).run = true ∧ (s.counter .gap).count < 65535 ∧
         w =
           { s with
             bank := s.bank.set .gap
               { s.counter .gap with
                 count := (s.counter .gap).count + 1
                 saturated := (s.counter .gap).saturated || decide ((s.counter .gap).count + 1 = 65535)
                 part := 0 } }) →
     s.defr.phase = .idle →
     ((w.effN .fDue ≤ w.defr.frost ∧ w.effN .minGap ≤ (w.counter .gap).count) ∨
       w.effN .maxGap ≤ (w.counter .gap).count) →
     ((s.level .heaterStuck = true ∨ c = .runsecCarry ∧ s.defr.frost = 65535) → exec c s = .next (startNote w)) ∧
     (s.level .heaterStuck = false → ¬ (c = .runsecCarry ∧ 65535 ≤ s.defr.frost) →
       ((s.arb.holder = .door ∨ s.arb.holder = .service) →
         exec c s =
           .next (startNote
             { w with
               defr :=
                 { w.defr with
                   phase := .pending
                   heaterDrive :=
                     decide (s.arb.holder = .service) && s.defr.svcHeater && decide (s.defr.compState ≠ .running) } })) ∧
       ((s.arb.holder = .nobody ∨ ∃ r, s.arb.holder = .slot r) →
         ∃ t, exec c s = .next (startNote t) ∧ DefrostClaimed w t)))

/-- R123, R124, R125, R126: the PHASE expiry of PRE_CHILL enters STOP_WAIT. With a compressor in its minimum run the
stop is held there; with one that is not running HEAT is entered at once: PHASE at the budget, the heater on unless
HEATER_STUCK is asserted. -/
def Obligations.PrechillExpiryLeadsToHeat : Prop :=
  ∀ s : State, Settled s → SettingsLaw s → HeaterLaw s → s.defr.phase = .preChill → (s.counter .phase).run = true →
    s.defr.suspended = false → s.defr.resumeHeat = false → s.arb.holder = .defrost →
    (s.comp.state = .running → s.comp.guard = .minOn →
      ∃ t, exec .prechillExpiry s = .next (startNote t) ∧
        t.defr = { s.defr with phase := .stopWait, heaterDrive := false } ∧
        t.comp = { s.comp with demand := .stop, stopHeld := true, target := s.effN .nMin } ∧
        t.counter .phase = { s.counter .phase with run := false, count := 0, part := 0 } ∧
        t.air.fan.requested = 0 ∧ (t.damper .fresh).target = 0 ∧ (t.damper .chill).target = 0 ∧
        (∀ i, i ≠ .phase → i ≠ .tach → i ≠ .fantime → t.counter i = s.counter i) ∧
        t.settings = s.settings ∧ t.zones = s.zones ∧ t.scanner = s.scanner ∧ t.arb = s.arb ∧ t.doors = s.doors ∧
        t.cond = s.cond ∧ t.link = s.link) ∧
    (s.comp.state ≠ .running →
      ∃ t, exec .prechillExpiry s = .next (startNote t) ∧
        t.defr =
          { s.defr with
            phase := .heat, coilTimed := s.defr.coilLost, termCount := 0, heaterDrive := !s.level .heaterStuck
            heatBudget :=
              if s.defr.coilLost then min 1500 (s.effN .heatMax * 60) else s.effN .heatMax * 60 } ∧
        t.comp = { s.comp with demand := .stop } ∧
        t.counter .phase = (s.counter .phase).timing
          (if s.defr.coilLost then min 1500 (s.effN .heatMax * 60) else s.effN .heatMax * 60) ∧
        t.air.fan.requested = 0 ∧ (t.damper .fresh).target = 0 ∧ (t.damper .chill).target = 0 ∧
        (∀ i, i ≠ .phase → i ≠ .tach → i ≠ .fantime → t.counter i = s.counter i) ∧
        t.settings = s.settings ∧ t.zones = s.zones ∧ t.scanner = s.scanner ∧ t.arb = s.arb ∧ t.doors = s.doors ∧
        t.cond = s.cond ∧ t.link = s.link)

/-- R127, R128, R129, R130: the PHASE expiry of HEAT enters DRIP with F and RUNSEC at 0 and last_heat the whole budget
in minutes. Without COIL timing, or with HEATER_OPEN asserted, it is a timeout: DEFROST_TIMEOUT is raised and, with
ADAPT 1 and HEATER_OPEN negated, F_DUE comes down by 120, not below 240. Otherwise it is the timed end of a COIL loss,
and F_DUE stays. R126, R127, R128, R129: what a COIL sample event does in HEAT. At TERM_TEMP or above it counts, and
the third, with the compressor not RUNNING as in HEAT it never is, ends it by termination: F and RUNSEC 0, last_heat
the whole minutes, F_DUE adapted by them, DRIP. Below, with HEATER_OPEN asserted or under a suspension the count is 0
(log 15). LOST brings the limit down to 1500 s, or ends HEAT as a timed end. -/
def Obligations.HeatTimeoutEntersDrip : Prop :=
  (∀ s : State, Settled s → SettingsLaw s → HeaterLaw s → s.defr.phase = .heat → (s.counter .phase).run = true →
     s.defr.suspended = false → s.arb.holder = .defrost → s.comp.state ≠ .running →
     ∃ t, exec .heatTimeout s = .next (startNote t) ∧
       t.defr =
         { s.defr with
           phase := .drip, frost := 0, resumeHeat := false, termCount := 0, lastHeat := s.defr.heatBudget / 60
           heaterDrive := false } ∧
       t.counter .phase = (s.counter .phase).timing (s.effN .dripTime) ∧ (t.counter .runsec).count = 0 ∧
       (t.counter .runsec).run = (s.counter .runsec).run ∧
       (∀ i, i ≠ .phase → i ≠ .runsec → i ≠ .tach → i ≠ .fantime → t.counter i = s.counter i) ∧
       ((s.defr.coilTimed = false ∨ s.level .heaterOpen = true) →
         t.cond = s.cond.mark .defrostTimeout ∧
         t.eff .fDue =
           (if s.eff .adapt = 1 ∧ s.level .heaterOpen = false then max 240 (s.eff .fDue - 120) else s.eff .fDue)) ∧
       (s.defr.coilTimed = true → s.level .heaterOpen = false → t.cond = s.cond ∧ t.settings = s.settings) ∧
       (∀ i, i ≠ .fDue → t.eff i = s.eff i) ∧ t.comp = { s.comp with demand := .stop } ∧
       t.air.fan.requested = 0 ∧ (t.damper .fresh).target = 0 ∧ (t.damper .chill).target = 0 ∧
       t.zones = s.zones ∧ t.scanner = s.scanner ∧ t.arb = s.arb ∧ t.doors = s.doors ∧ t.link = s.link) ∧
  (∀ (state : ChanState) (tf : Option Int) (elapsed : Nat) (s : State), SettingsLaw s → s.defr.phase = .heat →
     elapsed = s.defr.heatBudget - (s.counter .phase).count →
     (∀ t, state ≠ .lost → tf = some t → s.eff .termTemp ≤ t → s.arb.holder = .defrost → s.defr.suspended = false →
       s.level .heaterOpen = false →
       (s.defr.termCount < 2 →
         onCoilSample state tf s = { s with defr := { s.defr with coilLost := false, termCount := s.defr.termCount + 1 } }) ∧
       (2 ≤ s.defr.termCount → s.comp.state ≠ .running →
         (onCoilSample state tf s).defr =
           { s.defr with
             phase := .drip, coilLost := false, termCount := 0, frost := 0, lastHeat := elapsed / 60, resumeHeat := false
             heaterDrive := false } ∧
         (onCoilSample state tf s).counter .phase = (s.counter .phase).timing (s.effN .dripTime) ∧
         ((onCoilSample state tf s).counter .runsec).count = 0 ∧ (onCoilSample state tf s).comp.demand = .stop ∧
         (onCoilSample state tf s).air.fan.requested = 0 ∧ (onCoilSample state tf s).arb = s.arb ∧
         (onCoilSample state tf s).cond = s.cond ∧
         (onCoilSample state tf s).eff .fDue =
           (if s.eff .adapt ≠ 1 ∨ s.defr.coilTimed = true then s.eff .fDue
             else if elapsed / 60 < 15 then min 1440 (s.eff .fDue + 60)
             else if 30 < elapsed / 60 then max 240 (s.eff .fDue - 60)
             else s.eff .fDue) ∧
         ∀ i, i ≠ .fDue → (onCoilSample state tf s).eff i = s.eff i)) ∧
     (state ≠ .lost →
       ((∀ t, tf = some t → t < s.eff .termTemp) ∨ s.arb.holder ≠ .defrost ∨ s.defr.suspended = true ∨
         s.level .heaterOpen = true) →
       onCoilSample state tf s = { s with defr := { s.defr with coilLost := false, termCount := 0 } }) ∧
     (state = .lost →
       ((s.defr.coilTimed = true ∨ s.defr.heatBudget ≤ 1500) →
         onCoilSample state tf s = { s with defr := { s.defr with coilLost := true, termCount := 0, coilTimed := true } }) ∧
       (s.defr.coilTimed = false → 1500 < s.defr.heatBudget → elapsed < 1500 →
         (s.defr.suspended = true → (s.counter .phase).run = false) →
         onCoilSample state tf s =
           { s with
             defr := { s.defr with coilLost := true, termCount := 0, coilTimed := true, heatBudget := 1500 }
             bank := s.bank.set .phase
               (if s.defr.suspended then
                 { s.counter .phase with count := 1500 - elapsed, reload := 1500 - elapsed }
               else (s.counter .phase).timing (1500 - elapsed)) }) ∧
       (s.defr.coilTimed = false → 1500 < s.defr.heatBudget → 1500 ≤ elapsed →
         (onCoilSample state tf s).defr.phase = .drip ∧ (onCoilSample state tf s).defr.coilTimed = true ∧
         (onCoilSample state tf s).defr.frost = 0 ∧ (onCoilSample state tf s).defr.lastHeat = elapsed / 60 ∧
         (onCoilSample state tf s).defr.suspended = s.defr.suspended ∧
         ((onCoilSample state tf s).counter .phase).count = s.effN .dripTime ∧
         ((onCoilSample state tf s).counter .phase).run = !s.defr.suspended ∧
         ((onCoilSample state tf s).counter .runsec).count = 0 ∧ (onCoilSample state tf s).cond = s.cond ∧
         (onCoilSample state tf s).settings = s.settings)))

/-- R130, R131: the PHASE expiry of DRIP enters RECOVER with both dampers homing and FIXED(N_MAX); that of RECOVER
clears GAP, raises DEFROST_DONE, deasserts DEFROST_ACTIVE and releases the path. The second is stated of an empty
stack with no zone calling, so that IDLE is entered (R60, R70). R50, R70, R71, R131, R144: the end of RECOVER releases
the path, whatever lies on the stack and whatever door pause waits (`PathReleased`, told from the state the end
leaves: IDLE, PHASE expired, GAP cleared). -/
def Obligations.DripAndRecoverExpiry : Prop :=
  (∀ s : State, Settled s → SettingsLaw s → (s.counter .phase).run = true → s.defr.suspended = false →
     s.arb.holder = .defrost →
     (s.defr.phase = .drip →
       ∃ t, exec .dripExpiry s = .next (startNote t) ∧
         t.defr.phase = .recover ∧ t.defr.frost = s.defr.frost ∧ t.defr.lastHeat = s.defr.lastHeat ∧
         t.defr.heaterDrive = false ∧ t.counter .phase = (s.counter .phase).timing 600 ∧
         t.counter .gap = s.counter .gap ∧ t.counter .runsec = s.counter .runsec ∧
         (∀ d, (t.damper d).state = .homing ∧ (t.damper d).target = 0) ∧ t.air.fan.requested = 0 ∧
         t.comp.demand = .fixed (s.effN .nMax) ∧
         t.settings = s.settings ∧ t.zones = s.zones ∧ t.scanner = s.scanner ∧ t.arb = s.arb ∧ t.doors = s.doors ∧
         t.cond = s.cond ∧ t.link = s.link) ∧
     (s.defr.phase = .recover → s.arb.stack = [] → s.doors.pause ≠ .deferred → s.arb.commitPending = false →
       (∀ z, (s.zone z).calling = false) →
       ∃ t, exec .recoverExpiry s = .next (startNote t) ∧
         t.arb = { s.arb with holder := .nobody, fullEnd := none } ∧
         t.defr.phase = .idle ∧ t.defr.frost = s.defr.frost ∧ t.defr.heaterDrive = false ∧
         (t.counter .phase).run = false ∧ (t.counter .gap).count = 0 ∧
         (t.counter .gap).run = (s.counter .gap).run ∧ t.counter .runsec = s.counter .runsec ∧
         t.cond.deltas.getLsbD 22 = true ∧ t.level .defrostActive = false ∧ t.comp.demand = .auto none ∧
         t.air.fan.requested = s.arb.active.idle.fanDuty ∧
         t.settings = s.settings ∧ t.zones = s.zones ∧ t.scanner = s.scanner ∧ t.doors = s.doors ∧ t.link = s.link)) ∧
  (∀ w s : State, Settled s → SettingsLaw s → HeaterLaw s → ResumeLaw s → (s.counter .phase).run = true →
     s.defr.suspended = false → s.arb.holder = .defrost → s.defr.phase = .recover →
     (∀ f ∈ s.arb.stack, f.isDefrost = false) →
     w =
       { s with
         defr := { s.defr with phase := .idle }
         bank :=
           (s.bank.set .phase { s.counter .phase with run := false, count := 0, part := 0 }).set .gap
             (s.counter .gap).clear } →
     ∃ t, exec .recoverExpiry s = .next (startNote t) ∧ PathReleased w t ∧ t.cond.deltas.getLsbD 22 = true ∧
       t.level .defrostActive = false)

/-! ### Doors -/

/-- R139, R140, R141, R143: what an opening does. The door's record opens and its count goes up by 1; a live pause has
its settle stopped; the first door to open claims a pause, which is DEFERRED while DEFROST or SERVICE holds, and
otherwise takes the path, with a frame for the slot (R67), PAUSE at DOOR_PAUSE_MAX, the fan asked for 0 (R93) and AUTO
demanded (R101). A DOOR_OPENING of an open door is no event (log 2), and the command brings the raw line to the new
level with it (log 22). R146, R159: the width of an open door goes up by 1, to 65535 at most, and DOOR_AJAR asserts
when it reaches AJAR_TIME; the width of a closed door does not go up (R158). -/
def Obligations.DoorOpeningAndWidth : Prop :=
  (∀ (d : Door) (opened : DoorRec) (s : State), Settled s → SettingsLaw s →
     opened =
       { s.door d with isOpen := true, raw := true, differs := 0, openCount := ((s.door d).openCount + 1) % 65536 } →
     ((s.door d).isOpen = true → exec (.doorOpening d) s = .next (startNote s)) ∧
     ((s.door d).isOpen = false → (s.doors.pause = .held ∨ s.doors.pause = .suspended) →
       (s.counter .settle).run = true →
       exec (.doorOpening d) s =
         .next (startNote
           { s with
             doors := { s.doors with recs := s.doors.recs.set d opened }
             bank := s.bank.set .settle { s.counter .settle with run := false, part := 0 } })) ∧
     ((s.door d).isOpen = false → (∃ e, e ≠ d ∧ (s.door e).isOpen = true) → s.doors.pause = .none →
       exec (.doorOpening d) s =
         .next (startNote { s with doors := { s.doors with recs := s.doors.recs.set d opened } })) ∧
     ((∀ e, (s.door e).isOpen = false) → s.doors.pause = .none → s.doors.pauseSpent = false →
       (s.arb.holder = .defrost ∨ s.arb.holder = .service) →
       exec (.doorOpening d) s =
         .next (startNote
           { s with doors := { s.doors with recs := s.doors.recs.set d opened, pause := .deferred } })) ∧
     ((∀ e, (s.door e).isOpen = false) → s.doors.pause = .none → s.doors.pauseSpent = false →
       (s.arb.holder = .nobody ∨ ∃ r, s.arb.holder = .slot r) →
       ∃ t, exec (.doorOpening d) s = .next (startNote t) ∧
         t.arb =
           { s.arb with
             holder := .door
             stack :=
               (match s.arb.holder with
                 | .slot r =>
                   [.slot (s.effN (.saveMask .door)) r.zone r.phase r.fixed (s.counter .slot).count
                     (if s.effN (.saveMask .door) % 2 = 1 then some r.route else none)]
                 | _ => []) ++ s.arb.stack } ∧
         t.doors = { s.doors with recs := s.doors.recs.set d opened, pause := .held } ∧
         t.counter .pause = (s.counter .pause).timing (s.effN .doorPauseMax) ∧ (t.counter .settle).run = false ∧
         (s.arb.holder ≠ .nobody → (t.counter .slot).run = false ∧ (t.counter .slot).count = (s.counter .slot).count) ∧
         t.air.dampers = s.air.dampers ∧ t.air.fan.requested = 0 ∧ FanAsked 0 s t ∧ t.comp.demand = .auto none ∧
         DemandTaken (.auto none) s t ∧
         t.counter (.door d) = s.counter (.door d) ∧ t.defr.phase = s.defr.phase ∧ t.defr.frost = s.defr.frost ∧
         t.settings = s.settings ∧ t.zones = s.zones ∧ t.scanner = s.scanner ∧ t.link = s.link)) ∧
  (∀ (d : Door) (grown : Counter) (s : State), Settled s → (s.counter (.door d)).run = true →
     grown =
       { s.counter (.door d) with
         count := (s.counter (.door d)).count + 1
         saturated := (s.counter (.door d)).saturated || decide ((s.counter (.door d)).count + 1 = 65535)
         part := 0 } →
     (((s.door d).isOpen = false ∨ 65535 ≤ (s.counter (.door d)).count) →
       exec (.doorWidthIncrement d) s = .next (startNote s)) ∧
     ((s.door d).isOpen = true → (s.counter (.door d)).count < 65535 →
       ((s.door d).ajar = true ∨ (s.counter (.door d)).count + 1 < s.effN .ajarTime) →
       exec (.doorWidthIncrement d) s = .next (startNote { s with bank := s.bank.set (.door d) grown })) ∧
     ((s.door d).isOpen = true → (s.counter (.door d)).count < 65535 → (s.door d).ajar = false →
       s.effN .ajarTime ≤ (s.counter (.door d)).count + 1 →
       exec (.doorWidthIncrement d) s =
         .next (startNote
           { s with
             bank := s.bank.set (.door d) grown
             doors := { s.doors with recs := s.doors.recs.set d { s.door d with ajar := true } }
             cond := s.cond.setLevel (.doorAjar d) true })))

/-- R24, R142, R145, R159: what a close does. The width is the seconds counted; it is recorded, gives the door's zone a
debt credit and F its frost, and ends DOOR_AJAR (R146). The close that leaves every door CLOSED makes the pause usable
again, restarts SETTLE with 5 under a live pause and drops a DEFERRED one. Stated where the frost makes no defrost
fall due (R120). The command brings the raw line to the new level with it (log 22). -/
def Obligations.DoorCloseGivesItsWidth : Prop :=
  ∀ (d : Door) (credit frost : Nat) (spared : Prop) (s : State), Settled s → SettingsLaw s →
    (s.door d).isOpen = true → (s.counter (.door d)).run = true →
    credit =
      (if s.effN .recoveryMinOpen ≤ (s.counter (.door d)).count then
        min 6000 ((s.counter (.door d)).count * s.effN .recoveryGain) else 0) →
    frost = min 65535
      (s.defr.frost + (s.counter (.door d)).count / (if d = .freezeDrawer then 10 else 30)) →
    (spared ↔ s.mode (doorZone d) = .off ∨ (s.zone (doorZone d)).subst = .forceCall ∨
      (s.zone (doorZone d)).subst = .timed ∨ (s.zone (doorZone d)).subst = .ignore) →
    (s.defr.phase ≠ .idle ∨
      ¬ ((s.effN .fDue ≤ frost ∧ s.effN .minGap ≤ (s.counter .gap).count) ∨
        s.effN .maxGap ≤ (s.counter .gap).count)) →
    ∃ t, exec (.doorClose d) s = .next (startNote t) ∧
      t.door d =
        { s.door d with
          isOpen := false, raw := false, differs := 0, lastWidth := (s.counter (.door d)).count
          widthOverflow := (s.counter (.door d)).saturated, ajar := false } ∧
      (∀ e, e ≠ d → t.door e = s.door e) ∧ t.level (.doorAjar d) = false ∧
      t.counter (.door d) =
        { s.counter (.door d) with
          result := (s.counter (.door d)).count, resultOverflow := (s.counter (.door d)).saturated, count := 0
          saturated := false, part := 0 } ∧
      t.defr = { s.defr with frost := frost } ∧
      (spared → t.zones = s.zones) ∧
      (¬ spared →
        t.zones = s.zones.set (doorZone d)
          { s.zone (doorZone d) with
            debt := min 60000 ((s.zone (doorZone d)).debt + credit)
            urgency := min 65535
              (min 60000 ((s.zone (doorZone d)).debt + credit) * s.wEff (doorZone d) / 16) }) ∧
      ((∃ e, e ≠ d ∧ (s.door e).isOpen = true) →
        t.doors.pause = s.doors.pause ∧ t.doors.pauseSpent = s.doors.pauseSpent ∧
        t.counter .settle = s.counter .settle) ∧
      ((∀ e, e ≠ d → (s.door e).isOpen = false) →
        t.doors.pauseSpent = false ∧
        t.doors.pause = (if s.doors.pause = .deferred then .none else s.doors.pause) ∧
        t.counter .settle =
          (if s.doors.pause = .held ∨ s.doors.pause = .suspended then (s.counter .settle).timing 5
            else s.counter .settle)) ∧
      (∀ i, i ≠ .door d → i ≠ .settle → t.counter i = s.counter i) ∧
      t.settings = s.settings ∧ t.scanner = s.scanner ∧ t.arb = s.arb ∧ t.air = s.air ∧ t.comp = s.comp ∧
      t.link = s.link

/-- R73, R147, R148: how a door pause ends. A suspended one leaves its frame's place on the stack. A held one releases
the path: at the SETTLE expiry with nothing on the stack and no zone calling IDLE is entered (R60, R70); at the PAUSE
expiry a SLOT frame that keeps TIME and ROUTE, whose zone calls and whose route the dampers stand at, serves on with
the time that remained (R71), and the pause is spent while a door is open. R50, R70, R71, R122, R147, R148: the end of
a HELD pause releases the path, whatever lies on the stack and whether a defrost is PENDING or not (`PathReleased`,
told from the state the end leaves: no pause, both counters stopped). -/
def Obligations.PauseEndsAtSettleOrPauseExpiry : Prop :=
  (∀ s : State, Settled s → SettingsLaw s →
     ((s.counter .settle).run = true → s.doors.pause = .suspended →
       exec .settleExpiry s =
         .next (startNote
           { s with
             bank := (s.bank.set .settle { s.counter .settle with run := false, count := 0, part := 0 }).set .pause
               (s.counter .pause).stop
             doors := { s.doors with pause := .none, pauseSpent := false }
             arb := { s.arb with stack := s.arb.stack.filter fun f => !f.isDoor } })) ∧
     ((s.counter .settle).run = true → s.doors.pause = .held → s.arb.holder = .door → s.arb.stack = [] →
       s.defr.phase ≠ .pending → s.arb.commitPending = false → (∀ z, (s.zone z).calling = false) →
       ∃ t, exec .settleExpiry s = .next (startNote t) ∧
         t.arb = { s.arb with holder := .nobody, fullEnd := none } ∧
         t.doors = { s.doors with pause := .none, pauseSpent := false } ∧ (t.counter .settle).run = false ∧
         (t.counter .pause).run = false ∧ t.air.fan.requested = s.arb.active.idle.fanDuty ∧
         (t.damper .fresh).target = (s.arb.active.idle.freshOpen * 480 + 50) / 100 ∧
         (t.damper .chill).target = (s.arb.active.idle.chillOpen * 480 + 50) / 100 ∧ t.comp.demand = .auto none ∧
         t.settings = s.settings ∧ t.zones = s.zones ∧ t.scanner = s.scanner ∧ t.link = s.link) ∧
     (∀ (mask : Nat) (z : Zone) (p : SlotPhase) (fixed : Bool) (remaining : Nat) (route : Route),
       (s.counter .pause).run = true → s.doors.pause = .held → s.arb.holder = .door →
       s.arb.stack = [.slot mask z p fixed remaining (some route)] → mask = 3 → remaining ≠ 0 →
       (s.zone z).calling = true → s.defr.phase ≠ .pending →
       (∀ d, (s.damper d).state = .ready ∧ (s.damper d).position = some (s.damper d).target) →
       (s.damper .fresh).target = (route.freshOpen * 480 + 50) / 100 →
       (s.damper .chill).target = (route.chillOpen * 480 + 50) / 100 →
       ∃ t, exec .pauseExpiry s = .next (startNote t) ∧
         t.arb =
           { s.arb with
             holder := .slot
               { zone := z, phase := p, fixed := fixed, route := route, source := .snapshot, serving := true }
             stack := [] } ∧
         t.counter .slot = (s.counter .slot).timing remaining ∧ (t.counter .pause).run = false ∧
         (t.counter .settle).run = false ∧
         t.doors.pause = .none ∧ (t.doors.pauseSpent = true ↔ ∃ e, (s.door e).isOpen = true) ∧
         t.doors.recs = s.doors.recs ∧ t.air.dampers = s.air.dampers ∧ t.air.fan.requested = route.fanDuty ∧
         t.comp.demand = .auto route.floor ∧
         t.settings = s.settings ∧ t.zones = s.zones ∧ t.scanner = s.scanner ∧ t.link = s.link)) ∧
  (∀ (c : Instr) (w s : State), Settled s → SettingsLaw s → HeaterLaw s → ResumeLaw s → s.doors.pause = .held →
     s.arb.holder = .door → (∀ f ∈ s.arb.stack, f.isDefrost = false) →
     (c = .settleExpiry ∧ (s.counter .settle).run = true ∧
         w =
           { s with
             bank :=
               (s.bank.set .settle { s.counter .settle with run := false, count := 0, part := 0 }).set .pause
                 (s.counter .pause).stop
             doors := { s.doors with pause := .none, pauseSpent := false } } ∨
       c = .pauseExpiry ∧ (s.counter .pause).run = true ∧
         w =
           { s with
             bank :=
               (s.bank.set .pause { s.counter .pause with run := false, count := 0, part := 0 }).set .settle
                 (s.counter .settle).stop
             doors :=
               { s.doors with
                 pause := .none
                 pauseSpent :=
                   s.doors.recs.freshLeft.isOpen || s.doors.recs.freshRight.isOpen || s.doors.recs.chillDrawer.isOpen ||
                     s.doors.recs.freezeDrawer.isOpen } }) →
     ∃ t, exec c s = .next (startNote t) ∧ PathReleased w t)

/-! ### Zone alarms -/

/-- R167, R168: the ALM expiry asserts the condition that was being timed, and ends the timing. R166, R172: a level
that changes is stored and sets its delta, a level already in force changes nothing; ATTN follows the masked deltas,
and a delta that goes from no to yes under its mask bit makes a NOTE pending. R167, R168: an evaluation of a zone's
alarms. Good samples with Tf back inside the margin of 20 dC negate ZONE_WARM and ZONE_COLD. A true warm test with
ZONE_WARM negated starts ALM for WARM, a true cold test with ZONE_COLD negated starts it for COLD if no warm timing
stands, a timing whose test is true goes on, and any other is stopped. -/
def Obligations.AlarmsLevelsAndDeltas : Prop :=
  (∀ (z : Zone) (s : State), Settled s → (s.counter (.alm z)).run = true →
     ((s.alarm z).almFor = .warm →
       exec (.almExpiry z) s =
         .next (startNote
           { s with
             bank := s.bank.set (.alm z) { s.counter (.alm z) with run := false, count := 0, part := 0 }
             cond :=
               { s.cond.setLevel (.zoneWarm z) true with
                 alarms := s.cond.alarms.set z { s.alarm z with almFor := .none } } })) ∧
     ((s.alarm z).almFor = .cold →
       exec (.almExpiry z) s =
         .next (startNote
           { s with
             bank := s.bank.set (.alm z) { s.counter (.alm z) with run := false, count := 0, part := 0 }
             cond :=
               { s.cond.setLevel (.zoneCold z) true with
                 alarms := s.cond.alarms.set z { s.alarm z with almFor := .none } } }))) ∧
  (∀ (i : Cond) (b : Bool) (c : Conditions),
     (c.level i = b → c.setLevel i b = c) ∧
     (c.level i ≠ b →
       (c.setLevel i b).level i = b ∧ (c.setLevel i b).deltas.getLsbD i.id = true ∧
       (∀ n : Nat, n ≠ i.id → (c.setLevel i b).levels.getLsbD n = c.levels.getLsbD n ∧
         (c.setLevel i b).deltas.getLsbD n = c.deltas.getLsbD n) ∧
       ((c.setLevel i b).notePending = true ↔
         c.notePending = true ∨ (c.deltas.getLsbD i.id = false ∧ c.mask.getLsbD i.id = true)) ∧
       ((c.setLevel i b).attn = true ↔
         ∃ n : Nat, n ≤ 26 ∧ (c.setLevel i b).deltas.getLsbD n = true ∧ c.mask.getLsbD n = true) ∧
       (c.setLevel i b).mask = c.mask ∧ (c.setLevel i b).alarms = c.alarms ∧
       (c.setLevel i b).defrostHolds = c.defrostHolds)) ∧
  (∀ (z : Zone) (cause : AlarmCause) (warm cold : Prop) (warmBack coldBack : Bool) (levels : Conditions) (s : State),
     SettingsLaw s →
     (warm ↔ (s.zone z).warmArmed = true ∧ s.mode z ≠ .off ∧ (s.zone z).subst = .absent ∧
       s.cond.defrostHolds = false ∧ cause ≠ .badSample ∧
       ∃ t ∈ (s.alarm z).tfInUse, s.sEff z + s.eff (.alarmHi z) ≤ t) →
     (cold ↔ s.mode z ≠ .off ∧ cause ≠ .badSample ∧ ∃ t ∈ (s.alarm z).tfInUse, t ≤ s.sEff z - s.eff (.alarmLo z)) →
     (warmBack = true ↔ cause = .goodSample ∧ ∃ t ∈ (s.alarm z).tfInUse, t ≤ s.sEff z + s.eff (.alarmHi z) - 20) →
     (coldBack = true ↔ cause = .goodSample ∧ ∃ t ∈ (s.alarm z).tfInUse, s.sEff z - s.eff (.alarmLo z) + 20 ≤ t) →
     levels =
       (s.cond.setLevel (.zoneWarm z) (s.level (.zoneWarm z) && !warmBack)).setLevel (.zoneCold z)
         (s.level (.zoneCold z) && !coldBack) →
     (warm → s.level (.zoneWarm z) = false →
       evalAlarm z cause s =
         { s with
           bank :=
             if (s.alarm z).almFor = .warm then s.bank
             else s.bank.set (.alm z) ((s.counter (.alm z)).timing (s.effN .alarmDelay * 60))
           cond := { levels with alarms := s.cond.alarms.set z { s.alarm z with almFor := .warm } } }) ∧
     ((¬ warm ∨ s.level (.zoneWarm z) = true) → ¬ ((s.alarm z).almFor = .warm ∧ warm) → (s.alarm z).almFor ≠ .cold →
       cold → s.level (.zoneCold z) = false →
       evalAlarm z cause s =
         { s with
           bank := s.bank.set (.alm z) ((s.counter (.alm z)).timing (s.effN .alarmDelay * 60))
           cond := { levels with alarms := s.cond.alarms.set z { s.alarm z with almFor := .cold } } }) ∧
     ((¬ warm ∨ s.level (.zoneWarm z) = true) →
       ((s.alarm z).almFor = .warm ∧ warm ∨ (s.alarm z).almFor = .cold ∧ cold ∨
         (s.alarm z).almFor = .none ∧ ¬ (cold ∧ s.level (.zoneCold z) = false)) →
       evalAlarm z cause s = { s with cond := levels }) ∧
     ((¬ warm ∨ s.level (.zoneWarm z) = true) →
       ((s.alarm z).almFor = .warm ∧ ¬ warm ∧ ¬ (cold ∧ s.level (.zoneCold z) = false) ∨
         (s.alarm z).almFor = .cold ∧ ¬ cold) →
       evalAlarm z cause s =
         { s with
           bank := s.bank.set (.alm z) (s.counter (.alm z)).stop
           cond := { levels with alarms := s.cond.alarms.set z { s.alarm z with almFor := .none } } }))

/-! ### Laws of the device -/

/-- The laws hold of the part right after a reset. -/
def Obligations.ResetSatisfiesTheLaws : Prop :=
  AttnLaw State.reset ∧ ConditionBitsLaw State.reset ∧ HeaterLaw State.reset ∧ SpeedLineLaw State.reset ∧
    PlanLaw State.reset ∧ StackLaw State.reset ∧ DebtLaw State.reset ∧ LinkLaw State.reset ∧ SettingsLaw State.reset ∧
    UrgencyLaw State.reset ∧ OffLaw State.reset ∧ RouteLaw State.reset ∧ DamperLaw State.reset ∧
    SpeedLaw State.reset ∧ FrostLaw State.reset ∧ CurveLaw State.reset ∧ ResumeLaw State.reset ∧ ClaimLaw State.reset

/-- R169, R171: every step of the block, whatever the command or the tick, keeps ATTN at the masked deltas and the
unused bits of the condition sets at 0. -/
def Obligations.EveryStepKeepsAttn : Prop :=
  (∀ s t : State, AttnLaw s → step s = .next t → AttnLaw t) ∧
  ∀ s t : State, ConditionBitsLaw s → step s = .next t → ConditionBitsLaw t

/-- R99, R100, R118, R132: every step of the block keeps the heater off while the compressor is RUNNING, the
sequencer's knowledge of the compressor right, and the speed line low in every state but RUNNING. R118, R136: it keeps
resume_heat no but in STOP_WAIT (`ResumeLaw`). R100, R102, R104,
R107: where the settings and the routes are in their limits it keeps the command and the target of a RUNNING compressor
multiples of 30 within N_MIN..N_MAX as they stand. -/
def Obligations.EveryStepKeepsHeaterAndSpeedLine : Prop :=
  (∀ s t : State, HeaterLaw s → step s = .next t → HeaterLaw t) ∧
  (∀ s t : State, SpeedLineLaw s → step s = .next t → SpeedLineLaw t) ∧
  (∀ s t : State, ResumeLaw s → step s = .next t → ResumeLaw t) ∧
  ∀ s t : State, SettingsLaw s → RouteLaw s → SpeedLaw s → step s = .next t → SpeedLaw t

/-- R4, R13, R24, R61, R62: every step of the block keeps both plans within the route limits and every debt within
0..60000. R9: it keeps a zone in OFF not calling, at D 0 and U 0, and without the running slot. R15: where the settings
are in their ranges it keeps every urgency within 0..65535. -/
def Obligations.EveryStepKeepsPlansAndDebts : Prop :=
  (∀ s t : State, PlanLaw s → step s = .next t → PlanLaw t) ∧
  (∀ s t : State, DebtLaw s → step s = .next t → DebtLaw t) ∧
  (∀ s t : State, OffLaw s → step s = .next t → OffLaw t) ∧
  ∀ s t : State, SettingsLaw s → UrgencyLaw s → step s = .next t → UrgencyLaw t

/-- R66 to R73: every step of the block keeps the suspension stack one of those of R69. R50, R122, R144: it lets no claim
wait while the path has no holder or a slot (`ClaimLaw`). R51, R61, R67, R71: it keeps the
route in use and every route on the stack within the route limits, with the plans. R80, R81: where the routes are in
their limits it keeps every damper's target and position within 0..480. -/
def Obligations.EveryStepKeepsTheStack : Prop :=
  (∀ s t : State, StackLaw s → step s = .next t → StackLaw t) ∧
  (∀ s t : State, ClaimLaw s → step s = .next t → ClaimLaw t) ∧
  (∀ s t : State, RouteLaw s → step s = .next t → RouteLaw t) ∧
  ∀ s t : State, RouteLaw s → DamperLaw s → step s = .next t → DamperLaw t

/-- R176, R177, R178: every step of the block keeps the buffer and the queue within their sizes, and leaves the link
with no reply it could send and no request it could take. -/
def Obligations.EveryStepKeepsTheLink : Prop := ∀ s t : State, LinkLaw s → step s = .next t → LinkLaw t

/-- R129, R183, R184, R185, R186: every step of the block keeps every item's effective value within its range, and
N_MIN and N_MAX multiples of 30. R40, R41: it keeps both curves at 17 breakpoints. R118, R119: it keeps F within
0..65535. -/
def Obligations.EveryStepKeepsTheSettings : Prop :=
  (∀ s t : State, SettingsLaw s → step s = .next t → SettingsLaw t) ∧
  (∀ s t : State, CurveLaw s → step s = .next t → CurveLaw t) ∧
  ∀ s t : State, FrostLaw s → step s = .next t → FrostLaw t

end Statements
end

