-- ==== Sys2Proof/Tests/Slice0.lean ====
section
/-! SUPPORT. Tests: the ill-formed commands that the check refuses, the spec's worked examples for single commands, and
for each obligation with hypotheses a state and operands that meet them, clause by clause at the clauses' bounds.
Expected values are the spec's own (cited) or hand calculation from its rules. -/

namespace Sys2Proof.Tests

open Sys2Proof Sys2Proof.Machine

/-! ### Ill-formed commands -/

theorem test_wf_frame_without_start : Instr.wf (.requestFrameReceived [0x00#8, 0x02#8, 0x01#8, 0x05#8, 0xD8#8]) = false := by
  decide
theorem test_wf_frame_len_1 : Instr.wf (.requestFrameReceived [0xC3#8, 0x01#8, 0x01#8, 0xD8#8]) = false := by decide
theorem test_wf_frame_cut_short : Instr.wf (.requestFrameReceived [0xC3#8, 0x02#8, 0x01#8, 0x05#8]) = false := by decide
theorem test_wf_frame_len_65 :
    Instr.wf (.requestFrameReceived (0xC3#8 :: 0x41#8 :: List.replicate 66 0#8)) = false := by decide
theorem test_wf_unknown_kind_that_is_known : Instr.wf (.unknownKind 0x0E#8 1#8 []) = false := by decide
theorem test_wf_unknown_kind_body_63 : Instr.wf (.unknownKind 0x0F#8 1#8 (List.replicate 63 0#8)) = false := by decide
theorem test_wf_set_of_profile : Instr.wf (.set 1#8 0x00#8 0#16) = false := by decide
theorem test_wf_set_of_mode : Instr.wf (.set 1#8 0x15#8 0#16) = false := by decide
theorem test_wf_curve_load_empty : Instr.wf (.curveLoad 1#8 0#8 []) = false := by decide
theorem test_wf_curve_load_18 : Instr.wf (.curveLoad 1#8 0#8 (List.replicate 18 0#16)) = false := by decide

/-- A conversion set with one code for every channel. -/
def setOf (code : Nat) : SampleSet :=
  { codes := ⟨code, code, code, code, code⟩, heaterSense := false, compFlt := false }

theorem test_wf_round_of_7 : Instr.wf (.roundCompletion (List.replicate 7 (setOf 0))) = false := by decide
theorem test_wf_round_code_4096 : Instr.wf (.roundCompletion (List.replicate 8 (setOf 4096))) = false := by decide
theorem test_wf_round : Instr.wf (.roundCompletion (List.replicate 8 (setOf 4095))) = true := by decide
theorem test_wf_frame : Instr.wf (.requestFrameReceived [0xC3#8, 0x02#8, 0x01#8, 0x05#8, 0xD8#8]) = true := by decide

/-! ### Single steps of the spec's examples -/

/-- The state a step leaves. -/
def after (c : Instr) (s : State) : State :=
  match step { s with pending := [c] } with
  | .next t => t
  | .fault _ => s
  | .refused _ => s

/-- Right after a reset. -/
def r0 : State := State.reset

/-- An ordinary FRESH slot on the default route. -/
def slotF (phase : SlotPhase) (serving : Bool) : Slot :=
  { zone := .fresh, phase := phase, fixed := false, route := ⟨100, 0, 70, none⟩, source := .plan, serving := serving }

def held (h : Holder) (stack : List SuspFrame) (s : State) : State := { s with arb := { s.arb with holder := h, stack := stack } }
def running (i : CounterId) (n : Nat) (s : State) : State := s.setCounter i { Counter.cleared with run := true, count := n }
def halted (i : CounterId) (n : Nat) (s : State) : State := s.setCounter i { Counter.cleared with count := n }
def inPhase (p : DefrostPhase) (s : State) : State := { s with defr := { s.defr with phase := p } }
def fanIn (f : FanState) (req : Nat) (s : State) : State :=
  { s with air := { s.air with fan := { s.air.fan with state := f, requested := req } } }
/-- A compressor in that state with that guard and demand, known to the sequencer. -/
def compIn (st : CompState) (g : GuardUse) (d : Demand) (s : State) : State :=
  { s with
    comp := { s.comp with state := st, guard := g, demand := d, command := if st = .running then 1200 else 0
                          target := if st = .running then 1200 else 0 }
    defr := { s.defr with compState := st } }
def calls (z : Zone) (u : Nat) (s : State) : State := s.onZone z fun r => { r with calling := true, urgency := u }
def doorAt (d : Door) (isOpen : Bool) (s : State) : State := s.onDoor d fun r => { r with isOpen := isOpen, raw := isOpen }
def level (i : Cond) (s : State) : State := { s with cond := { s.cond with levels := putBit s.cond.levels i.id true } }
def pausing (p : PauseState) (s : State) : State := { s with doors := { s.doors with pause := p } }
def modeSet (z : Zone) (v : Int) (s : State) : State := { s with settings := s.settings.write (.mode z) (some v) }

/-- The example frame of 10.5, received: its answer is the IDENT reply. -/
theorem test_ident_frame :
    (after (.requestFrameReceived [0xC3#8, 0x02#8, 0x01#8, 0x05#8, 0xD8#8]) r0).link.tx =
      some ⟨⟨0x81#8, 0x05#8, [0x00#8, 0x3C#8, 0x01#8, 0x00#8, 0x00#8]⟩, 0⟩ := by decide +kernel

/-- The worked table of 11: SET AJAR_TIME 20 is CLAMPED to 30. -/
theorem test_set_ajar_time :
    (after (.set 1#8 0x61#8 20#16) r0).link.tx =
      some ⟨⟨0x83#8, 0x01#8, [0x01#8, 0x61#8, 0x00#8, 30#8, 0x00#8]⟩, 0⟩ := by decide +kernel

/-- R102's example: N_MIN 1200, N_MAX 4500, U 1200 and 330, ambient 284: 2580. -/
theorem test_auto_target :
    State.autoTarget ({ calls .freeze 330 (calls .fresh 1200 r0) with comp := { r0.comp with ambient := 284 } } : State)
      none = 2580 := by decide +kernel

/-- R13's example: S_eff 37, D 1185, Tf 52 gives D 1200. -/
theorem test_debt : debtAfter 1185 52 37 = 1200 := by decide

/-- R31's example: Tf 49, T 160 fails the STEP test, 149 passes. -/
theorem test_step_test :
    stepTooFar { ChannelRec.cleared 3 with tf := some 49 } 160 = true ∧
      stepTooFar { ChannelRec.cleared 3 with tf := some 49 } 149 = false := by decide

/-- R32's table of conversions through the default curve. -/
theorem test_conversion_table :
    convert defaultCurve 2344 = 42 ∧ convert defaultCurve 2330 = 45 ∧ convert defaultCurve 3145 = -180 ∧
      convert defaultCurve 4063 = -494 := by decide

/-- R33's table of filter updates. -/
theorem test_filter_table :
    (filterTake 42 { ChannelRec.cleared 3 with acc := some 400, tf := some 50 }).tf = some 49 ∧
      (filterTake (-166) { ChannelRec.cleared 3 with acc := some (-1440), tf := some (-180) }).tf = some (-179) ∧
      (filterTake 95 { ChannelRec.cleared 0 with acc := some 80, tf := some 80 }).tf = some 95 := by decide

/-- A calling zone of R59's example. -/
def asking (z : Zone) (u wait : Nat) (s : State) : State := running (.wait z) wait (calls z u s)

/-- R59's example, last_served CHILL: FREEZE of the two that have waited 2600 s; FRESH had FREEZE waited 2300 s; CHILL by
urgency had neither aged. -/
theorem test_arbitration_example :
    (∀ s : State, s = { r0 with arb := { r0.arb with lastServed := .chill } } →
      (asking .freeze 240 2600 (asking .chill 1500 300 (asking .fresh 900 2600 s))).choice = some .freeze ∧
        (asking .freeze 240 2300 (asking .chill 1500 300 (asking .fresh 900 2600 s))).choice = some .fresh ∧
        (asking .freeze 240 2300 (asking .chill 1500 300 (asking .fresh 900 2300 s))).choice = some .chill) := by
  rintro _ rfl
  decide +kernel

/-- R185's example: at 4500 rpm a change to profile D limits the command to 3900 at once. -/
theorem test_profile_limits_the_command :
    (after (.setProfile 1#8 3#16)
      { compIn .running .none (.auto none) r0 with
        comp := { (compIn .running .none (.auto none) r0).comp with command := 4500, target := 4500 } }).comp.command =
      3900 := by decide +kernel

/-- R81's table: 65 % is 312 steps. -/
theorem test_opening_steps : stepsOf 65 = 312 ∧ stepsOf 80 = 384 ∧ stepsOf 25 = 120 := by decide

/-- R181: a code that names no order is answered NOT_APPLICABLE. -/
theorem test_unknown_order :
    (performFrame ⟨0x04#8, 1#8, [0x09#8]⟩ r0).1 = .refuse .notApplicable := by decide +kernel

/-- R141: an opening is counted modulo 65536. -/
theorem test_opening_count_wraps :
    ((after (.doorOpening .freshLeft) (r0.onDoor .freshLeft fun r => { r with openCount := 65535 })).door .freshLeft).openCount =
      0 := by decide +kernel

/-- R145: a freezer width of 59 s leaves 5 of frost, another door's 59 s leaves 1. -/
theorem test_frost_of_width : frostOf .freezeDrawer 59 = 5 ∧ frostOf .freshLeft 59 = 1 := by decide

/-- R160: the largest period, 65535, is 45 rpm (R90). -/
theorem test_slowest_rpm : rpmOf 65535 = 45 := by decide

/-- An order that the block decodes from no table bits. -/
theorem test_no_table_bits : decodeTableWord 8 1 = none := by decide

/-! ### What the hypotheses ask for -/

theorem settled_r0 : Settled r0 := And.intro (by decide) (And.intro (by decide) (by decide))

theorem settled {t : State} (hl : t.link = r0.link) (ho : t.own.signalled = r0.own.signalled) : Settled t :=
  settled_r0.of_eq hl ho

theorem accepting {t : State} (hl : t.link = r0.link) (ho : t.own.signalled = r0.own.signalled) : Accepting t := by
  have h : Accepting r0 := And.intro (by decide) (And.intro (by decide) (And.intro (by decide) (by decide)))
  simpa [Accepting, State.executorFree, hl, ho] using h

/-- The settings law, item by item. -/
def settingsFit (t : Settings) : Bool :=
  Item.all.all (fun i => decide (i.range.1 ≤ t.eff i) && decide (t.eff i ≤ i.range.2)) && decide (t.eff .nMin % 30 = 0) &&
    decide (t.eff .nMax % 30 = 0)

theorem mem_all (i : Item) : i ∈ Item.all := by
  cases i with
  | setpoint z => cases z <;> decide
  | mode z => cases z <;> decide
  | hOn z => cases z <;> decide
  | hOff z => cases z <;> decide
  | weight z => cases z <;> decide
  | slotMax z => cases z <;> decide
  | lossPolicy z => cases z <;> decide
  | alarmHi z => cases z <;> decide
  | alarmLo z => cases z <;> decide
  | saveMask c => cases c <;> decide
  | filterShift c => cases c <;> decide
  | _ => decide

theorem fits {s : State} (h : settingsFit s.settings = true) : SettingsLaw s := by
  simp only [settingsFit, Bool.and_eq_true, List.all_eq_true, decide_eq_true_eq] at h
  exact And.intro (fun i => h.1.1 i (mem_all i)) (And.intro h.1.2 h.2)

theorem lawful {s : State} (h : s.settings = r0.settings) : SettingsLaw s :=
  fits (by rw [h]; decide +kernel)

/-- Ready for a request, with lawful settings. -/
def Ready (s : State) : Prop := Accepting s ∧ SettingsLaw s

theorem ready {t : State} (hl : t.link = r0.link) (ho : t.own.signalled = r0.own.signalled)
    (hs : t.settings = r0.settings) : Ready t := And.intro (accepting hl ho) (lawful hs)

/-- Ready for an event, with lawful settings. -/
def Quiet (s : State) : Prop := Settled s ∧ SettingsLaw s

theorem quiet {t : State} (hl : t.link = r0.link) (ho : t.own.signalled = r0.own.signalled)
    (hs : t.settings = r0.settings) : Quiet t := And.intro (settled hl ho) (lawful hs)

theorem noResume {s : State} (h : s.defr.resumeHeat = false) : ResumeLaw s := fun hr => by simp [h] at hr

/-! ### One witness for each obligation with hypotheses -/

theorem wit_StepRunsTheFrontCommand : ({ r0 with pending := [.tachEdge, .rxTimeout] } : State).pending = .tachEdge :: [.rxTimeout] ∧
    r0.pending = [] := by decide

theorem wit_RequestFramesReadBack :
    (Request.curveLoad 0#8 [0#16]).wf ∧ (Request.curveLoad 0#8 (List.replicate 17 0#16)).wf ∧ Request.stackView.wf :=
  And.intro (And.intro (by decide) (by decide)) (And.intro (And.intro (by decide) (by decide)) trivial)

theorem wit_WholeFrameIsReceived :
    (([] : List Byte).length ≤ 62 ∧ (List.replicate 62 (0#8 : Byte)).length ≤ 62 ∧ r0.link.rx.state = .hunt) ∧
      (0xD9#8 : Byte) ≠ crc8 [0x02#8, 0x01#8, 0x05#8] := by decide +kernel

/-- The receiver in that state. -/
def rxIn (st : RxState) (len : Nat) (got : List Byte) (s : State) : State :=
  { s with link := { s.link with rx := ⟨st, len, got, 0⟩ } }

/-- Settled with the link idle but for the receiver. -/
theorem settled_rx (st : RxState) (len : Nat) (got : List Byte) : Settled (rxIn st len got r0) :=
  And.intro rfl (And.intro (Or.inl rfl) fun _ => rfl)

theorem wit_ReceiverByState :
    Settled r0 ∧ (r0.link.rx.state = .hunt ∧ (0xC4#8 : Byte) ≠ 0xC3#8) ∧
      (Settled (rxIn .length 0 [] r0) ∧ (rxIn .length 0 [] r0).link.rx.state = .length ∧ 2 ≤ (0x02#8 : Byte).toNat ∧
        (0x40#8 : Byte).toNat ≤ 64 ∧ (0x01#8 : Byte).toNat < 2 ∧ 64 < (0x41#8 : Byte).toNat) ∧
      (Settled (rxIn .content 2 [0x01#8] r0) ∧ (rxIn .content 2 [0x01#8] r0).link.rx.state = .content) ∧
      (Settled (rxIn .check 2 [0x01#8, 0x05#8] r0) ∧ (0xD9#8 : Byte) ≠ crc8 [0x02#8, 0x01#8, 0x05#8] ∧
        (0xD8#8 : Byte) = crc8 [0x02#8, 0x01#8, 0x05#8]) :=
  ⟨settled_r0, by decide, ⟨settled_rx _ _ _, by decide⟩, ⟨settled_rx _ _ _, by decide⟩, settled_rx _ _ _, by decide +kernel⟩

/-- A waiting executor with that many frames in the buffer. -/
def waiting (n : Nat) : State :=
  { r0 with link := { r0.link with restarting := true, requests := List.replicate n ⟨0x01#8, 0#8, []⟩ } }

theorem wit_RequestBufferTakesTwo :
    (Settled (waiting 1) ∧ (waiting 1).executorFree = false ∧ (waiting 1).link.rx = ⟨.hunt, 0, [], 0⟩ ∧
      (waiting 1).link.requests.length < 2) ∧
    (Settled (waiting 2) ∧ (waiting 2).executorFree = false ∧ 2 ≤ (waiting 2).link.requests.length) ∧
    (⟨0x01#8, 0#8, List.replicate 62 0#8⟩ : Frame).body.length ≤ 62 :=
  ⟨⟨And.intro rfl (And.intro (Or.inr rfl) fun _ => rfl), by decide⟩,
    ⟨And.intro rfl (And.intro (Or.inr rfl) fun _ => rfl), by decide⟩, by decide⟩

theorem wit_RepliesAndRefusedFrames :
    (0x7F#8 : Byte).toNat < 0x80 ∧ (Accepting r0 ∧ isRequestKind 0x0F#8 = false ∧ isRequestKind 0x00#8 = false) ∧
      (isRequestKind 0x08#8 = true ∧ ¬ acceptedLength 0x08 1 ∧ acceptedLength 0x08 3 ∧ acceptedLength 0x08 35 ∧
        ¬ acceptedLength 0x08 37) :=
  ⟨by decide, ⟨accepting rfl rfl, by decide, by decide⟩, by decide, by simp [acceptedLength], by simp [acceptedLength],
    by simp [acceptedLength], by simp [acceptedLength]⟩

/-- A state that sends a frame with those replies queued. -/
def sending (replies : List Frame) (requests : List Frame) (restarting : Bool) (s : State) : State :=
  { s with
    link :=
      { s.link with
        tx := some ⟨⟨0x81#8, 0#8, [0#8]⟩, 0⟩, replies := replies, requests := requests, restarting := restarting } }

theorem wit_FrameSentBeginsTheNext :
    (r0.own.signalled = [] ∧ r0.link.requests = [] ∧ r0.link.tx = none ∧ r0.link.replies = [] ∧
      r0.cond.notePending = true) ∧
    ({ r0 with cond := { r0.cond with notePending := false } } : State).cond.notePending = false ∧
    ((sending [⟨0x82#8, 0#8, []⟩] [] false r0).own.signalled = [] ∧ (sending [⟨0x82#8, 0#8, []⟩] [] false r0).link.requests = [] ∧
      (sending [⟨0x82#8, 0#8, []⟩] [] false r0).link.replies = [⟨0x82#8, 0#8, []⟩]) ∧
    ((sending [] [] false r0).link.replies = [] ∧ (sending [] [] false r0).link.restarting = false ∧
      (sending [] [] false r0).cond.notePending = true ∧ (sending [] [] false r0).cond.maskedDeltas ≠ 0#32) ∧
    ((sending [] [] false { r0 with cond := { r0.cond with mask := 0#32 } }).cond.notePending = true ∧
      (sending [] [] false { r0 with cond := { r0.cond with mask := 0#32 } }).cond.maskedDeltas = 0#32) ∧
    (sending [] [] false { r0 with cond := { r0.cond with notePending := false } }).cond.notePending = false ∧
    ((sending (List.replicate 4 ⟨0x82#8, 0#8, []⟩) [Request.frame 7#8 .ident] false r0).link.requests =
        [Request.frame 7#8 .ident] ∧
      (sending (List.replicate 4 ⟨0x82#8, 0#8, []⟩) [Request.frame 7#8 .ident] false r0).link.restarting = false) := by
  decide

theorem wit_RestartIsCarriedOutAfterItsReply :
    Accepting r0 ∧ ((sending [] [] true r0).link.tx = some ⟨⟨0x81#8, 0#8, [0#8]⟩, 0⟩ ∧
      (sending [] [] true r0).link.restarting = true ∧ (sending [] [] true r0).link.replies = []) :=
  ⟨accepting rfl rfl, by decide⟩

/-- No writable item has that id. -/
theorem no_item (b : Byte) (h : Item.all.all (fun i => decide (b.toNat ≠ i.id)) = true) (i : Item) : b.toNat ≠ i.id :=
  of_decide_eq_true (List.all_eq_true.mp h i (mem_all i))

theorem wit_IdentAndGetAnswered :
    Accepting r0 ∧ (0x10#8 : Byte).toNat = (Item.setpoint .fresh).id ∧ (0x6A#8 : Byte).toNat = (Item.filterShift .ambient).id ∧
      ((∀ i : Item, (0xE7#8 : Byte).toNat ≠ i.id) ∧ r0.readOnly? (0xE7#8 : Byte).toNat = some 0) ∧
      ((∀ i : Item, (0x01#8 : Byte).toNat ≠ i.id) ∧ r0.readOnly? (0x01#8 : Byte).toNat = none) :=
  ⟨accepting rfl rfl, by decide, by decide, ⟨no_item _ (by decide), by decide⟩, no_item _ (by decide), by decide⟩

theorem wit_RefusedSetsStoreNothing :
    Accepting r0 ∧ (∀ i : Item, (0x80#8 : Byte).toNat ≠ i.id) ∧ (∀ i : Item, (0xFF#8 : Byte).toNat ≠ i.id) ∧
      ((0x24#8 : Byte).toNat = 0x22 + zoneCode .freeze ∧ (3#16 : Half).toInt ≠ -32768 ∧ 2 < (3#16 : Half).toInt ∧
        (0xFFFF#16 : Half).toInt < 0) ∧
      ((4#16 : Half).toInt ≠ -32768 ∧ 3 < (4#16 : Half).toInt ∧ ((3#16 : Half).toInt = 3 ∧ Zone.fresh ≠ .chill) ∧
        ((2#16 : Half).toInt = 2 ∧ Zone.chill ≠ .fresh)) ∧ (0x8000#16 : Half).toInt = -32768 :=
  ⟨accepting rfl rfl, no_item _ (by decide), no_item _ (by decide), by decide, by decide, by decide⟩

theorem wit_SetStoresLimitedValue :
    (Accepting r0 ∧ (Item.hOn .fresh).readAtUse = true ∧ (0x8000#16 : Half).toInt = -32768 ∧
      (0x7FFF#16 : Half).toInt ≠ -32768) ∧
    (300 ≤ (300#16 : Half).toInt ∧ (7200#16 : Half).toInt ≤ 7200 ∧ r0.eff .svcMax ≠ (300#16 : Half).toInt) :=
  ⟨⟨accepting rfl rfl, by decide, by decide, by decide⟩, by decide⟩

theorem wit_WrittenValueIsEffective : Item.nMax ≠ Item.nMin := by decide

theorem wit_SetProfileSelectsDefaults :
    let s : State := compIn .running .none (.auto none) r0;
      Accepting s ∧ (4#16 : Half).toInt ≠ -32768 ∧ 3 = (max 0 (min 3 (4#16 : Half).toInt)).toNat ∧
        (s.defr.phase = .idle →
          ({ s with settings := { s.settings with profile := 3 } } : State).defrostDue = false) ∧
        s.comp.state = .running ∧ 3 ≠ s.settings.profile ∧ s.settings.follows .nMax = true ∧
        s.settings.follows .nMin = true ∧ Item.default 3 .nMax ≠ Item.default s.settings.profile .nMax := by
  exact ⟨accepting rfl rfl, by decide⟩

theorem wit_SetModeHolidayAndOff :
    (Accepting r0 ∧ SettingsLaw r0 ∧ r0.mode .fresh = .normal ∧ (2#16 : Half).toInt = 2) ∧
    (Accepting (modeSet .fresh 2 r0) ∧ SettingsLaw (modeSet .fresh 2 r0) ∧ (modeSet .fresh 2 r0).mode .fresh = .holiday ∧
      (0#16 : Half).toInt = 0) ∧
    (StackLaw r0 ∧ NoClaimWaits r0 ∧ r0.mode .chill = .normal) :=
  ⟨⟨accepting rfl rfl, lawful rfl, by decide, by decide⟩,
    ⟨accepting rfl rfl, fits (by decide +kernel), by decide, by decide⟩,
    (trivial : stackAllowed .nobody []), And.intro (by decide) (by decide), by decide⟩

theorem wit_StartDefrostByPhaseAndHolder :
    (Ready (level .heaterStuck r0) ∧ (level .heaterStuck r0).defr.phase = .idle ∧
      (level .heaterStuck r0).level .heaterStuck = true) ∧
    (Ready (inPhase .pending r0) ∧ (inPhase .pending r0).defr.phase ≠ .idle) ∧
    (Ready (held .door [] r0) ∧ (held .door [] r0).defr.phase = .idle ∧ (held .door [] r0).level .heaterStuck = false ∧
      (held .door [] r0).arb.holder = .door) ∧
    (Ready (held .service [] r0) ∧ (held .service [] r0).arb.holder = .service) ∧
    (Ready r0 ∧ r0.effN .prechillTime ≠ 0 ∧ r0.defr.compState ≠ .lockout ∧ r0.level .heaterStuck = false ∧
      r0.defr.phase = .idle ∧ r0.arb.holder = .nobody) ∧
    (Ready (held (.slot (slotF .min true)) [] r0) ∧
      (held (.slot (slotF .min true)) [] r0).arb.holder = .slot (slotF .min true)) :=
  ⟨⟨ready rfl rfl rfl, by decide⟩, ⟨ready rfl rfl rfl, by decide⟩, ⟨ready rfl rfl rfl, by decide⟩,
    ⟨ready rfl rfl rfl, by decide⟩, ⟨ready rfl rfl rfl, by decide⟩, ready rfl rfl rfl, by decide⟩

/-- A defrost that was suspended by a service hold. -/
def suspended (p : DefrostPhase) (s : State) : State :=
  held .service [.defrost 2] { s with defr := { s.defr with phase := p, suspended := true } }

theorem wit_AbortDefrostByPhase :
    (Ready r0 ∧ r0.defr.phase = .idle) ∧ (Ready (inPhase .recover r0) ∧ (inPhase .recover r0).defr.phase = .recover) ∧
    (Ready (inPhase .pending r0) ∧ (inPhase .pending r0).defr.phase = .pending ∧
      (inPhase .pending r0).arb.holder ≠ .defrost) ∧
    (Ready (suspended .preChill r0) ∧ (suspended .preChill r0).defr.phase = .preChill ∧
      (suspended .preChill r0).defr.suspended = true) ∧
    (Ready (inPhase .stopWait (held .defrost [] r0)) ∧
      (inPhase .stopWait (held .defrost [] r0)).defr.phase = .stopWait ∧
      (inPhase .stopWait (held .defrost [] r0)).defr.resumeHeat = false ∧
      (inPhase .stopWait (held .defrost [] r0)).defr.suspended = false ∧
      (inPhase .stopWait (held .defrost [] r0)).arb.holder = .defrost ∧
      (inPhase .stopWait (held .defrost [] r0)).arb.stack = [] ∧
      (inPhase .stopWait (held .defrost [] r0)).doors.pause ≠ .deferred) ∧
    (Ready (inPhase .heat r0) ∧ (inPhase .heat r0).defr.suspended = false ∧ (inPhase .heat r0).defr.phase = .heat) :=
  ⟨⟨ready rfl rfl rfl, by decide⟩, ⟨ready rfl rfl rfl, by decide⟩, ⟨ready rfl rfl rfl, by decide⟩,
    ⟨ready rfl rfl rfl, by decide⟩, ⟨ready rfl rfl rfl, by decide⟩, ready rfl rfl rfl, by decide⟩

theorem wit_HoldTakesThePath :
    (Ready r0 ∧ r0.arb.holder ≠ .service) ∧ (Ready (held .service [] r0) ∧ (held .service [] r0).arb.holder = .service) ∧
      (Ready (inPhase .heat (held .defrost [] r0)) ∧ (inPhase .heat (held .defrost [] r0)).arb.holder = .defrost) :=
  ⟨⟨ready rfl rfl rfl, by decide⟩, ⟨ready rfl rfl rfl, by decide⟩, ready rfl rfl rfl, by decide⟩

theorem wit_ReleaseEndsTheHold :
    (Ready r0 ∧ r0.arb.holder ≠ .service) ∧
    (Ready (held .service [] r0) ∧ (held .service [] r0).arb.holder = .service ∧ (held .service [] r0).arb.stack = [] ∧
      NoClaimWaits (held .service [] r0)) :=
  ⟨⟨ready rfl rfl rfl, by decide⟩, ready rfl rfl rfl, by decide, by decide, And.intro (by decide) (by decide)⟩

theorem wit_ReleaseResumesThePoppedFrame :
    (Ready (held .service [.door 3] r0) ∧ (held .service [.door 3] r0).arb.holder = .service ∧
      (held .service [.door 3] r0).arb.stack = .door 3 :: []) ∧
    (let s : State := halted .phase 900 (suspended .heat r0);
      Ready s ∧ HeaterLaw s ∧ s.arb.holder = .service ∧ s.arb.stack = .defrost 2 :: [] ∧ s.defr.phase = .heat ∧
        (s.counter .phase).run = false ∧ (s.counter .phase).count ≠ 0 ∧ s.level .heaterStuck = false ∧
        s.comp.state ≠ .running) ∧
    (let s : State := compIn .running .minOn .stop (halted .phase 900 (suspended .heat r0));
      Ready s ∧ HeaterLaw s ∧ s.arb.holder = .service ∧ s.arb.stack = .defrost 2 :: [] ∧ s.defr.phase = .heat ∧
        (s.counter .phase).run = false ∧ (s.counter .phase).count ≠ 0 ∧ s.level .heaterStuck = false ∧
        s.comp.state = .running ∧ s.comp.guard = .minOn) := by
  refine ⟨⟨ready rfl rfl rfl, by decide⟩, ?_, ?_⟩ <;>
    exact ⟨ready rfl rfl rfl, And.intro (by decide) (by decide), by decide⟩

theorem wit_ClearFaultEndsLockout :
    (Ready r0 ∧ r0.comp.state ≠ .lockout) ∧
    (Ready (compIn .lockout .minOff (.auto none) r0) ∧ (compIn .lockout .minOff (.auto none) r0).comp.state = .lockout) :=
  ⟨⟨ready rfl rfl rfl, by decide⟩, ready rfl rfl rfl, by decide⟩

theorem wit_PlanCommitByHolder :
    (Ready (held .door [] r0) ∧ (held .door [] r0).arb.holder ≠ .nobody) ∧
    (Ready r0 ∧ r0.arb.holder = .nobody ∧ NoClaimWaits r0) :=
  ⟨⟨ready rfl rfl rfl, by decide⟩, ready rfl rfl rfl, by decide, And.intro (by decide) (by decide)⟩

/-- A state with that staged curve. -/
def staging (curve : List Int) : State := { r0 with scanner := { r0.scanner with staged := curve } }

theorem wit_CurveCommitChecksTheStagedCurve :
    Accepting (staging defaultCurve) ∧
      ((∀ v ∈ (staging defaultCurve).scanner.staged, -500 ≤ v ∧ v ≤ 700) ∧
        (staging defaultCurve).scanner.staged.Pairwise (· > ·)) ∧
      ¬ (∀ v ∈ (staging (701 :: defaultCurve.tail)).scanner.staged, -500 ≤ v ∧ v ≤ 700) ∧
      ¬ ((staging (List.replicate 17 0)).scanner.staged.Pairwise (· < ·) ∨
        (staging (List.replicate 17 0)).scanner.staged.Pairwise (· > ·)) :=
  ⟨accepting rfl rfl, by decide, by decide, by decide⟩

theorem wit_ZonePlanStackAndConditionsViews :
    Accepting r0 ∧ 3 ≤ (0x03#8 : Byte).toNat ∧ 2 ≤ (0x02#8 : Byte).toNat := ⟨accepting rfl rfl, by decide, by decide⟩

theorem wit_CounterViewAnswersTheRecord :
    Accepting r0 ∧ CounterId.all[25]? = some .svc ∧ CounterId.all[0]? = some .scan ∧ 26 ≤ (0x1A#8 : Byte).toNat :=
  ⟨accepting rfl rfl, by decide, by decide, by decide⟩

theorem wit_PlanStageLimitsTheRoute :
    Accepting r0 ∧
      ((0x02#8 : Byte) = byteOf (zoneCode .freeze) ∧ 100 = (max 0 (min 100 (101#16 : Half).toInt)).toNat ∧
        0 = (max 0 (min 100 (0xFFFF#16 : Half).toInt)).toNat ∧ 25 = (max 25 (min 100 (24#16 : Half).toInt)).toNat ∧
        (some 900 : Option Nat) = some ((max 900 (min 5400 (929#16 : Half).toInt)) / 30 * 30).toNat) ∧
      (0 : Nat) = (if (0#16 : Half).toInt ≤ 0 then 0 else max 25 (min 100 (0#16 : Half).toInt)).toNat ∧
      4 ≤ (0x04#8 : Byte).toNat :=
  ⟨accepting rfl rfl, by decide, by decide, by decide⟩

theorem wit_CurveLoadWritesTheStagedCurve :
    Accepting r0 ∧ r0.scanner.staged.length = 17 ∧ 1 ≤ [(5#16 : Half)].length ∧
      (0x10#8 : Byte).toNat + [(5#16 : Half)].length ≤ 17 ∧ 17 < (0x11#8 : Byte).toNat + [(5#16 : Half)].length :=
  ⟨accepting rfl rfl, by decide, by decide, by decide, by decide⟩

theorem wit_ClearDeltasAndNotifyMask : Accepting r0 := accepting rfl rfl

theorem wit_ServiceDriveByItsFields :
    (Accepting r0 ∧ r0.arb.holder ≠ .service) ∧
    (Accepting (held .service [] (compIn .lockout .minOff .stop r0)) ∧
      (held .service [] (compIn .lockout .minOff .stop r0)).comp.state = .lockout ∧ 0 < (1#16 : Half).toInt) ∧
    (Accepting (held .service [] r0) ∧ (held .service [] r0).arb.holder = .service ∧
      ¬ ((held .service [] r0).comp.state = .lockout ∧ 0 < (1#16 : Half).toInt) ∧ 0 < (1#16 : Half).toInt) ∧
    (SettingsLaw (held .service [] r0) ∧
      ¬ ((0 < (0#16 : Half).toInt ∨ ((0#16 : Half).toInt = -32768 ∧ (held .service [] r0).defr.svcHeater = true)) ∧
        ((held .service [] r0).comp.state = .running ∨ 0 < (1#16 : Half).toInt)) ∧ (0xFFFF#16 : Half).toInt = -1) :=
  ⟨⟨accepting rfl rfl, by decide⟩, ⟨accepting rfl rfl, by decide⟩, ⟨accepting rfl rfl, by decide⟩, lawful rfl, by decide⟩

theorem wit_RoundCompletionTakesTheRound :
    ((r0.counter .scan).run = true ∧ r0.link.requests = []) ∧
    ((ChannelRec.cleared 3).state ≠ .lost ∧ ((ChannelRec.cleared 3).state = .valid → (ChannelRec.cleared 3).bad = 0) ∧
      ¬ ((32 : Nat) ≤ 31 ∨ 4064 ≤ (32 : Nat)) ∧ ¬ ((4063 : Nat) ≤ 31 ∨ 4064 ≤ (4063 : Nat)) ∧
      (ChannelRec.cleared 3).tf = none) ∧
    (|(149 : Int) - 49| ≤ 100 ∧ 100 < |(150 : Int) - 49|) := by decide

theorem wit_TrustedSampleAddsTheError :
    (r0.zone .fresh).debt ≤ 60000 ∧ (r0.zone .fresh).subst = .absent ∧
      ((r0.zone .fresh).calling = true → r0.sEff .fresh - r0.eff (.hOff .fresh) < 46) ∧
      ((r0.zone .fresh).calling = false → 46 < r0.sEff .fresh + r0.eff (.hOn .fresh)) ∧
      r0.sEff .fresh + r0.eff (.hOn .fresh) = 47 := by decide

theorem wit_BoostExpiryReturnsToNormal :
    Settled (running (.boost .chill) 1 (modeSet .chill 1 r0)) ∧ SettingsLaw (running (.boost .chill) 1 (modeSet .chill 1 r0)) ∧
      ((running (.boost .chill) 1 (modeSet .chill 1 r0)).counter (.boost .chill)).run = true ∧
      (running (.boost .chill) 1 (modeSet .chill 1 r0)).mode .chill = .boost :=
  ⟨settled rfl rfl, fits (by decide +kernel), by decide, by decide⟩

/-- FRESH holds the path with SLOT at its last second. -/
def slotEnd : State := running .slot 1 (held (.slot (slotF .min true)) [] r0)

theorem wit_SlotExpiryExtendsOrEnds :
    (Settled (calls .fresh 9 slotEnd) ∧ (calls .fresh 9 slotEnd).arb.holder = .slot (slotF .min true) ∧
      ((calls .fresh 9 slotEnd).zone .fresh).calling = true ∧
      (calls .fresh 9 slotEnd).eff .slotMin < (calls .fresh 9 slotEnd).eff (.slotMax .fresh) ∧
      ((calls .fresh 9 slotEnd).counter .slot).run = true) ∧
    (Settled slotEnd ∧ SettingsLaw slotEnd ∧ StackLaw slotEnd ∧ NoClaimWaits slotEnd ∧ (slotEnd.counter .slot).run = true ∧
      (∀ z, (slotEnd.zone z).calling = false) ∧ slotEnd.arb.commitPending = false) :=
  ⟨⟨settled rfl rfl, by decide⟩, settled rfl rfl, lawful rfl, (trivial : stackAllowed (.slot _) []),
    And.intro (by decide) (by decide), by decide, by intro z; cases z <;> rfl, by decide⟩

theorem wit_ArbitrationChoosesByAgeThenUrgency :
    (calls .chill 8 (calls .fresh 9 r0)).choice = some .fresh ∧
      (running (.wait .chill) 2400 (calls .chill 8 (calls .fresh 9 r0))).choice = some .chill ∧ r0.choice = none := by
  decide +kernel

/-- A service hold over a FRESH slot frame whose mask is 1. -/
def holdEnd : State := running .svc 1 (held .service [.slot 1 .fresh .min false 60 (some ⟨100, 0, 70, none⟩)] r0)

theorem wit_SvcExpiryEndsTheHold :
    Settled holdEnd ∧ SettingsLaw holdEnd ∧ NoClaimWaits holdEnd ∧ holdEnd.arb.holder = .service ∧
      holdEnd.arb.stack = [.slot 1 .fresh .min false 60 (some ⟨100, 0, 70, none⟩)] ∧
      (∀ y, (holdEnd.zone y).calling = false) ∧ holdEnd.arb.commitPending = false ∧ (holdEnd.counter .svc).run = true :=
  ⟨settled rfl rfl, lawful rfl, And.intro (by decide) (by decide), by decide, by decide, by intro z; cases z <;> rfl,
    by decide, by decide⟩

/-- A damper in that state, at a position and a target. -/
def damperIn (d : Damper) (st : DamperState) (p : Option Nat) (t : Nat) (s : State) : State :=
  s.onDamper d fun r => { r with state := st, position := p, target := t }

/-- A switching FRESH slot that waits for its own damper. -/
def switching : State :=
  halted .slot 120 (damperIn .chill .ready (some 0) 0 (damperIn .fresh .moving (some 479) 480
    (held (.slot (slotF .min false)) [] r0)))

theorem wit_DamperMoveAndHomingEnd :
    (let s : State := damperIn .chill .moving (some 479) 480 r0;
        Settled s ∧ s.arb.holder = .nobody ∧
        (s.damper .chill).state = .moving) ∧
      (let s : State := damperIn .fresh .homing none 0 (held .service [] r0);
        Settled s ∧ s.arb.holder = .service ∧
        (s.damper .fresh).state = .homing ∧ (s.damper .fresh).target = 0) ∧
      (let s : State := switching;
        Quiet s ∧ NoClaimWaits s ∧ s.arb.holder = .slot (slotF .min false) ∧
        (s.damper .fresh).state = .moving ∧ (s.damper .chill).state = .ready ∧
        (s.damper .chill).position = some (s.damper .chill).target ∧ (s.counter .slot).run = false ∧
        (s.counter .slot).count ≠ 0 ∧ s.air.fan.state = .stopped ∧ (slotF .min false).route.fanDuty ≠ 0) := by
  refine ⟨?_, ?_, ?_⟩
  · exact ⟨settled rfl rfl, by decide⟩
  · exact ⟨settled rfl rfl, by decide⟩
  · exact ⟨quiet rfl rfl rfl, And.intro (by decide) (by decide), by decide⟩

theorem wit_FanTimeExpiryByFanState :
    (let s : State := running .fantime 1 (fanIn .kick 70 r0);
        Settled s ∧ (s.counter .fantime).run = true ∧
        s.air.fan.state = .kick) ∧
      (let s : State := running .fantime 1 (fanIn .rest 0 r0);
        Settled s ∧ (s.counter .fantime).run = true ∧
        s.air.fan.state = .rest ∧ s.air.fan.requested = 0) ∧
      (let s : State := running .fantime 1 (fanIn .retryWait 70 r0);
        Settled s ∧ (s.counter .fantime).run = true ∧
        s.air.fan.state = .retryWait ∧ s.air.fan.requested ≠ 0 ∧ (s.counter .tach).run = false) ∧
      (let s : State := running .fantime 1 (fanIn .run 70 r0);
        Settled s ∧ (s.counter .fantime).run = true ∧
        s.air.fan.state = .run) := by
  refine ⟨?_, ?_, ?_, ?_⟩ <;> exact ⟨settled rfl rfl, by decide⟩

/-- A running TACH. -/
def tachAt (n : Nat) (first : Bool) (s : State) : State :=
  s.setCounter .tach { Counter.cleared with run := true, count := n, firstEdge := first }

/-- A fan in RUN two overflows into a stall, with that many stalls before. -/
def stalling (n : Nat) (s : State) : State :=
  { s with air := { s.air with fan := { s.air.fan with state := .run, overflowRun := 2, stallCount := n } } }

theorem wit_TachEdgeAndOverflow :
    (let s : State := r0;
        Settled s ∧ (s.counter .tach).run = false) ∧
      (let s : State := tachAt 0 false (fanIn .run 70 r0);
        Settled s ∧ (s.counter .tach).firstEdge = false ∧
        (s.counter .tach).count = 0) ∧
      (let s : State := tachAt 0 true (fanIn .kick 70 r0);
        Settled s ∧ (s.counter .tach).run = true ∧
        (s.counter .tach).firstEdge = true ∧ s.air.fan.state = .kick) ∧
      (let s : State := tachAt 1 false (fanIn .run 70 r0);
        Settled s ∧ (s.counter .tach).run = true ∧
        (s.counter .tach).firstEdge = false ∧ (s.counter .tach).count ≠ 0) ∧
      (let s : State := tachAt 65535 false (fanIn .run 70 r0);
        Settled s ∧ (s.counter .tach).run = true ∧
        s.air.fan.state = .run ∧ s.air.fan.overflowRun < 2) ∧
      (let s : State := tachAt 65535 false (stalling 1 r0);
        Settled s ∧ (s.counter .tach).run = true ∧ s.air.fan.state = .run ∧
        s.air.fan.overflowRun = 2 ∧ s.air.fan.stallCount < 2) ∧
      (let s : State := tachAt 65535 false (stalling 2 r0);
        Settled s ∧ (s.counter .tach).run = true ∧ s.air.fan.state = .run ∧
        s.air.fan.overflowRun = 2 ∧ 2 ≤ s.air.fan.stallCount) := by
  refine ⟨?_, ?_, ?_, ?_, ?_, ?_, ?_⟩ <;> exact ⟨settled rfl rfl, by decide⟩

theorem wit_RampAndCondrunExpiry :
    (let s : State := compIn .running .none (.fixed 3000) r0;
        Quiet s ∧ (s.counter .ramp).run = true ∧
        s.comp.state = .running ∧ s.comp.demand = .fixed 3000 ∧ s.defr.compState = .running) ∧
      (let s : State := running .condrun 1 r0;
        Quiet s ∧ (s.counter .condrun).run = true) := by
  refine ⟨?_, ?_⟩ <;> exact ⟨quiet rfl rfl rfl, by decide⟩

theorem wit_AutoTargetFormula :
    SettingsLaw r0 ∧ r0.comp.fanCap = false ∧ ({ r0.comp with fanCap := true } : Compressor).fanCap = true ∧
      0 = min (r0.effN .uFull) ((if r0.zones.fresh.calling then r0.zones.fresh.urgency else 0) +
        (if r0.zones.chill.calling then r0.zones.chill.urgency else 0) +
        (if r0.zones.freeze.calling then r0.zones.freeze.urgency else 0)) ∧ ¬ r0.eff .ambRef < r0.comp.ambient :=
  ⟨lawful rfl, by decide, by decide, by decide, by decide⟩

theorem wit_GuardExpiryByStateAndDemand :
    (let s : State := compIn .off .minOff (.fixed 3000) r0;
        Quiet s ∧ (s.counter .guard).run = true ∧
        s.comp.demand = .fixed 3000 ∧ s.comp.state = .off ∧ s.defr.phase = .idle) ∧
      (let s : State := compIn .running .minOn (.fixed 3000) r0;
        Quiet s ∧ (s.counter .guard).run = true ∧
        s.comp.demand = .fixed 3000 ∧ s.comp.state = .running ∧ s.defr.compState = .running) ∧
      (let s : State := compIn .running .minOn .stop r0;
        Quiet s ∧ (s.counter .guard).run = true ∧ s.comp.state = .running ∧
        s.comp.demand = .stop ∧ s.defr.phase ≠ .stopWait ∧ s.defr.phase ≠ .heat) := by
  refine ⟨?_, ?_, ?_⟩ <;> exact ⟨quiet rfl rfl rfl, by decide⟩

/-- One round with COMP_FLT asserted, after that many faults. -/
def faultRounds (faults : Nat) (s : State) : State := { s with comp := { s.comp with fltRounds := 1, faultCount := faults } }

theorem wit_SecondFaultRoundStopsTheCompressor :
    (let s : State := faultRounds 2 r0;
        SettingsLaw s ∧ s.comp.state = .off ∧ s.comp.fltRounds = 1 ∧
        3 ≤ s.comp.faultCount + 1) ∧
      (let s : State := faultRounds 1 (compIn .running .none .stop r0);
        SettingsLaw s ∧ s.comp.state = .running ∧
        s.comp.fltRounds = 1 ∧ s.comp.faultCount + 1 < 3) := by
  refine ⟨?_, ?_⟩ <;> exact ⟨lawful rfl, by decide⟩

/-- GAP one increment before MAX_GAP. -/
def gapNearMax (s : State) : State := running .gap 4319 s

theorem wit_FrostAndGapGrow :
    (let s : State := compIn .running .none .stop r0;
        Settled s ∧ (s.counter .runsec).run = true ∧
        s.defr.compState = .running ∧
        ¬ ((s.effN .fDue ≤ 1 ∧ s.effN .minGap ≤ (s.counter .gap).count) ∨ s.effN .maxGap ≤ (s.counter .gap).count)) ∧
      (let s : State := r0;
        Settled s ∧ (s.counter .gap).run = true ∧ (s.counter .gap).count < 65535 ∧
        ¬ ((s.effN .fDue ≤ s.defr.frost ∧ s.effN .minGap ≤ (s.counter .gap).count + 1) ∨
          s.effN .maxGap ≤ (s.counter .gap).count + 1)) ∧
      (let s : State := gapNearMax (held .door [] r0);
        Settled s ∧ (s.counter .gap).run = true ∧ (s.counter .gap).count < 65535 ∧
        s.defr.phase = .idle ∧ s.level .heaterStuck = false ∧ s.effN .maxGap ≤ (s.counter .gap).count + 1 ∧
        s.arb.holder = .door) := by
  refine ⟨?_, ?_, ?_⟩ <;> exact ⟨settled rfl rfl, by decide⟩

/-- A defrost in that phase that holds the path, PHASE at its last second. -/
def phaseEnd (p : DefrostPhase) (s : State) : State := running .phase 1 (inPhase p (held .defrost [] s))

theorem wit_PrechillExpiryLeadsToHeat :
    (let s : State := phaseEnd .preChill (compIn .running .minOn .stop r0);
        Quiet s ∧ HeaterLaw s ∧ s.defr.phase = .preChill ∧ (s.counter .phase).run = true ∧ s.defr.suspended = false ∧
          s.defr.resumeHeat = false ∧ s.arb.holder = .defrost ∧ s.comp.state = .running ∧ s.comp.guard = .minOn) ∧
      (let s : State := phaseEnd .preChill r0;
        Quiet s ∧ HeaterLaw s ∧ s.defr.phase = .preChill ∧ (s.counter .phase).run = true ∧ s.defr.suspended = false ∧
          s.defr.resumeHeat = false ∧ s.arb.holder = .defrost ∧ s.comp.state ≠ .running) := by
  refine ⟨?_, ?_⟩ <;> exact ⟨quiet rfl rfl rfl, And.intro (by decide) (by decide), by decide⟩

theorem wit_HeatTimeoutEntersDrip :
    (let s : State := phaseEnd .heat r0;
      Quiet s ∧ HeaterLaw s ∧ s.defr.phase = .heat ∧ (s.counter .phase).run = true ∧
        s.defr.suspended = false ∧ s.arb.holder = .defrost ∧ s.comp.state ≠ .running ∧ s.defr.coilTimed = false ∧
        s.level .heaterOpen = false) ∧
    (let s : State := phaseEnd .heat (level .heaterOpen r0);
      Quiet s ∧ HeaterLaw s ∧ s.defr.phase = .heat ∧ (s.counter .phase).run = true ∧
        s.defr.suspended = false ∧ s.arb.holder = .defrost ∧ s.comp.state ≠ .running ∧ s.level .heaterOpen = true) ∧
    (let s : State := phaseEnd .heat { r0 with defr := { r0.defr with coilTimed := true } };
      Quiet s ∧ HeaterLaw s ∧ s.defr.phase = .heat ∧ (s.counter .phase).run = true ∧
        s.defr.suspended = false ∧ s.arb.holder = .defrost ∧ s.comp.state ≠ .running ∧ s.defr.coilTimed = true ∧
        s.level .heaterOpen = false) := by
  refine ⟨?_, ?_, ?_⟩ <;> exact ⟨quiet rfl rfl rfl, And.intro (by decide) (by decide), by decide⟩

theorem wit_DripAndRecoverExpiry :
    (Settled (phaseEnd .drip r0) ∧ SettingsLaw (phaseEnd .drip r0) ∧ ((phaseEnd .drip r0).counter .phase).run = true ∧
      (phaseEnd .drip r0).defr.suspended = false ∧ (phaseEnd .drip r0).arb.holder = .defrost ∧
      (phaseEnd .drip r0).defr.phase = .drip) ∧
    (Settled (phaseEnd .recover r0) ∧ SettingsLaw (phaseEnd .recover r0) ∧ (phaseEnd .recover r0).defr.phase = .recover ∧
      (phaseEnd .recover r0).arb.stack = [] ∧ (phaseEnd .recover r0).doors.pause ≠ .deferred ∧
      (phaseEnd .recover r0).arb.commitPending = false ∧ ∀ z, ((phaseEnd .recover r0).zone z).calling = false) :=
  ⟨⟨settled rfl rfl, lawful rfl, by decide⟩, settled rfl rfl, lawful rfl, by decide, by decide, by decide, by decide,
    by intro z; cases z <;> rfl⟩

/-- Every door is closed where the first door to open is told of. -/
theorem wit_DoorOpeningAndWidth_closed :
    (∀ e, (r0.door e).isOpen = false) ∧ ∀ e, ((held .defrost [] r0).door e).isOpen = false := by
  constructor <;> intro e <;> cases e <;> rfl

theorem wit_DoorOpeningAndWidth :
    (let s : State := doorAt .freshLeft true r0;
        Quiet s ∧ (s.door .freshLeft).isOpen = true) ∧
      (let s : State := running .settle 3 (pausing .held (held .door [] r0));
        Quiet s ∧ (s.door .freshLeft).isOpen = false ∧
        s.doors.pause = .held ∧ (s.counter .settle).run = true) ∧
      (let s : State := doorAt .freezeDrawer true r0;
        Quiet s ∧ (s.door .freshLeft).isOpen = false ∧
        (Door.freezeDrawer ≠ .freshLeft ∧ (s.door .freezeDrawer).isOpen = true) ∧ s.doors.pause = .none) ∧
      (let s : State := held .defrost [] r0;
        Quiet s ∧ s.doors.pause = .none ∧ s.doors.pauseSpent = false ∧
        s.arb.holder = .defrost) ∧
      (let s : State := r0;
        Quiet s ∧ s.doors.pause = .none ∧ s.doors.pauseSpent = false ∧ s.arb.holder = .nobody) ∧
      (let s : State := running (.door .freshLeft) 65535 (doorAt .freshLeft true r0);
        Quiet s ∧
        (s.counter (.door .freshLeft)).run = true ∧ 65535 ≤ (s.counter (.door .freshLeft)).count) ∧
      (let s : State := running (.door .freshLeft) 178 (doorAt .freshLeft true r0);
        Quiet s ∧
        (s.counter (.door .freshLeft)).run = true ∧ (s.door .freshLeft).isOpen = true ∧
        (s.counter (.door .freshLeft)).count + 1 < s.effN .ajarTime) ∧
      (let s : State := running (.door .freshLeft) 179 (doorAt .freshLeft true r0);
        Quiet s ∧
        (s.counter (.door .freshLeft)).run = true ∧ (s.door .freshLeft).isOpen = true ∧
        (s.door .freshLeft).ajar = false ∧ s.effN .ajarTime ≤ (s.counter (.door .freshLeft)).count + 1) := by
  refine ⟨?_, ?_, ?_, ?_, ?_, ?_, ?_, ?_⟩ <;> exact ⟨quiet rfl rfl rfl, by decide⟩

/-- FRESH left door open for 10 s, the shortest width that gives a credit. -/
def openTen : State := running (.door .freshLeft) 10 (doorAt .freshLeft true r0)

theorem wit_DoorCloseGivesItsWidth :
    Settled openTen ∧ SettingsLaw openTen ∧ (openTen.door .freshLeft).isOpen = true ∧
      (openTen.counter (.door .freshLeft)).run = true ∧
      80 = (if openTen.effN .recoveryMinOpen ≤ (openTen.counter (.door .freshLeft)).count then
        min 6000 ((openTen.counter (.door .freshLeft)).count * openTen.effN .recoveryGain) else 0) ∧
      0 = min 65535 (openTen.defr.frost + (openTen.counter (.door .freshLeft)).count / 30) ∧
      ¬ (openTen.mode .fresh = .off ∨ (openTen.zone .fresh).subst = .forceCall) ∧
      ¬ ((openTen.effN .fDue ≤ 0 ∧ openTen.effN .minGap ≤ (openTen.counter .gap).count) ∨
        openTen.effN .maxGap ≤ (openTen.counter .gap).count) :=
  ⟨settled rfl rfl, lawful rfl, by decide, by decide, by decide, by decide, by decide, by decide⟩

/-- DOOR holds over a FRESH slot frame, the dampers at its route. -/
def pauseEnd : State :=
  running .pause 1 (damperIn .chill .ready (some 0) 0 (damperIn .fresh .ready (some 480) 480
    (calls .fresh 9 (pausing .held (held .door [.slot 3 .fresh .extend false 60 (some ⟨100, 0, 70, none⟩)] r0)))))

theorem wit_PauseEndsAtSettleOrPauseExpiry :
    (let s : State := running .settle 1 (pausing .suspended (held .service [.door 3] r0));
        Quiet s ∧
        (s.counter .settle).run = true ∧ s.doors.pause = .suspended) ∧
      (let s : State := running .settle 1 (pausing .held (held .door [] r0));
        Quiet s ∧ (s.counter .settle).run = true ∧
        s.doors.pause = .held ∧ s.arb.holder = .door ∧ s.arb.stack = [] ∧ s.defr.phase ≠ .pending ∧
        s.arb.commitPending = false ∧ s.zones = r0.zones) ∧
      (let s : State := pauseEnd;
        Quiet s ∧ (s.counter .pause).run = true ∧ s.doors.pause = .held ∧ s.arb.holder = .door ∧
        s.arb.stack = [.slot 3 .fresh .extend false 60 (some ⟨100, 0, 70, none⟩)] ∧ (s.zone .fresh).calling = true ∧
        s.defr.phase ≠ .pending ∧ ((s.damper .fresh).state = .ready ∧ (s.damper .chill).state = .ready) ∧
        (s.damper .fresh).position = some (s.damper .fresh).target ∧
        (s.damper .chill).position = some (s.damper .chill).target ∧
        (s.damper .fresh).target = (100 * 480 + 50) / 100 ∧ (s.damper .chill).target = (0 * 480 + 50) / 100) := by
  refine ⟨?_, ?_, ?_⟩ <;> exact ⟨quiet rfl rfl rfl, by decide⟩

/-- FRESH timing an alarm. -/
def alarming (a : AlmFor) : State := running (.alm .fresh) 1 (r0.onAlarm .fresh fun r => { r with almFor := a })

theorem wit_AlarmsLevelsAndDeltas :
    (let s : State := alarming .warm;
        Settled s ∧ (s.counter (.alm .fresh)).run = true ∧
        (s.alarm .fresh).almFor = .warm) ∧
      (let s : State := alarming .cold;
        Settled s ∧ (s.counter (.alm .fresh)).run = true ∧ (s.alarm .fresh).almFor = .cold) ∧
      (let s : State := r0;
        s.cond.level .fanFault = false ∧ s.cond.level .fanFault ≠ true) := by
  refine ⟨?_, ?_, ?_⟩
  · exact ⟨settled rfl rfl, by decide⟩
  · exact ⟨settled rfl rfl, by decide⟩
  · decide

/-- Every law holds of a state with a command to take: right after a reset, a tachometer edge waiting. -/
def edgeWaits : State := { r0 with pending := [.tachEdge] }

theorem wit_EveryStepKeepsAttn : edgeWaits.cond.attn = true ∧ edgeWaits.cond.deltas.getLsbD 26 = true ∧
    edgeWaits.cond.mask.getLsbD 26 = true := by decide

theorem wit_EveryStepKeepsHeaterAndSpeedLine : HeaterLaw edgeWaits ∧ SpeedLineLaw edgeWaits :=
  ⟨And.intro (by decide) (by decide), fun _ => And.intro (by decide) (by decide)⟩

theorem wit_EveryStepKeepsPlansAndDebts : PlanLaw edgeWaits ∧ DebtLaw edgeWaits := by
  refine ⟨?_, fun z => by cases z <;> decide⟩
  simp [PlanLaw, Plan.inLimits, Route.zoneInLimits, Route.idleInLimits, floorInLimits, edgeWaits, r0, State.reset, defaultPlan]

theorem wit_EveryStepKeepsTheStack : StackLaw (suspended .heat r0) := (trivial : stackAllowed .service [.defrost 2])

theorem wit_EveryStepKeepsTheLink : LinkLaw edgeWaits :=
  And.intro (by decide) (And.intro (by decide) (And.intro (by decide) (by decide)))

theorem wit_EveryStepKeepsTheSettings : SettingsLaw edgeWaits := lawful rfl

/-! ### Witnesses for the clauses that tell of owners, substitutions, faults and alarms -/

theorem wit_RepliesAndRefusedFrames_order :
    Accepting r0 ∧ r0.link.rx = ⟨.hunt, 0, [], 0⟩ ∧ (0x00#8 : Byte).toNat = 0 ∧ 8 < (0x09#8 : Byte).toNat :=
  ⟨accepting rfl rfl, by decide⟩

theorem wit_IdentAndGetAnswered_readOnly :
    Accepting r0 ∧ ((0x80, -32768) ∈ readOnlyTable r0 ∧ (0xE7, 0) ∈ readOnlyTable r0) ∧
      (∀ i : Item, (0x8A#8 : Byte).toNat ≠ i.id) ∧ (∀ p ∈ readOnlyTable r0, (0x8A#8 : Byte).toNat ≠ p.1) ∧
      (∀ i : Item, (0x01#8 : Byte).toNat ≠ i.id) ∧ ∀ p ∈ readOnlyTable r0, (0x01#8 : Byte).toNat ≠ p.1 :=
  ⟨accepting rfl rfl, by decide +kernel, no_item _ (by decide), by decide +kernel, no_item _ (by decide), by decide +kernel⟩

/-- A request can be taken, resume_heat is as `ResumeLaw` has it, and a SET of the item to that value changes its
effective value. -/
def Changing (i : Item) (v : Int) (s : State) : Prop :=
  Accepting s ∧ (s.defr.resumeHeat = true → s.defr.phase = .stopWait) ∧ (s.stored i v).eff i ≠ s.eff i

/-- A compressor that times its minimum run or its minimum rest. -/
def resting : State := compIn .off .minOff (.auto none) r0
def runningOn : State := compIn .running .minOn (.auto none) r0

theorem wit_SetStoresLimitedValue_lengths :
    (Changing .slotMin 60 (held (.slot (slotF .min true)) [] r0) ∧ (slotF .min true).phase = .min ∧
      (slotF .min true).fixed = false) ∧
    (Changing .slotMin 600 r0 ∧ r0.arb.holder = .nobody) ∧
    (Changing .lostServe 60 (held (.slot { slotF .min true with fixed := true }) [] r0) ∧
      ({ slotF .min true with fixed := true } : Slot).phase = .min) ∧
    Changing .lostServe 1800 (held (.slot (slotF .min true)) [] r0) ∧ Changing .svcMax 300 (held .service [] r0) ∧
    (Changing .minOn 60 runningOn ∧ runningOn.comp.guard = .minOn) ∧
    (Changing .minOn 900 resting ∧ resting.comp.guard ≠ .minOn) ∧
    (Changing .minOff 120 resting ∧ resting.comp.guard = .minOff) ∧
    (Changing .minOff 900 runningOn ∧ runningOn.comp.guard ≠ .minOff) := by
  refine ⟨⟨⟨accepting rfl rfl, ?_⟩, ?_⟩, ⟨⟨accepting rfl rfl, ?_⟩, ?_⟩, ⟨⟨accepting rfl rfl, ?_⟩, ?_⟩,
    ⟨accepting rfl rfl, ?_⟩, ⟨accepting rfl rfl, ?_⟩, ⟨⟨accepting rfl rfl, ?_⟩, ?_⟩, ⟨⟨accepting rfl rfl, ?_⟩, ?_⟩,
    ⟨⟨accepting rfl rfl, ?_⟩, ?_⟩, ⟨accepting rfl rfl, ?_⟩, ?_⟩ <;> decide +kernel

theorem wit_SetStoresLimitedValue_phases :
    (Changing .heatMax 10 (inPhase .heat r0) ∧ (inPhase .heat r0).defr.phase = .heat ∧
      (inPhase .heat r0).defr.coilTimed = false) ∧
    (Changing .heatMax 60 (inPhase .drip r0) ∧ (inPhase .drip r0).defr.phase ≠ .heat) ∧
    (Changing .dripTime 60 (inPhase .drip r0) ∧ (inPhase .drip r0).defr.phase = .drip) ∧
    (Changing .prechillTime 0 (inPhase .preChill r0) ∧ (inPhase .preChill r0).defr.phase = .preChill) ∧
    Changing .doorPauseMax 30 (pausing .held (held .door [] r0)) ∧ Changing .boostLen 1800 (modeSet .chill 1 r0) ∧
    ((r0.stored .boostLen (-32768)).eff .boostLen = r0.eff .boostLen ∧
      (r0.stored .slotMin 120).eff .slotMin = r0.eff .slotMin) := by
  refine ⟨⟨⟨accepting rfl rfl, ?_⟩, ?_⟩, ⟨⟨accepting rfl rfl, ?_⟩, ?_⟩, ⟨⟨accepting rfl rfl, ?_⟩, ?_⟩,
    ⟨⟨accepting rfl rfl, ?_⟩, ?_⟩, ⟨accepting rfl rfl, ?_⟩, ⟨accepting rfl rfl, ?_⟩, ?_⟩ <;> decide +kernel

/-- FRESH in that substitution. -/
def substIn (p : Subst) (s : State) : State := s.onZone .fresh fun r => { r with subst := p }

theorem wit_WrittenValueIsEffective_zones :
    (SettingsLaw r0 ∧ Accepting r0 ∧ ResumeLaw r0 ∧ (r0.stored .uFull 4096).eff .uFull = r0.eff .uFull) ∧
    (Changing (.lossPolicy .fresh) 2 r0 ∧ Changing (.lossPolicy .fresh) 0 r0 ∧ (-32768 : Int) = -32768) ∧
    (Changing (.weight .fresh) 64 (modeSet .fresh 1 r0) ∧ SettingsLaw (modeSet .fresh 1 r0) ∧
      (modeSet .fresh 1 r0).mode .fresh = .boost) ∧
    (Changing (.weight .fresh) 1 (substIn .timed r0) ∧ SettingsLaw (substIn .timed r0) ∧
      (substIn .timed r0).mode .fresh ≠ .off) ∧
    (Changing .uLost 256 (substIn .forceCall r0) ∧ SettingsLaw (substIn .forceCall r0)) ∧
    (Changing (.setpoint .fresh) 80 (modeSet .fresh 2 r0) ∧ SettingsLaw (modeSet .fresh 2 r0) ∧
      (modeSet .fresh 2 r0).mode .fresh = .holiday ∧ ((modeSet .fresh 2 r0).zone .fresh).warmArmed = false) ∧
    (Changing (.setpoint .freeze) (-250) r0 ∧ r0.mode .freeze ≠ .holiday) ∧
    (Changing (.alarmHi .chill) 20 r0 ∧ Changing (.alarmLo .chill) 200 r0 ∧ Changing .alarmDelay 10 r0) := by
  refine ⟨⟨lawful rfl, accepting rfl rfl, noResume rfl, by decide +kernel⟩, ⟨⟨accepting rfl rfl, by decide +kernel⟩,
      ⟨accepting rfl rfl, by decide +kernel⟩, rfl⟩,
    ⟨⟨accepting rfl rfl, by decide +kernel⟩, fits (by decide +kernel), by decide⟩,
    ⟨⟨accepting rfl rfl, by decide +kernel⟩, lawful rfl, by decide⟩, ⟨⟨accepting rfl rfl, by decide +kernel⟩, lawful rfl⟩,
    ⟨⟨accepting rfl rfl, by decide +kernel⟩, fits (by decide +kernel), by decide⟩,
    ⟨⟨accepting rfl rfl, by decide +kernel⟩, by decide⟩, ⟨accepting rfl rfl, by decide +kernel⟩,
    ⟨accepting rfl rfl, by decide +kernel⟩, accepting rfl rfl, by decide +kernel⟩

/-- A frost index that is due at F_DUE 240 and MIN_GAP 360, and one below it. -/
def frosted (n : Nat) (s : State) : State := running .gap 360 { s with defr := { s.defr with frost := n } }

/-- AMBIENT with a temperature. -/
def ambientKnown : State :=
  { r0 with
    scanner :=
      { r0.scanner with
        chan := { r0.scanner.chan with ambient := { ChannelRec.cleared 3 with acc := some 1600, tf := some 200 } } } }

/-- FRESH left door open, its width at that count, its ajar flag down. -/
def openFor (n : Nat) : State := running (.door .freshLeft) n (doorAt .freshLeft true r0)

theorem wit_WrittenValueIsEffective_others :
    (Changing .nMax 3000 (compIn .running .none (.auto none) r0) ∧ SettingsLaw (compIn .running .none (.auto none) r0)) ∧
    (Changing .nMin 2400 resting ∧ resting.comp.state ≠ .running) ∧
    (Changing .ambRef 350 r0 ∧ (r0.channel .ambient).tf = none) ∧
    (Changing .ambRef 150 ambientKnown ∧ SettingsLaw ambientKnown ∧ (ambientKnown.channel .ambient).state ≠ .lost ∧
      (ambientKnown.channel .ambient).tf ≠ none) ∧
    (Changing .fDue 240 (frosted 239 r0) ∧ SettingsLaw (frosted 239 r0)) ∧
    (Changing .fDue 240 (held .door [] (frosted 240 r0)) ∧ SettingsLaw (held .door [] (frosted 240 r0)) ∧
      (held .door [] (frosted 240 r0)).defr.phase = .idle ∧
      (held .door [] (frosted 240 r0)).level .heaterStuck = false ∧
      ((held .door [] (frosted 240 r0)).stored .fDue 240).effN .fDue ≤ (held .door [] (frosted 240 r0)).defr.frost ∧
      ((held .door [] (frosted 240 r0)).stored .fDue 240).effN .minGap ≤
        ((held .door [] (frosted 240 r0)).counter .gap).count) ∧
    (Changing .fDue 240 (frosted 240 r0) ∧ (frosted 240 r0).arb.holder = .nobody) ∧
    (Changing .maxGap 720 (running .gap 720 (held (.slot (slotF .min true)) [] r0)) ∧
      ((running .gap 720 (held (.slot (slotF .min true)) [] r0)).stored .maxGap 720).effN .maxGap ≤
        ((running .gap 720 (held (.slot (slotF .min true)) [] r0)).counter .gap).count) ∧
    (Changing .minGap 120 r0 ∧ Changing .ajarTime 30 (openFor 29) ∧ Changing .ajarTime 30 (openFor 30) ∧
      SettingsLaw (openFor 30)) := by
  refine ⟨⟨⟨accepting rfl rfl, by decide +kernel⟩, lawful rfl⟩, ⟨⟨accepting rfl rfl, by decide +kernel⟩, by decide⟩,
    ⟨⟨accepting rfl rfl, by decide +kernel⟩, by decide⟩,
    ⟨⟨accepting rfl rfl, by decide +kernel⟩, lawful rfl, by decide⟩, ⟨⟨accepting rfl rfl, by decide +kernel⟩, lawful rfl⟩,
    ⟨⟨accepting rfl rfl, by decide +kernel⟩, lawful rfl, by decide +kernel⟩,
    ⟨⟨accepting rfl rfl, by decide +kernel⟩, by decide⟩, ⟨⟨accepting rfl rfl, by decide +kernel⟩, by decide +kernel⟩,
    ⟨accepting rfl rfl, by decide +kernel⟩, ⟨accepting rfl rfl, by decide +kernel⟩, ⟨accepting rfl rfl, by decide +kernel⟩,
    lawful rfl⟩

theorem wit_SetModeHolidayAndOff_boost :
    (Accepting r0 ∧ SettingsLaw r0 ∧ NoClaimWaits r0 ∧ r0.mode .freeze ≠ .boost ∧ r0.mode .freeze ≠ .off ∧
      (r0.zone .freeze).calling = false ∧ (r0.zone .freeze).subst = .absent ∧ r0.arb.holder = .nobody) ∧
    (Accepting (substIn .ignore r0) ∧ SettingsLaw (substIn .ignore r0) ∧ NoClaimWaits (substIn .ignore r0) ∧
      ((substIn .ignore r0).zone .fresh).subst = .ignore) ∧
    (Accepting (modeSet .fresh 1 r0) ∧ SettingsLaw (modeSet .fresh 1 r0) ∧ (modeSet .fresh 1 r0).mode .fresh = .boost ∧
      (0#16 : Half).toInt = 0 ∧ (2#16 : Half).toInt = 2) :=
  ⟨⟨accepting rfl rfl, lawful rfl, And.intro (by decide) (by decide), by decide⟩,
    ⟨accepting rfl rfl, lawful rfl, And.intro (by decide) (by decide), by decide⟩, accepting rfl rfl,
    fits (by decide +kernel), by decide⟩

/-- CHILL in OFF, in that substitution, after that wait. -/
def chillOff (p : Subst) (wait : Nat) : State :=
  running (.wait .chill) wait (modeSet .chill 3 (r0.onZone .chill fun r => { r with subst := p }))

theorem wit_SetModeHolidayAndOff_leaving :
    (∀ p wait, Accepting (chillOff p wait) ∧ SettingsLaw (chillOff p wait) ∧ NoClaimWaits (chillOff p wait) ∧
      OffLaw (chillOff p wait) ∧ (chillOff p wait).mode .chill = .off ∧ (chillOff p wait).arb.holder = .nobody) ∧
    (((chillOff .timed 1800).zone .chill).subst = .timed ∧
      (chillOff .timed 1800).effN .lostPeriod ≤ ((chillOff .timed 1800).counter (.wait .chill)).count) ∧
    ((0#16 : Half).toInt = 0 ∧ (1#16 : Half).toInt = 1) :=
  ⟨fun p wait => ⟨accepting rfl rfl, fits (by show settingsFit (modeSet .chill 3 r0).settings = true; decide +kernel), And.intro (by show PauseState.none ≠ .deferred; decide)
      (by show DefrostPhase.idle ≠ .pending; decide),
    fun z => by cases z <;> intro _ <;> exact ⟨rfl, rfl, rfl, by show (none : Option Zone) ≠ _; decide⟩, rfl, rfl⟩,
    by decide +kernel, by decide⟩

/-- A hold at whose end a waiting commit meets that zone's call. -/
def committing (z : Zone) : State :=
  calls z 9 (held .service [] { r0 with arb := { r0.arb with commitPending := true } })

theorem wit_ReleaseEndsTheHold_grant :
    (Accepting (committing .chill) ∧ SettingsLaw (committing .chill) ∧ NoClaimWaits (committing .chill) ∧
      (committing .chill).arb.holder = .service ∧ (committing .chill).arb.stack = [] ∧
      (committing .chill).arb.commitPending = true ∧ (committing .chill).choice = some .chill) ∧
    (Accepting (held .service [] r0) ∧ (held .service [] r0).choice = none) :=
  ⟨⟨accepting rfl rfl, lawful rfl, And.intro (by decide) (by decide), by decide +kernel⟩, accepting rfl rfl,
    by decide +kernel⟩

/-- All three zones call with one urgency, CHILL served last. -/
def tied : State :=
  { calls .fresh 9 (calls .chill 9 (calls .freeze 9 r0)) with arb := { r0.arb with lastServed := .chill } }

/-- R59: with equal urgencies the scan goes from the successor of last_served; with equal waits at AGE_LIMIT also. -/
theorem wit_ArbitrationChoosesByAgeThenUrgency_tie :
    (tied.choice = some .freeze ∧ tied.candidates = [.fresh, .chill, .freeze] ∧
      ∀ x ∈ tied.candidates, (tied.counter (.wait x)).count < tied.effN .ageLimit) ∧
    (running (.wait .fresh) 2400 (running (.wait .chill) 2400 tied)).choice = some .fresh := by decide +kernel

/-- A LOST record after that many good samples, and one of shift 2. -/
def lostRec (good : Nat) : ChannelRec := { ChannelRec.cleared 3 with state := .lost, good := good, lost := 65535 }

theorem wit_RoundCompletionTakesTheRound_lost :
    ((lostRec 3).state = .lost ∧ (31 ≤ 31 ∨ 4064 ≤ 31) ∧ (4064 ≤ 31 ∨ 4064 ≤ 4064) ∧ ¬ (32 ≤ 31 ∨ 4064 ≤ 32) ∧
      (lostRec 3).good < 4 ∧ ¬ (4063 ≤ 31 ∨ 4064 ≤ 4063) ∧ 4 ≤ (lostRec 4).good ∧ convert defaultCurve 4063 = -494) ∧
    ((ChannelRec.cleared 3).shift ≠ 2 ∧ (ChannelRec.cleared 3).tf = none ∧
      { ChannelRec.cleared 3 with acc := some 81, tf := some 10 }.tf = some 10) ∧
    ((r0.counter .scan).run = true ∧
      decide (5 ≤ ((List.replicate 4 (setOf 0)).filter fun x => x.heaterSense).length) = false ∧
      decide (5 ≤ ((List.replicate 5 { setOf 0 with heaterSense := true }).filter fun x => x.heaterSense).length) = true) := by
  decide +kernel

/-- FRESH_AIR in that state, with that temperature, LOST for that many rounds. -/
def freshAir (st : ChanState) (lost : Nat) (tf : Option Int) (s : State) : State :=
  { s with
    scanner :=
      { s.scanner with
        chan := { s.scanner.chan with fresh := { ChannelRec.cleared 3 with state := st, lost := lost, tf := tf } } } }
def policy (v : Int) (s : State) : State := { s with settings := s.settings.write (.lossPolicy .fresh) (some v) }

theorem wit_TrustedSampleAddsTheError_substitution :
    (let s : State := freshAir .valid 0 (some 46) r0;
      s.mode .fresh ≠ .off ∧ (s.channel .fresh).state = .valid ∧ (s.channel .fresh).tf = some 46 ∧
        (s.zone .fresh).subst = .absent) ∧
    (let s : State := substIn .timed (freshAir .valid 0 (some 46) r0);
      (s.channel .fresh).state = .valid ∧ (s.zone .fresh).subst = .timed) ∧
    (let s : State := substIn .holdWindow (freshAir .valid 0 none r0);
      (s.channel .fresh).tf = none ∧ (s.zone .fresh).subst = .holdWindow) ∧
    ((freshAir .suspect 0 (some 46) r0).channel .fresh).state = .suspect ∧
    (let s : State := freshAir .lost 599 (some 46) r0;
      (s.channel .fresh).state = .lost ∧ (s.channel .fresh).lost < s.effN .lossHold) ∧
    (∀ v : Int, v = 0 ∨ v = 1 ∨ v = 2 →
      let s : State := policy v (substIn .holdWindow (freshAir .lost 600 (some 46) r0));
      s.mode .fresh ≠ .off ∧ s.effN .lossHold ≤ (s.channel .fresh).lost ∧ s.eff (.lossPolicy .fresh) = v ∧
        (s.zone .fresh).subst = .holdWindow ∧ s.slotOpen .fresh = false) ∧
    (let s : State := held (.slot (slotF .min true)) [] (freshAir .lost 600 (some 46) r0);
      s.eff (.lossPolicy .fresh) = 1 ∧ s.slotOpen .fresh = true) ∧
    (let s : State := running (.wait .fresh) 1800 (substIn .timed (freshAir .lost 600 (some 46) r0));
      s.eff (.lossPolicy .fresh) = 1 ∧ (s.zone .fresh).subst = .timed ∧ (s.zone .fresh).calling = false ∧
        s.effN .lostPeriod ≤ (s.counter (.wait .fresh)).count) ∧
    (let s : State := policy 0 (substIn .forceCall (freshAir .lost 1 (some 46) r0));
      s.eff (.lossPolicy .fresh) = 0 ∧ (s.zone .fresh).subst = .forceCall) ∧
    (let s : State := modeSet .chill 3 r0; s.mode .chill = .off ∧ (s.channel .chill).state = .valid) := by
  refine ⟨by decide, by decide, by decide, by decide, by decide, ?_, by decide, by decide, by decide, by decide⟩
  rintro v (rfl | rfl | rfl) <;> decide

/-- FRESH in EXTEND, calling. -/
def extending : State := calls .fresh 9 (held (.slot (slotF .extend true)) [] r0)

theorem wit_TrustedSampleAddsTheError_hysteresis :
    ((r0.zone .fresh).debt ≤ 60000 ∧ ((10 : Nat) : Int) = max 0 (min 60000 ((0 : Int) + max (-100) (min 100 (47 - 37)))) ∧
      (r0.zone .fresh).subst = .absent ∧ (r0.zone .fresh).calling = false ∧
      r0.sEff .fresh + r0.eff (.hOn .fresh) ≤ 47 ∧ r0.sEff .fresh = 37) ∧
    ((extending.zone .fresh).calling = true ∧ (27 : Int) ≤ extending.sEff .fresh - extending.eff (.hOff .fresh) ∧
      ((0 : Nat) : Int) = max 0 (min 60000 (((extending.zone .fresh).debt : Int) + max (-100) (min 100 (27 - 37))))) ∧
    ((r0.zone .fresh).calling = false ∧ r0.arb.holder = .nobody ∧ NoClaimWaits r0) ∧
    ((held .door [] r0).arb.holder ≠ .nobody ∧ ((held .door [] r0).zone .fresh).calling ≠ true) ∧
    (extending.arb.holder = .slot (slotF .extend true) ∧ NoClaimWaits extending ∧
      ∀ y, y ≠ Zone.fresh → (extending.zone y).calling = false) :=
  ⟨by decide, by decide, ⟨by decide, by decide, And.intro (by decide) (by decide)⟩, by decide, by decide,
    And.intro (by decide) (by decide), by intro y; cases y <;> decide⟩

/-- A FAULTED compressor with that guard, demand and level of the last round. -/
def faulted (g : GuardUse) (d : Demand) (flt : Option Bool) : State :=
  level .compFault { compIn .faulted g d r0 with scanner := { r0.scanner with compFlt := flt } }

theorem wit_GuardExpiryByStateAndDemand_faulted :
    (let s : State := running .guard 1 (faulted .minOff .stop (some true));
      Quiet s ∧ HeaterLaw s ∧ (s.counter .guard).run = true ∧ s.defr.phase ≠ .stopWait ∧ s.comp.state = .faulted ∧
        s.scanner.compFlt = some true) ∧
    (let s : State := running .guard 1 (compIn .lockout .minOff .stop r0);
      Quiet s ∧ HeaterLaw s ∧ (s.counter .guard).run = true ∧ s.comp.state = .lockout ∧ s.defr.phase ≠ .preChill) ∧
    (let s : State := running .guard 1 (faulted .minOff .stop none);
      Quiet s ∧ HeaterLaw s ∧ s.scanner.compFlt ≠ some true ∧ s.comp.demand = .stop) ∧
    (let s : State := running .guard 1 (faulted .minOff (.fixed 3000) (some false));
      Quiet s ∧ HeaterLaw s ∧ s.scanner.compFlt ≠ some true ∧ s.comp.demand = .fixed 3000) := by
  refine ⟨?_, ?_, ?_, ?_⟩ <;> exact ⟨quiet rfl rfl rfl, And.intro (by decide) (by decide), by decide⟩

/-- Runs of the two heater faults at that count. -/
def heaterRuns (n : Nat) (drive : Bool) (s : State) : State :=
  { s with defr := { s.defr with openRun := n, stuckRun := n, heaterDrive := drive } }

theorem wit_SecondFaultRoundStopsTheCompressor_heater :
    (SettingsLaw r0 ∧ r0.comp.state ≠ .faulted) ∧
    (SettingsLaw (faulted .none .stop (some true)) ∧ (faulted .none .stop (some true)).comp.guard = .none ∧
      (faulted .none .stop (some true)).comp.state = .faulted) ∧
    ((halted .guard 0 (faulted .none (.fixed 3000) (some true))).comp.demand = .fixed 3000 ∧
      ((halted .guard 0 (faulted .none (.fixed 3000) (some true))).counter .guard).run = false) ∧
    (let s : State := heaterRuns 8 true r0;
      s.defr.heaterDrive = true ∧ s.level .heaterOpen = false ∧ s.defr.openRun < 9 ∧ true ≠ s.level .heaterOpen) ∧
    9 ≤ (heaterRuns 9 true r0).defr.openRun ∧
    (let s : State := heaterRuns 8 false r0;
      s.defr.heaterDrive = false ∧ s.level .heaterStuck = false ∧ s.defr.stuckRun < 9) ∧
    9 ≤ (heaterRuns 9 false r0).defr.stuckRun ∧
    (let s : State := level .heaterStuck (heaterRuns 9 false r0);
      s.level .heaterStuck = true ∧ 9 ≤ s.defr.stuckRun ∧ (s.counter .gap).count < s.effN .maxGap ∧
        s.defr.frost < s.effN .fDue) ∧
    (let s : State := running .gap 4320 (level .heaterStuck (heaterRuns 9 false r0));
      s.level .heaterStuck = true ∧ s.defr.phase = .idle ∧ s.effN .maxGap ≤ (s.counter .gap).count ∧
        s.arb.holder.isFree = true) :=
  ⟨⟨lawful rfl, by decide⟩, ⟨lawful rfl, by decide⟩, by decide⟩

/-- A HEAT with that budget and PHASE count, after that many samples at TERM_TEMP. -/
def heating (budget count term : Nat) (s : State) : State :=
  running .phase count
    (inPhase .heat (held .defrost [] { s with defr := { s.defr with heatBudget := budget, termCount := term } }))

theorem wit_HeatTimeoutEntersDrip_coil :
    (let s : State := heating 1800 1799 1 r0;
      SettingsLaw s ∧ s.defr.phase = .heat ∧ s.eff .termTemp = 80 ∧ s.arb.holder = .defrost ∧
        s.defr.suspended = false ∧ s.level .heaterOpen = false ∧ s.defr.termCount < 2) ∧
    (let s : State := heating 1800 901 2 r0;
      SettingsLaw s ∧ s.eff .termTemp ≤ 80 ∧ 2 ≤ s.defr.termCount ∧ s.comp.state ≠ .running ∧
        (s.defr.heatBudget - (s.counter .phase).count) / 60 = 14 ∧ s.eff .adapt = 1) ∧
    (let s : State := heating 2700 840 2 r0; (s.defr.heatBudget - (s.counter .phase).count) / 60 = 31) ∧
    (SettingsLaw (heating 1800 900 1 (level .heaterOpen r0)) ∧
      (heating 1800 900 1 (level .heaterOpen r0)).level .heaterOpen = true ∧ (79 : Int) < r0.eff .termTemp) ∧
    (heating 1500 900 0 r0).defr.heatBudget ≤ 1500 ∧
    (let s : State := heating 1800 301 0 r0;
      s.defr.coilTimed = false ∧ 1500 < s.defr.heatBudget ∧ s.defr.heatBudget - (s.counter .phase).count < 1500 ∧
        s.defr.suspended = false) ∧
    (let s : State := halted .phase 301 (suspended .heat (heating 1800 301 0 r0));
      s.defr.suspended = true ∧ (s.counter .phase).run = false ∧ s.defr.phase = .heat ∧
        s.defr.heatBudget - (s.counter .phase).count < 1500) ∧
    (let s : State := heating 1800 300 0 r0; 1500 ≤ s.defr.heatBudget - (s.counter .phase).count) :=
  ⟨⟨lawful rfl, by decide⟩, ⟨lawful rfl, by decide⟩, by decide, ⟨lawful rfl, by decide⟩, by decide⟩

/-- FRESH with that Tf in use, its warm alarm armed, timing that alarm. -/
def watching (tf : Int) (a : AlmFor) (s : State) : State :=
  (s.onZone .fresh fun r => { r with warmArmed := true }).onAlarm .fresh fun _ => { almFor := a, tfInUse := some tf }

theorem wit_AlarmsLevelsAndDeltas_evaluation :
    (r0.sEff .fresh + r0.eff (.alarmHi .fresh) = 87 ∧ r0.sEff .fresh - r0.eff (.alarmLo .fresh) = -3) ∧
    (let s : State := watching 87 .none r0;
      SettingsLaw s ∧ (s.zone .fresh).warmArmed = true ∧ s.mode .fresh ≠ .off ∧ (s.zone .fresh).subst = .absent ∧
        s.cond.defrostHolds = false ∧ (s.alarm .fresh).tfInUse = some 87 ∧ s.level (.zoneWarm .fresh) = false) ∧
    (let s : State := watching (-3) .none r0;
      SettingsLaw s ∧ (s.alarm .fresh).tfInUse = some (-3) ∧ (s.alarm .fresh).almFor ≠ .cold ∧
        s.level (.zoneCold .fresh) = false) ∧
    (let s : State := watching 87 .warm (level (.zoneWarm .fresh) r0);
      s.level (.zoneWarm .fresh) = true ∧ (s.alarm .fresh).almFor = .warm) ∧
    (let s : State := watching 67 .none (level (.zoneWarm .fresh) r0);
      (s.alarm .fresh).tfInUse = some 67 ∧ 67 = s.sEff .fresh + s.eff (.alarmHi .fresh) - 20) ∧
    (let s : State := watching 17 .cold (level (.zoneCold .fresh) r0);
      (s.alarm .fresh).almFor = .cold ∧ (s.alarm .fresh).tfInUse = some 17 ∧
        17 = s.sEff .fresh - s.eff (.alarmLo .fresh) + 20) ∧
    (watching 86 .warm r0).level (.zoneWarm .fresh) = false :=
  ⟨by decide, ⟨lawful rfl, by decide⟩, ⟨lawful rfl, by decide⟩, by decide⟩

theorem wit_DoorOpeningAndWidth_slot :
    Quiet (held (.slot (slotF .min true)) [] r0) ∧ (∀ e, ((held (.slot (slotF .min true)) [] r0).door e).isOpen = false) ∧
      (held (.slot (slotF .min true)) [] r0).doors.pause = .none ∧
      (held (.slot (slotF .min true)) [] r0).doors.pauseSpent = false ∧
      (held (.slot (slotF .min true)) [] r0).arb.holder = .slot (slotF .min true) :=
  ⟨quiet rfl rfl rfl, by intro e; cases e <;> rfl, by decide⟩

theorem wit_EveryStepKeepsAttn_bits : ConditionBitsLaw edgeWaits := by
  constructor <;> intro n hn
  · show (0#32 : BitVec 32).getLsbD n = false
    simp
  · show (edgeWaits.cond.deltas).getLsbD n = false
    rcases Nat.lt_or_ge n 32 with h | h
    · interval_cases n <;> decide
    · exact BitVec.getLsbD_of_ge _ _ h

theorem wit_EveryStepKeepsPlansAndDebts_zones : UrgencyLaw edgeWaits ∧ OffLaw (chillOff .absent 0) :=
  ⟨fun z => by cases z <;> decide, (wit_SetModeHolidayAndOff_leaving.1 .absent 0).2.2.2.1⟩

/-- A slot on the default FRESH route, with its frame's like beneath a hold, the dampers at its openings. -/
def routed : State := damperIn .fresh .ready (some 480) 480 (held (.slot (slotF .min true)) [] edgeWaits)

theorem wit_EveryStepKeepsTheStack_routes : RouteLaw routed ∧ DamperLaw routed := by
  refine ⟨⟨wit_EveryStepKeepsPlansAndDebts.1, ?_, fun f hf => nomatch hf⟩, fun d => ?_⟩
  · show Route.zoneInLimits ⟨100, 0, 70, none⟩
    simp [Route.zoneInLimits, floorInLimits]
  · cases d
    · exact ⟨by decide, fun p h => by cases h; decide⟩
    · exact ⟨by decide, fun p h => by cases h⟩

/-- RUNNING at N_MIN with a fixed demand, N_MIN the lowest speed it may have. -/
def atSpeed : State := compIn .running .none (.fixed 3000) edgeWaits

theorem wit_EveryStepKeepsHeaterAndSpeedLine_speed : SpeedLaw atSpeed ∧ RouteLaw atSpeed ∧ SettingsLaw atSpeed := by
  refine ⟨⟨rfl, fun _ => ?_⟩, ⟨wit_EveryStepKeepsPlansAndDebts.1, trivial, fun f hf => nomatch hf⟩, lawful rfl⟩
  decide +kernel

theorem wit_EveryStepKeepsTheSettings_curves : CurveLaw edgeWaits ∧ FrostLaw edgeWaits :=
  ⟨And.intro (by decide) (by decide), by show edgeWaits.defr.frost ≤ 65535; decide⟩

/-! ### Witnesses for the demands, the outputs and the claims by state -/

/-- One zone calls while the demand is AUTO. -/
def autoCalled (st : CompState) (g : GuardUse) (s : State) : State := calls .fresh 9 (compIn st g (.auto (some 5400)) s)

theorem auto_runs (st : CompState) (g : GuardUse) (s : State) :
    (autoCalled st g s).comp.demand.RunsAt ((autoCalled st g s).autoTarget (some 5400)) (autoCalled st g s) :=
  And.intro ⟨.fresh, rfl⟩ rfl

/-- No zone calls while the demand is AUTO. -/
theorem auto_stops (st : CompState) (g : GuardUse) : (compIn st g (.auto none) r0).comp.demand.Stops (compIn st g (.auto none) r0) :=
  fun z => by cases z <;> rfl

theorem wit_RampAndCondrunExpiry_demand :
    (let s : State := autoCalled .running .none r0;
      Quiet s ∧ HeaterLaw s ∧ (s.counter .ramp).run = true ∧ s.comp.state = .running ∧ s.defr.compState = .running) ∧
    (let s : State := compIn .running .minOn (.auto none) r0;
      Quiet s ∧ HeaterLaw s ∧ (s.counter .ramp).run = true ∧ s.comp.state = .running ∧ s.comp.guard = .minOn) ∧
    (let s : State := compIn .running .none (.auto none) r0;
      Quiet s ∧ HeaterLaw s ∧ (s.counter .ramp).run = true ∧ s.comp.guard ≠ .minOn ∧ s.defr.phase ≠ .stopWait) ∧
    (let s : State := autoCalled .off .none (halted .guard 0 r0);
      Quiet s ∧ HeaterLaw s ∧ (s.counter .ramp).run = true ∧ s.comp.state = .off ∧ (s.counter .guard).run = false) ∧
    (let s : State := autoCalled .off .minOff (running .guard 1 r0);
      Quiet s ∧ HeaterLaw s ∧ s.comp.state = .off ∧ (s.counter .guard).run = true) ∧
    (let s : State := compIn .faulted .none (.auto none) r0; Quiet s ∧ HeaterLaw s ∧ s.comp.state = .faulted) ∧
    (let s : State := compIn .lockout .none (.auto none) r0;
      Quiet s ∧ HeaterLaw s ∧ s.comp.state = .lockout ∧ s.defr.phase ≠ .preChill) := by
  refine ⟨?_, ?_, ?_, ?_, ?_, ?_, ?_⟩ <;> exact ⟨quiet rfl rfl rfl, And.intro (by decide) (by decide), by decide⟩

theorem wit_GuardExpiryByStateAndDemand_auto :
    (let s : State := running .guard 1 (autoCalled .off .minOff r0);
      Quiet s ∧ (s.counter .guard).run = true ∧ s.comp.state = .off ∧ s.defr.phase = .idle) ∧
    (let s : State := running .guard 1 (autoCalled .running .minOn r0);
      Quiet s ∧ s.comp.state = .running ∧ s.defr.compState = .running) ∧
    (let s : State := running .guard 1 (compIn .off .minOff (.auto none) r0);
      Quiet s ∧ HeaterLaw s ∧ s.comp.state = .off ∧ s.defr.phase ≠ .stopWait) ∧
    ((autoCalled .faulted .none (halted .guard 0 r0)).comp.guard = .none ∧
      ((autoCalled .faulted .none (halted .guard 0 r0)).counter .guard).run = false) :=
  ⟨⟨quiet rfl rfl rfl, by decide⟩, ⟨quiet rfl rfl rfl, by decide⟩,
    ⟨quiet rfl rfl rfl, And.intro (by decide) (by decide), by decide⟩, by decide⟩

/-- SERVICE holds, FRESH_DAMPER in that state, with a periodic homing due or not. -/
def serving (st : DamperState) (p : Option Nat) (t : Nat) (due : Bool) : State :=
  held .service [] ((damperIn .fresh st p t r0).onDamper .fresh fun r => { r with homeDue := due, moveCount := 99 })

/-- R82 to R85: every case of a target at the ends of 0..480, and a homing request. -/
theorem wit_ServiceDriveByItsFields_dampers :
    (∀ st p t due, Accepting (serving st p t due) ∧ SettingsLaw (serving st p t due) ∧
      (serving st p t due).arb.holder = .service) ∧
    ((480#16 : Half).toInt = 480 ∧ (max 0 (min 480 (481#16 : Half).toInt)).toNat = 480 ∧
      (max 0 (min 480 (0xFFFE#16 : Half).toInt)).toNat = 0 ∧ (0xFFFF#16 : Half).toInt = -1) ∧
    (((serving .ready (some 0) 0 false).damper .fresh).position ≠ some 480 ∧
      ((serving .ready (some 0) 0 true).damper .fresh).homeDue = true ∧
      ((serving .ready (some 480) 0 true).damper .fresh).position = some 480) ∧
    (((serving .moving (some 479) 0 false).damper .fresh).position ≠ some 480 ∧
      ((serving .moving (some 480) 0 false).damper .fresh).position = some 480 ∧
      ((serving .moving (some 480) 0 false).damper .fresh).moveCount + 1 = 100) ∧
    (((serving .homing none 480 false).damper .fresh).state = .homing ∧
      ((serving .unhomed none 0 false).damper .fresh).target ≠ 480) :=
  ⟨fun _ _ _ _ => ⟨accepting rfl rfl, lawful rfl, rfl⟩, by decide⟩

/-- SERVICE holds, the fan in that state. -/
def blowing (f : FanState) : State := held .service [] (fanIn f 70 r0)

theorem wit_ServiceDriveByItsFields_fan :
    (∀ f, Accepting (blowing f) ∧ SettingsLaw (blowing f) ∧ (blowing f).arb.holder = .service ∧
      (blowing f).air.fan.state = f ∧ ((blowing f).counter .tach).run = false) ∧
    ((0#16 : Half).toInt ≤ 0 ∧ (max 25 (min 100 (1#16 : Half).toInt)).toNat = 25 ∧
      (max 25 (min 100 (101#16 : Half).toInt)).toNat = 100) :=
  ⟨fun _ => ⟨accepting rfl rfl, lawful rfl, rfl, rfl, rfl⟩, by decide⟩

/-- R112: the demands of the compressor field, with the compressor in each state that takes them. -/
theorem wit_ServiceDriveByItsFields_demand :
    (let s : State := held .service [] (compIn .off .none .stop (halted .guard 0 r0));
      Accepting s ∧ SettingsLaw s ∧ s.comp.state = .off ∧ (s.counter .guard).run = false ∧
        Demand.RunsAt (.fixed 4500) 4500 s) ∧
    (let s : State := held .service [] (compIn .running .minOn (.fixed 1200) r0);
      Accepting s ∧ s.comp.state = .running ∧ s.comp.guard = .minOn ∧ Demand.Stops .stop s) ∧
    (let s : State := held .service [] (compIn .running .none (.fixed 1200) r0); s.comp.guard ≠ .minOn) ∧
    (let s : State := held .service [] (compIn .faulted .none .stop r0); Accepting s ∧ s.comp.state = .faulted) :=
  ⟨⟨accepting rfl rfl, lawful rfl, by decide, by decide, by show 4500 = _; decide +kernel⟩,
    ⟨accepting rfl rfl, by decide, by decide, trivial⟩, by decide, accepting rfl rfl, by decide⟩

/-- A FRESH slot at its last second, in that phase, fixed or not, FRESH calling in that substitution. -/
def fullSlot (phase : SlotPhase) (fixed : Bool) (p : Subst) : State :=
  running .slot 1 (held (.slot { slotF phase true with fixed := fixed }) [] (substIn p (calls .fresh 9 r0)))

theorem wit_SlotExpiryExtendsOrEnds_full :
    (∀ phase fixed p, Quiet (fullSlot phase fixed p) ∧ NoClaimWaits (fullSlot phase fixed p) ∧
      (fullSlot phase fixed p).arb.holder = .slot { slotF phase true with fixed := fixed } ∧
      ((fullSlot phase fixed p).counter .slot).run = true ∧ ((fullSlot phase fixed p).zone .fresh).calling = true) ∧
    (∀ y, y ≠ Zone.fresh → ((fullSlot .extend false .absent).zone y).calling = false) ∧
    (((calls .chill 9 (fullSlot .min true .timed)).zone .chill).calling = true ∧
      ((fullSlot .min true .timed).zone .fresh).subst = .timed) ∧
    (let s : State := running .slot 1 (held (.slot { slotF .min true with zone := .chill }) [] (calls .chill 9
        { r0 with settings := (r0.settings.write .slotMin (some 600)).write (.slotMax .chill) (some 600) }));
      Settled s ∧ SettingsLaw s ∧ (s.zone .chill).calling = true ∧ s.eff (.slotMax .chill) ≤ s.eff .slotMin) ∧
    ((slotEnd.zone .fresh).calling = false ∧ NoClaimWaits slotEnd) := by
  refine ⟨fun phase fixed p => ⟨quiet rfl rfl rfl, And.intro (by show PauseState.none ≠ .deferred; decide)
      (by show DefrostPhase.idle ≠ .pending; decide), rfl, rfl, rfl⟩, by intro y; cases y <;> decide, by decide, ?_,
    by decide, And.intro (by decide) (by decide)⟩
  exact ⟨settled rfl rfl, fits (by decide +kernel), by decide +kernel⟩

/-- A RUNNING compressor one carry before F_DUE, GAP at MIN_GAP. -/
def nearDue (s : State) : State :=
  compIn .running .none (.auto none) (running .gap 360 { s with defr := { s.defr with frost := 479 } })

theorem wit_FrostAndGapGrow_due :
    (let s : State := nearDue r0;
      Quiet s ∧ HeaterLaw s ∧ ResumeLaw s ∧ (s.counter .runsec).run = true ∧ s.defr.compState = .running ∧ s.defr.phase = .idle ∧
        s.effN .fDue ≤ min 65535 (s.defr.frost + if 320 < s.defr.ambient then 2 else 1) ∧
        s.effN .minGap ≤ (s.counter .gap).count ∧ s.level .heaterStuck = false ∧ ¬ 65535 ≤ s.defr.frost ∧
        s.arb.holder = .nobody ∧ s.effN .prechillTime ≠ 0 ∧ s.defr.compState ≠ .lockout) ∧
    (let s : State := held (.slot (slotF .min true)) [] (running .gap 359 { r0 with defr := { r0.defr with frost := 480 } });
      Quiet s ∧ HeaterLaw s ∧ ResumeLaw s ∧ (s.counter .gap).run = true ∧ (s.counter .gap).count < 65535 ∧ s.defr.phase = .idle ∧
        s.effN .fDue ≤ s.defr.frost ∧ s.effN .minGap ≤ (s.counter .gap).count + 1 ∧
        s.arb.holder = .slot (slotF .min true)) ∧
    (let s : State := held .door [] (nearDue r0); Quiet s ∧ HeaterLaw s ∧ ResumeLaw s ∧ s.arb.holder = .door) ∧
    (let s : State := level .heaterStuck (nearDue r0); Quiet s ∧ HeaterLaw s ∧ ResumeLaw s ∧ s.level .heaterStuck = true) ∧
    (let s : State := compIn .running .none .stop (running .gap 360 { r0 with defr := { r0.defr with frost := 65535 } });
      Quiet s ∧ HeaterLaw s ∧ ResumeLaw s ∧ s.defr.frost = 65535) ∧
    (let s : State := gapNearMax { r0 with settings := r0.settings.write .prechillTime (some 0) };
      Settled s ∧ SettingsLaw s ∧ HeaterLaw s ∧ ResumeLaw s ∧ s.effN .prechillTime = 0 ∧ s.defr.resumeHeat = false ∧
        s.effN .maxGap ≤ (s.counter .gap).count + 1) := by
  refine ⟨?_, ?_, ?_, ?_, ?_, ⟨settled rfl rfl, fits (by decide +kernel), And.intro (by decide) (by decide), noResume rfl, by decide⟩⟩ <;>
    exact ⟨quiet rfl rfl rfl, And.intro (by decide) (by decide), noResume rfl, by decide⟩

/-- R101: a demand arrives by the state that stands; R93: HOLD stops a fan in RUN. -/
theorem test_hold_stops_the_fan :
    (after (.hold 1#8) (fanIn .run 70 r0)).air.fan.state = .stopped ∧ (after (.hold 1#8) (fanIn .run 70 r0)).air.fan.drive = 0 := by
  decide +kernel

/-- R104: an AUTO climb of one step of 30 × RAMP_UP, from 1200 toward the floor of 4500. -/
theorem test_auto_ramp_step : (after .rampExpiry (autoCalled .running .none r0)).comp.command = 1230 := by decide +kernel

/-! ### Witnesses for what a stack, a waiting claim and an interrupted HEAT bring -/

/-- A lawful state that takes an event. -/
def Eventful (s : State) : Prop := Settled s ∧ SettingsLaw s ∧ HeaterLaw s ∧ ResumeLaw s

theorem eventful {s : State} (hl : s.link = r0.link) (ho : s.own.signalled = r0.own.signalled)
    (hs : s.settings = r0.settings) (hc : s.defr.compState = s.comp.state) (hd : s.defr.heaterDrive = false)
    (hr : s.defr.resumeHeat = false) : Eventful s :=
  ⟨settled hl ho, lawful hs, And.intro hc (fun h => by simp [hd] at h), noResume hr⟩

/-- A lawful service hold that RELEASE and the SVC expiry alike can end, PHASE stopped with its count. -/
def Releasable (s : State) : Prop :=
  Accepting s ∧ Eventful s ∧ s.arb.holder = .service ∧ (s.counter .svc).run = true ∧
    ((s.counter .phase).run = false ∧ (s.counter .phase).count ≠ 0)

/-- A hold at its last second over that stack. -/
def holdOver (stack : List SuspFrame) (s : State) : State := running .svc 1 (halted .phase 900 (held .service stack s))

/-- A defrost of that phase suspended beneath a hold, the compressor in that state, a RUNNING one in its
minimum run. -/
def defrostUnder (p : DefrostPhase) (st : CompState) : State :=
  holdOver [.defrost 2] (compIn st (if st = .running then .minOn else .none) .stop
    { r0 with defr := { r0.defr with phase := p, suspended := true } })

/-- STOP_WAIT of an interrupted HEAT suspended beneath a hold, the compressor in that state. -/
def heatUnder (st : CompState) : State :=
  { defrostUnder .stopWait st with defr := { (defrostUnder .stopWait st).defr with resumeHeat := true } }

/-- The claims that wait: a DEFERRED pause behind an open drawer, a PENDING defrost. -/
def doorWaits (s : State) : State := pausing .deferred (doorAt .chillDrawer true s)
def defrostWaits (s : State) : State := inPhase .pending s

theorem doorWaits_of {s : State} (hp : s.doors.pause = .deferred) (ho : (s.door .chillDrawer).isOpen = true)
    (hs : s.doors.pauseSpent = false) : DoorClaimWaits s := ⟨hp, ⟨.chillDrawer, ho⟩, hs⟩

theorem noDoorWaits {s : State} (hp : s.doors.pause ≠ .deferred) : ¬ DoorClaimWaits s := fun h => hp h.1

/-- R50, R70, R122, R144: nothing on the stack, with both claims waiting, with one of them, and with none. -/
theorem wit_ReleaseEndsTheHold_claims :
    (let s : State := doorWaits (defrostWaits (holdOver [] r0));
      Releasable s ∧ s.arb.stack = [] ∧ DoorClaimWaits s ∧ s.defr.phase = .pending) ∧
    (let s : State := doorWaits (calls .chill 9 (holdOver [] r0));
      Releasable s ∧ s.arb.stack = [] ∧ DoorClaimWaits s ∧ s.defr.phase ≠ .pending ∧ s.choice = some .chill) ∧
    (let s : State := defrostWaits (holdOver [] r0);
      Releasable s ∧ s.arb.stack = [] ∧ ¬ DoorClaimWaits s ∧ s.defr.phase = .pending ∧ s.choice = none) ∧
    (let s : State := holdOver [] r0;
      Releasable s ∧ s.arb.stack = [] ∧ ¬ DoorClaimWaits s ∧ s.defr.phase ≠ .pending) := by
  refine ⟨⟨⟨accepting rfl rfl, eventful rfl rfl rfl rfl rfl rfl, by decide⟩, rfl, doorWaits_of rfl rfl rfl, rfl⟩,
    ⟨⟨accepting rfl rfl, eventful rfl rfl rfl rfl rfl rfl, by decide⟩, rfl, doorWaits_of rfl rfl rfl, by decide +kernel⟩,
    ⟨⟨accepting rfl rfl, eventful rfl rfl rfl rfl rfl rfl, by decide⟩, rfl, noDoorWaits (by decide), by decide +kernel⟩,
    ⟨⟨accepting rfl rfl, eventful rfl rfl rfl rfl rfl rfl, by decide⟩, rfl, noDoorWaits (by decide), by decide⟩⟩

/-- R71: a SLOT frame with TIME resumes with its snapshot, and at one second left without one by a waiting commit; one
without TIME, and one whose zone does not call, are dropped. R72: a DOOR frame lies above a SLOT frame. -/
theorem wit_ReleaseEndsTheHold_slotFrame :
    (let s : State := doorWaits (calls .fresh 9 (holdOver [.slot 3 .fresh .min false 60 (some ⟨100, 0, 70, none⟩)] r0));
      Releasable s ∧ s.arb.stack = .slot 3 .fresh .min false 60 (some ⟨100, 0, 70, none⟩) :: [] ∧ 3 / 2 % 2 = 1 ∧
        (s.zone .fresh).calling = true ∧ DoorClaimWaits s) ∧
    (let s : State := holdOver [.slot 2 .chill .extend true 1 none] (committing .chill);
      Releasable s ∧ s.arb.stack = .slot 2 .chill .extend true 1 none :: [] ∧ 2 / 2 % 2 = 1 ∧
        (s.zone .chill).calling = true ∧ s.arb.commitPending = true ∧ ¬ DoorClaimWaits s) ∧
    (let s : State := defrostWaits (calls .fresh 9 (holdOver [.slot 1 .fresh .min false 60 (some ⟨100, 0, 70, none⟩)] r0));
      Releasable s ∧ 1 / 2 % 2 = 0 ∧ (s.zone .fresh).calling = true ∧ s.defr.phase = .pending) ∧
    (let s : State := holdOver [.slot 2 .fresh .min false 60 none] r0; Releasable s ∧ (s.zone .fresh).calling = false) ∧
    (let s : State := pausing .suspended (holdOver [.door 3, .slot 3 .fresh .min false 60 (some ⟨100, 0, 70, none⟩)] r0);
      Releasable s ∧ s.doors.pause = .suspended) := by
  refine ⟨⟨⟨accepting rfl rfl, eventful rfl rfl rfl rfl rfl rfl, by decide⟩, rfl, by decide, rfl, doorWaits_of rfl rfl rfl⟩,
    ⟨⟨accepting rfl rfl, eventful rfl rfl rfl rfl rfl rfl, by decide⟩, rfl, by decide, rfl, rfl, noDoorWaits (by decide)⟩,
    ⟨⟨accepting rfl rfl, eventful rfl rfl rfl rfl rfl rfl, by decide⟩, by decide⟩,
    ⟨⟨accepting rfl rfl, eventful rfl rfl rfl rfl rfl rfl, by decide⟩, by decide⟩,
    ⟨accepting rfl rfl, eventful rfl rfl rfl rfl rfl rfl, by decide⟩, rfl⟩

/-- R136: a DEFROST frame of every phase, with the compressor in every state. -/
theorem wit_ReleaseEndsTheHold_defrostFrame :
    (∀ p st, Releasable (defrostUnder p st) ∧ (defrostUnder p st).arb.stack = .defrost 2 :: [] ∧
      (defrostUnder p st).defr.phase = p ∧ (defrostUnder p st).defr.compState = st ∧
      (defrostUnder p st).defr.resumeHeat = false) ∧
    ∀ st, Accepting (heatUnder st) ∧ Quiet (heatUnder st) ∧ HeaterLaw (heatUnder st) ∧ ResumeLaw (heatUnder st) ∧
      (heatUnder st).defr.resumeHeat = true ∧ (heatUnder st).arb.stack = .defrost 2 :: [] ∧
      (heatUnder st).arb.holder = .service := by
  refine ⟨fun p st => ⟨⟨accepting rfl rfl, eventful rfl rfl rfl rfl rfl rfl, rfl, rfl, rfl, by show (900 : Nat) ≠ 0; decide⟩,
    rfl, rfl, rfl, rfl⟩, fun st => ⟨accepting rfl rfl, quiet rfl rfl rfl, And.intro rfl (fun h => nomatch h), fun _ => rfl,
    rfl, rfl, rfl⟩⟩

/-- R75: the SVC expiry meets the same holds. -/
theorem wit_SvcExpiryEndsTheHold_stack :
    (∀ p st, Settled (defrostUnder p st) ∧ ((defrostUnder p st).counter .svc).run = true) ∧
      (let s : State := doorWaits (defrostWaits (holdOver [] r0)); Eventful s ∧ (s.counter .svc).run = true) ∧
      Releasable (holdOver [.slot 2 .fresh .min false 60 none] r0) :=
  ⟨fun p st => ⟨(wit_ReleaseEndsTheHold_defrostFrame.1 p st).1.2.1.1, rfl⟩,
    ⟨wit_ReleaseEndsTheHold_claims.1.1.2.1, rfl⟩, wit_ReleaseEndsTheHold_slotFrame.2.2.2.1.1⟩

/-- R8, R9: a MODE write while DEFROST holds and a door pause waits. -/
theorem wit_SetModeHolidayAndOff_waiting :
    let s : State := doorWaits (held .defrost [] r0);
      Ready s ∧ StackLaw s ∧ ((s.arb.holder = .nobody ∨ ∃ r, s.arb.holder = .slot r) → NoClaimWaits s) ∧
        s.mode .chill ≠ .off ∧ s.mode .chill ≠ .boost := by
  refine ⟨ready rfl rfl rfl, (trivial : stackAllowed .defrost []), ?_, by decide⟩
  rintro (h | ⟨r, h⟩) <;> exact nomatch h

/-- R56, R122, R144: slots that end while claims wait, by the three ways in which the SLOT expiry ends one. -/
theorem wit_SlotExpiryExtendsOrEnds_claims :
    (∀ phase fixed p, Eventful (doorWaits (defrostWaits (fullSlot phase fixed p))) ∧
      DoorClaimWaits (doorWaits (defrostWaits (fullSlot phase fixed p))) ∧
      (doorWaits (defrostWaits (fullSlot phase fixed p))).arb.holder = .slot { slotF phase true with fixed := fixed } ∧
      ((doorWaits (defrostWaits (fullSlot phase fixed p))).counter .slot).run = true) ∧
    (Eventful (defrostWaits slotEnd) ∧ (defrostWaits slotEnd).defr.phase = .pending ∧
      ((defrostWaits slotEnd).zone .fresh).calling = false ∧ (slotF .min true).fixed = false) :=
  ⟨fun _ _ _ => ⟨eventful rfl rfl rfl rfl rfl rfl, doorWaits_of rfl rfl rfl, rfl, rfl⟩,
    eventful rfl rfl rfl rfl rfl rfl, by decide⟩

/-- R52, R86, R144: completions under a slot: the last damper of a switching one, with a claim and without, by a move and
by a homing; one with the other damper still out; and one under a slot that serves. -/
theorem wit_DamperMoveAndHomingEnd_slot :
    (let s : State := doorWaits switching;
      Eventful s ∧ DoorClaimWaits s ∧ s.arb.holder = .slot (slotF .min false) ∧ (s.damper .fresh).state = .moving ∧
        ((s.damper .chill).state = .ready ∧ (s.damper .chill).position = some (s.damper .chill).target) ∧
        (s.counter .slot).run = false ∧ (s.counter .slot).count ≠ 0) ∧
    (let s : State := damperIn .chill .homing none 0 (damperIn .fresh .ready (some 480) 480 switching);
      Eventful s ∧ s.arb.holder = .slot (slotF .min false) ∧ (s.damper .chill).state = .homing ∧
        (s.damper .chill).target = 0 ∧ ((s.damper .fresh).state = .ready ∧
          (s.damper .fresh).position = some (s.damper .fresh).target) ∧ (s.counter .slot).count ≠ 0) ∧
    (let s : State := damperIn .chill .unhomed none 0 switching;
      Eventful s ∧ (s.damper .fresh).state = .moving ∧ (s.damper .chill).state ≠ .ready) ∧
    (let s : State := damperIn .chill .moving (some 1) 0 (held (.slot (slotF .min true)) [] r0);
      Eventful s ∧ (s.damper .chill).state = .moving ∧ s.arb.holder = .slot (slotF .min true)) := by
  refine ⟨⟨eventful rfl rfl rfl rfl rfl rfl, doorWaits_of rfl rfl rfl, by decide⟩, ?_, ?_, ?_⟩ <;>
    exact ⟨eventful rfl rfl rfl rfl rfl rfl, by decide⟩

/-- R131, R144: RECOVER ends with a door pause waiting, and over a SLOT frame. -/
theorem wit_DripAndRecoverExpiry_release :
    (let s : State := doorWaits (phaseEnd .recover r0);
      Eventful s ∧ DoorClaimWaits s ∧ (s.counter .phase).run = true ∧ s.defr.suspended = false ∧
        s.arb.holder = .defrost ∧ s.defr.phase = .recover ∧ ∀ f ∈ s.arb.stack, f.isDefrost = false) ∧
    (let s : State := held .defrost [.slot 2 .fresh .min false 60 none] (calls .fresh 9 (phaseEnd .recover r0));
      Eventful s ∧ (s.zone .fresh).calling = true ∧ ∀ f ∈ s.arb.stack, f.isDefrost = false) :=
  ⟨⟨eventful rfl rfl rfl rfl rfl rfl, doorWaits_of rfl rfl rfl, by decide⟩, eventful rfl rfl rfl rfl rfl rfl, by decide⟩

/-- R134, R144: an abort before HEAT with a door pause waiting, and over a SLOT frame. -/
theorem wit_AbortDefrostByPhase_release :
    (let s : State := doorWaits (inPhase .preChill (held .defrost [] r0));
      Accepting s ∧ Eventful s ∧ DoorClaimWaits s ∧ s.defr.phase = .preChill ∧ s.defr.suspended = false ∧
        s.arb.holder = .defrost ∧ ∀ f ∈ s.arb.stack, f.isDefrost = false) ∧
    (let s : State := calls .fresh 9 (inPhase .stopWait (held .defrost [.slot 2 .fresh .min false 60 none] r0));
      Accepting s ∧ Eventful s ∧ s.defr.phase = .stopWait ∧ s.defr.resumeHeat = false ∧
        ∀ f ∈ s.arb.stack, f.isDefrost = false) :=
  ⟨⟨accepting rfl rfl, eventful rfl rfl rfl rfl rfl rfl, doorWaits_of rfl rfl rfl, by decide⟩,
    accepting rfl rfl, eventful rfl rfl rfl rfl rfl rfl, by decide⟩

/-- R122, R147, R148: a pause ends by SETTLE and by PAUSE while a defrost is PENDING. -/
theorem wit_PauseEndsAtSettleOrPauseExpiry_pending :
    (let s : State := defrostWaits (running .settle 1 (pausing .held (held .door [] r0)));
      Eventful s ∧ s.defr.phase = .pending ∧ s.doors.pause = .held ∧ s.arb.holder = .door ∧
        (s.counter .settle).run = true ∧ ∀ f ∈ s.arb.stack, f.isDefrost = false) ∧
    (let s : State := defrostWaits pauseEnd;
      Eventful s ∧ s.defr.phase = .pending ∧ s.doors.pause = .held ∧ s.arb.holder = .door ∧
        (s.counter .pause).run = true ∧ ∀ f ∈ s.arb.stack, f.isDefrost = false) :=
  ⟨⟨eventful rfl rfl rfl rfl rfl rfl, by decide⟩, eventful rfl rfl rfl rfl rfl rfl, by decide⟩

theorem wit_EveryStepKeepsHeaterAndSpeedLine_resume :
    ResumeLaw edgeWaits ∧ ResumeLaw (heatUnder .running) ∧ (heatUnder .running).defr.resumeHeat = true :=
  ⟨noResume rfl, fun _ => rfl, rfl⟩

theorem wit_EveryStepKeepsTheStack_claims : ClaimLaw edgeWaits ∧ ClaimLaw (doorWaits (defrostWaits (held .service [] r0))) := by
  refine ⟨⟨fun _ => by decide, fun h => absurd h (by decide), by decide⟩, ⟨?_, fun _ => ⟨⟨.chillDrawer, rfl⟩, rfl⟩, by decide⟩⟩
  rintro (h | ⟨r, h⟩) <;> exact nomatch h

/-- R136's table: a HEAT resumed beneath a RUNNING compressor waits in STOP_WAIT with resume_heat yes. -/
theorem test_heat_resumes_through_stop_wait :
    (after (.release 1#8) (defrostUnder .heat .running)).defr.phase = .stopWait ∧
      (after (.release 1#8) (defrostUnder .heat .running)).defr.resumeHeat = true := by decide +kernel

/-- R144: a DEFERRED pause claims when RELEASE frees the path; R122: so does a PENDING defrost, into PRE_CHILL. -/
theorem test_release_makes_the_claims :
    (after (.release 1#8) (doorWaits (holdOver [] r0))).arb.holder = .door ∧
      (after (.release 1#8) (defrostWaits (holdOver [] r0))).defr.phase = .preChill := by decide +kernel

end Sys2Proof.Tests
end

/-! The written values of the Settings Store: what a write and a drop leave of every item's effective value. -/

namespace Sys2Proof.Machine

/-! ### The list of written values -/

theorem writtenAt_putWritten (l : List (Nat × Int)) (n k : Nat) (v : Int) :
    writtenAt (putWritten l n v) k = if k = n then some v else writtenAt l k := by
  induction l with
  | nil => grind [putWritten, writtenAt]
  | cons p rest ih => grind [putWritten, writtenAt]

theorem writtenAt_dropWritten (l : List (Nat × Int)) (n k : Nat) :
    writtenAt (dropWritten l n) k = if k = n then none else writtenAt l k := by
  induction l with
  | nil => simp [dropWritten, writtenAt]
  | cons p rest ih =>
    unfold dropWritten at ih ⊢
    rw [List.filter_cons]
    grind [writtenAt]

/-! ### Items by id -/

/-- R186: an id names one item. -/
theorem Item.ofId_id (i : Item) : Item.ofId i.id = some i := by
  cases i with
  | saveMask c => cases c <;> rfl
  | filterShift c => cases c <;> rfl
  | setpoint z => cases z <;> rfl
  | mode z => cases z <;> rfl
  | hOn z => cases z <;> rfl
  | hOff z => cases z <;> rfl
  | weight z => cases z <;> rfl
  | slotMax z => cases z <;> rfl
  | lossPolicy z => cases z <;> rfl
  | alarmHi z => cases z <;> rfl
  | alarmLo z => cases z <;> rfl
  | _ => rfl

theorem Item.id_injective : Function.Injective Item.id := fun i j h =>
  Option.some.inj (by rw [← Item.ofId_id i, h, Item.ofId_id])

/-! ### Effective values after a write -/

section

variable (t : Settings)

/-- R183: a written value is the effective value of its item, a dropped one leaves the default, and no other item
changes. -/
theorem Settings.eff_write (i j : Item) (v : Option Int) :
    (t.write i v).eff j = if j = i then v.getD (i.default t.profile) else t.eff j := by
  have hid : j.id = i.id ↔ j = i := Item.id_injective.eq_iff
  by_cases h : j = i
  · subst h
    cases v <;> simp [Settings.write, Settings.eff, writtenAt_putWritten, writtenAt_dropWritten]
  · cases v <;> simp [Settings.write, Settings.eff, writtenAt_putWritten, writtenAt_dropWritten, hid, h]

theorem Settings.follows_write (i : Item) (v : Option Int) : (t.write i v).follows i = v.isNone := by
  cases v <;> simp [Settings.write, Settings.follows, writtenAt_putWritten, writtenAt_dropWritten]

theorem Settings.eff_write_of_ne {i j : Item} (v : Option Int) (h : j ≠ i) : (t.write i v).eff j = t.eff j := by
  simp [Settings.eff_write, h]

/-- R185: an item's value under another profile differs only where its default does. -/
theorem Settings.eff_profile (i : Item) (p : Nat) (h : i.default p = i.default t.profile) :
    ({ t with profile := p } : Settings).eff i = t.eff i := by
  simp [Settings.eff, h]

/-- R185: only eight items have a default that depends on the profile. -/
theorem Item.default_of_not_profiled {i : Item} (h : i ∉ Item.profiled) (p : Nat) : i.default p = i.defaultA := by
  unfold Item.default
  split <;> first | rfl | exact absurd (by decide) h

end

end Sys2Proof.Machine

/-! What the operations of the Arbiter leave in its record, and what every operation keeps of the zone table's laws: the
plans within the route limits, the debts and urgencies in range, a zone in OFF at rest. -/

namespace Sys2Proof.Machine

section

variable (s : State)

/-! ### What a mode, a zone record and an effective value depend on -/

@[simp] theorem State.zone_onZone_self (z : Zone) (f : ZoneRec → ZoneRec) : (s.onZone z f).zone z = f (s.zone z) := by
  simp [State.zone]

theorem State.zone_onZone_of_ne (z y : Zone) (f : ZoneRec → ZoneRec) (h : y ≠ z) :
    (s.onZone z f).zone y = s.zone y := by
  simp [State.zone, PerZone.get_set_of_ne _ _ _ _ h]

variable {s} {t : State}

theorem State.mode_congr (h : t.settings = s.settings) (z : Zone) : t.mode z = s.mode z := by
  simp [State.mode, State.eff, h]

theorem State.effN_congr (h : t.settings = s.settings) (i : Item) : t.effN i = s.effN i := by
  simp [State.effN, State.eff, h]

theorem State.zone_congr (h : t.zones = s.zones) (z : Zone) : t.zone z = s.zone z := by
  simp [State.zone, h]

end

/-! ### The Arbiter's record after its operations -/

section

variable (s : State)

/-- R93: a requested duty leaves the dampers alone. -/
@[simp] theorem requestFan_dampers (duty : Nat) : (requestFan duty s).air.dampers = s.air.dampers := by
  unfold requestFan kickFan stopFan
  dsimp only
  repeat' split
  all_goals simp

/-- R52: a slot that takes the path serves at once where both dampers stand at its route. -/
theorem placeSlot_arb (r : Slot) :
    (placeSlot r s).arb = { s.arb with holder := .slot { r with serving := (placeSlot r s).bothSettled } } := by
  unfold placeSlot
  dsimp only
  split <;> next h => simp_all [serveSlot, switchSlot, State.bothSettled, State.damper]

/-- R64: the plan in use once a waiting commit has been applied. -/
def Arbiter.nextPlan (a : Arbiter) : Plan := if a.commitPending then a.staged else a.active

/-- R64: a waiting commit makes the staged plan the active one. -/
theorem applyPending_arb : (applyPending s).arb = { s.arb with active := s.arb.nextPlan, commitPending := false } := by
  unfold applyPending applyPlan Arbiter.nextPlan
  split
  · simp
  · next h => simp [← Bool.eq_false_of_not_eq_true h]

/-- R60: IDLE is entered. -/
theorem enterIdle_arb :
    (enterIdle s).arb = { s.arb with holder := .nobody, active := s.arb.nextPlan, commitPending := false } := by
  simp only [enterIdle, giveIdleOutputs_keeps, applyPending_arb]
  rfl

/-- R51: the slot that a grant gives. -/
def State.grantedSlot (s : State) (z : Zone) (serving : Bool) : Slot :=
  { zone := z, phase := .min, fixed := decide ((s.zone z).subst = .timed), route := s.arb.nextPlan.zone z, source := .plan
    serving := serving }

/-- R51, R52: a grant makes the zone the holder and the one last served. -/
theorem grantSlot_arb (z : Zone) :
    (grantSlot z s).arb =
      { s.arb with
        holder := .slot (s.grantedSlot z (grantSlot z s).bothSettled), lastServed := z, active := s.arb.nextPlan
        commitPending := false } := by
  unfold grantSlot
  dsimp only
  rw [placeSlot_arb]
  have hz : (applyPending s).zone z = s.zone z := State.zone_congr (by simp) z
  simp [applyPending_arb, State.grantedSlot, hz]

/-- R71: the slot that a popped frame resumes as. -/
def State.resumedSlot (s : State) (z : Zone) (phase : SlotPhase) (fixed : Bool) (snapshot : Option Route)
    (serving : Bool) : Slot :=
  { zone := z, phase := phase, fixed := fixed, route := snapshot.getD (s.arb.nextPlan.zone z)
    source := if snapshot = none then .plan else .snapshot, serving := serving }

/-- R71: a frame that resumes makes its zone the holder; without a snapshot a waiting commit is applied first. -/
theorem resumeSlot_arb (z : Zone) (phase : SlotPhase) (fixed : Bool) (remaining : Nat) (snapshot : Option Route) :
    (resumeSlot z phase fixed remaining snapshot s).arb =
      { s.arb with
        holder :=
          .slot (s.resumedSlot z phase fixed snapshot (resumeSlot z phase fixed remaining snapshot s).bothSettled)
        active := if snapshot = none then s.arb.nextPlan else s.arb.active
        commitPending := s.arb.commitPending && decide (snapshot ≠ none) } := by
  unfold resumeSlot
  cases snapshot with
  | some route =>
    dsimp only
    rw [placeSlot_arb]
    simp [State.resumedSlot]
  | none =>
    dsimp only
    rw [placeSlot_arb]
    simp [applyPending_arb, State.resumedSlot]

/-- R59: only a calling zone is chosen. -/
theorem State.choice_calling {z : Zone} (h : s.choice = some z) : (s.zone z).calling = true := by
  have hcand : ∀ y ∈ s.candidates, (s.zone y).calling = true := by
    intro y hy
    unfold State.candidates at hy
    dsimp only at hy
    repeat' split at hy
    all_goals simp_all [List.mem_filter]
  have hpick : ∀ last pool key, pickGreatest last pool key = some z → z ∈ pool := by
    intro last pool key hp
    have := List.find?_some hp
    simp_all
  unfold State.choice at h
  dsimp only at h
  split at h
  · exact hcand z (hpick _ _ _ h)
  · exact hcand z (List.mem_filter.mp (hpick _ _ _ h)).1

/-- R58, R60: with nobody to choose, arbitration enters IDLE. -/
theorem arbitrate_arb_of_none (h : s.choice = none) :
    (arbitrate s).arb =
      { s.arb with holder := .nobody, fullEnd := none, active := s.arb.nextPlan, commitPending := false } := by
  simp only [arbitrate, h, enterIdle_arb]
  rfl

/-- R51, R58: arbitration grants a slot to the zone chosen. -/
theorem arbitrate_arb_of_some {z : Zone} (h : s.choice = some z) :
    (arbitrate s).arb =
      { s.arb with
        holder := .slot (s.grantedSlot z (arbitrate s).bothSettled), lastServed := z, fullEnd := none
        active := s.arb.nextPlan, commitPending := false } := by
  have he : arbitrate s = grantSlot z (s.onArb fun a => { a with fullEnd := none }) := by simp only [arbitrate, h]
  rw [he, grantSlot_arb]
  rfl

theorem Arbiter.nextPlan_eq (a : Arbiter) : a.nextPlan = a.active ∨ a.nextPlan = a.staged := by
  unfold Arbiter.nextPlan
  split <;> simp

end

/-! ### The laws that an operation keeps -/

/-- R15: what keeps every urgency in range: U_LOST lies in it, and so does every urgency there is. -/
def UrgencyBounded (s : State) : Prop := s.effN .uLost ≤ 65535 ∧ UrgencyLaw s

/-- From `s` to `t` each law of the zone table and the plans goes on holding. -/
structure ZoneLawsKept (s t : State) : Prop where
  plans : PlanLaw s → PlanLaw t
  debts : DebtLaw s → DebtLaw t
  off : OffLaw s → OffLaw t
  urgencies : UrgencyBounded s → UrgencyBounded t

namespace ZoneLawsKept

variable {s t u : State}

theorem refl (s : State) : ZoneLawsKept s s := ⟨id, id, id, id⟩

theorem trans (h₁ : ZoneLawsKept s t) (h₂ : ZoneLawsKept t u) : ZoneLawsKept s u :=
  ⟨h₂.plans ∘ h₁.plans, h₂.debts ∘ h₁.debts, h₂.off ∘ h₁.off, h₂.urgencies ∘ h₁.urgencies⟩

/-- An operation that leaves the settings and the zones, grants no slot and at most applies the staged plan. -/
theorem of_path (hs : t.settings = s.settings) (hz : t.zones = s.zones)
    (ha : t.arb.active = s.arb.active ∨ t.arb.active = s.arb.staged) (hp : t.arb.staged = s.arb.staged)
    (hh : ∀ z, t.arb.holder.slotZone? = some z →
      s.arb.holder.slotZone? = some z ∨ (s.zone z).calling = true) : ZoneLawsKept s t where
  plans := fun ⟨hact, hst⟩ => ⟨by rcases ha with ha | ha <;> rw [ha] <;> assumption, hp ▸ hst⟩
  debts h z := State.zone_congr hz z ▸ h z
  off h z hm := by
    obtain ⟨hc, hd, hu, hn⟩ := h z (State.mode_congr hs z ▸ hm)
    rw [State.zone_congr hz]
    refine ⟨hc, hd, hu, fun hf => ?_⟩
    rcases hh z hf with hf | hf
    · exact hn hf
    · simp [hc] at hf
  urgencies := fun ⟨hl, hu⟩ => ⟨State.effN_congr hs .uLost ▸ hl, fun z => State.zone_congr hz z ▸ hu z⟩

/-- An operation that leaves the settings, the zones and the Arbiter's record. -/
theorem of_eq (h : t.settings = s.settings ∧ t.zones = s.zones ∧ t.arb = s.arb) : ZoneLawsKept s t :=
  of_path h.1 h.2.1 (.inl (by rw [h.2.2])) (by rw [h.2.2]) fun z hz => .inl (by rw [← h.2.2]; exact hz)

/-- A change of one zone record. -/
theorem of_zone (z : Zone) (f : ZoneRec → ZoneRec) (hd : (s.zone z).debt ≤ 60000 → (f (s.zone z)).debt ≤ 60000)
    (hu : s.effN .uLost ≤ 65535 → (s.zone z).urgency ≤ 65535 → (f (s.zone z)).urgency ≤ 65535)
    (ho : s.mode z = .off → (s.zone z).calling = false → (s.zone z).debt = 0 → (s.zone z).urgency = 0 →
      (f (s.zone z)).calling = false ∧ (f (s.zone z)).debt = 0 ∧ (f (s.zone z)).urgency = 0) :
    ZoneLawsKept s (s.onZone z f) where
  plans := id
  debts h y := by
    by_cases hy : y = z
    · subst hy; simpa using hd (h y)
    · simpa [State.zone_onZone_of_ne s z y f hy] using h y
  off h y hm := by
    obtain ⟨hc, hde, hur, hn⟩ := h y hm
    by_cases hy : y = z
    · subst hy
      obtain ⟨h1, h2, h3⟩ := ho hm hc hde hur
      simpa using ⟨h1, h2, h3, hn⟩
    · simpa [State.zone_onZone_of_ne s z y f hy] using ⟨hc, hde, hur, hn⟩
  urgencies := fun ⟨hl, h⟩ => ⟨hl, fun y => by
    by_cases hy : y = z
    · subst hy; simpa using hu hl (h y)
    · simpa [State.zone_onZone_of_ne s z y f hy] using h y⟩

/-- A change of one zone record that leaves D, U and calling. -/
theorem of_marks (z : Zone) (f : ZoneRec → ZoneRec) (hd : (f (s.zone z)).debt = (s.zone z).debt)
    (hu : (f (s.zone z)).urgency = (s.zone z).urgency) (hc : (f (s.zone z)).calling = (s.zone z).calling) :
    ZoneLawsKept s (s.onZone z f) :=
  of_zone z f (hd ▸ id) (fun _ => hu ▸ id) fun _ h1 h2 h3 => ⟨hc ▸ h1, hd ▸ h2, hu ▸ h3⟩

/-- A new debt of a zone that is not in OFF, or the debt 0. -/
theorem of_debt (z : Zone) (d : Nat) (hd : d ≤ 60000) (hm : s.mode z ≠ .off ∨ d = 0) :
    ZoneLawsKept s (s.onZone z fun r => { r with debt := d }) :=
  of_zone z _ (fun _ => hd) (fun _ => id) fun ho hc _ hu => ⟨hc, hm.resolve_left (fun h => h ho), hu⟩

/-- A zone that is not in OFF begins to call, or a zone stops calling. -/
theorem of_calling (z : Zone) (b : Bool) (hm : b = true → s.mode z ≠ .off) :
    ZoneLawsKept s (s.onZone z fun r => { r with calling := b }) :=
  of_zone z _ id (fun _ => id) fun ho _ hd hu =>
    ⟨by cases b with
      | false => rfl
      | true => exact absurd ho (hm rfl), hd, hu⟩

end ZoneLawsKept

end Sys2Proof.Machine

/-! Every operation of the block keeps the laws of the zone table and the plans, operation by operation. -/

namespace Sys2Proof.Machine

namespace ZoneLawsKept

variable {s t : State}

/-- A change of the settings that turns no zone OFF and leaves U_LOST in its range. -/
theorem of_settings (hm : ∀ z, t.mode z = .off → s.mode z = .off) (hl : s.effN .uLost ≤ 65535 → t.effN .uLost ≤ 65535)
    (hz : t.zones = s.zones) (ha : t.arb = s.arb) : ZoneLawsKept s t where
  plans h := by simpa [PlanLaw, ha] using h
  debts h z := by simpa [State.zone_congr hz] using h z
  off h z hz' := by simpa [State.zone_congr hz, ha] using h z (hm z hz')
  urgencies := fun ⟨h1, h2⟩ => ⟨hl h1, fun z => by simpa [State.zone_congr hz] using h2 z⟩

/-- R9: a zone enters OFF, at rest and without the running slot. -/
theorem of_off (z : Zone) (hm : ∀ y, y ≠ z → t.mode y = s.mode y) (hl : t.effN .uLost = s.effN .uLost)
    (hz : ∀ y, y ≠ z → t.zone y = s.zone y)
    (hr : (t.zone z).calling = false ∧ (t.zone z).debt = 0 ∧ (t.zone z).urgency = 0)
    (ha : t.arb.active = s.arb.active ∧ t.arb.staged = s.arb.staged) (hn : t.arb.holder.slotZone? ≠ some z)
    (hh : ∀ y, t.arb.holder.slotZone? = some y → s.arb.holder.slotZone? = some y) : ZoneLawsKept s t := by
  obtain ⟨hc, hd, hu⟩ := hr
  refine ⟨fun h => by simpa [PlanLaw, ha] using h, fun h y => ?_, fun h y hoff => ?_, fun ⟨h1, h2⟩ => ⟨hl ▸ h1, fun y => ?_⟩⟩
  · by_cases hy : y = z
    · simp [hy, hd]
    · exact hz y hy ▸ h y
  · by_cases hy : y = z
    · exact hy ▸ ⟨hc, hd, hu, hn⟩
    · obtain ⟨c, d, u, n⟩ := h y (hm y hy ▸ hoff)
      exact hz y hy ▸ ⟨c, d, u, fun hf => n (hh y hf)⟩
  · by_cases hy : y = z
    · simp [hy, hu]
    · exact hz y hy ▸ h2 y

end ZoneLawsKept

open ZoneLawsKept

variable (s : State)

/-! ### Urgency (R15) -/

theorem limitedN_le (n x : Nat) : limitedN 0 n x ≤ n := by
  unfold limitedN
  split <;> [omega; split <;> omega]

theorem urgencyOf_zero (w : Nat) : urgencyOf 0 w = 0 := by simp [urgencyOf, limitedN]

theorem State.urgencyNow_le (h : s.effN .uLost ≤ 65535) (z : Zone) : s.urgencyNow z ≤ 65535 := by
  unfold State.urgencyNow
  dsimp only
  split
  · exact h
  · exact limitedN_le _ _

theorem State.urgencyNow_of_off (z : Zone) (h : s.mode z = .off) (hd : (s.zone z).debt = 0) : s.urgencyNow z = 0 := by
  simp [State.urgencyNow, h, hd, urgencyOf_zero]

theorem recomputeU_zoneLaws (z : Zone) : ZoneLawsKept s (s.recomputeU z) :=
  of_zone z _ id (fun h _ => s.urgencyNow_le h z) fun ho hc hd _ => ⟨hc, hd, s.urgencyNow_of_off z ho hd⟩

/-! ### Grants, ends and releases of the path (R50 to R73) -/

theorem arbitrate_zoneLaws : ZoneLawsKept s (arbitrate s) := by
  cases hc : s.choice with
  | none =>
    refine of_path (by simp) (by simp) (by simp [arbitrate_arb_of_none s hc, s.arb.nextPlan_eq])
      (by simp [arbitrate_arb_of_none s hc]) fun y hy => ?_
    simp [arbitrate_arb_of_none s hc, Holder.slotZone?] at hy
  | some z =>
    refine of_path (by simp) (by simp) (by simp [arbitrate_arb_of_some s hc, s.arb.nextPlan_eq])
      (by simp [arbitrate_arb_of_some s hc]) fun y hy => .inr ?_
    have hzy : z = y := by simpa [arbitrate_arb_of_some s hc, Holder.slotZone?, State.grantedSlot] using hy
    exact hzy ▸ s.choice_calling hc

/-- The path passes to a holder that is no slot. -/
theorem setHolder_zoneLaws (h : Holder) (hh : h.slotZone? = none) : ZoneLawsKept s (setHolder h s) :=
  of_path rfl rfl (.inl rfl) rfl fun y hy => by simp [hh] at hy

/-- A change of the Arbiter's record that leaves the plans and the holder. -/
theorem onArb_zoneLaws (f : Arbiter → Arbiter) (ha : (f s.arb).active = s.arb.active)
    (hs : (f s.arb).staged = s.arb.staged) (hh : (f s.arb).holder = s.arb.holder) : ZoneLawsKept s (s.onArb f) :=
  of_path rfl rfl (.inl ha) hs fun y hy => .inl (by simpa [hh] using hy)

theorem endSlot_zoneLaws (z : Zone) (full : Bool) : ZoneLawsKept s (endSlot z full s) := by
  unfold endSlot
  dsimp only
  refine .trans (of_eq (t := ((s.stopC .slot).clearC (.wait z)).startC (.wait z)) (by simp)) ?_
  refine .trans (onArb_zoneLaws _ (fun a => { a with fullEnd := if full = true then some z else none }) rfl rfl rfl) ?_
  generalize State.onArb _ _ = w
  split
  · exact of_calling z false (by simp)
  · exact .refl _

theorem endHeldSlot_zoneLaws (z : Zone) (full : Bool) : ZoneLawsKept s (endHeldSlot z full s) :=
  ((setHolder_zoneLaws s .nobody rfl).trans (endSlot_zoneLaws _ z full)).trans (arbitrate_zoneLaws _)

/-- R67: a claim pushes a frame and leaves the rest of the Arbiter's record. -/
theorem pushFrame_arb (mask : Nat) : ∃ l, (pushFrame mask s).arb = { s.arb with stack := l } := by
  unfold pushFrame
  split
  case h_1 r _ => exact ⟨_, rfl⟩
  all_goals exact ⟨_, rfl⟩

theorem pushFrame_zoneLaws (mask : Nat) : ZoneLawsKept s (pushFrame mask s) := by
  obtain ⟨l, hl⟩ := pushFrame_arb s mask
  exact of_path (by simp) (by simp) (.inl (by rw [hl])) (by rw [hl]) fun y hy => .inl (by rw [hl] at hy; exact hy)

/-- R71: the slot of a calling zone resumes. -/
theorem resumeSlot_zoneLaws (z : Zone) (phase : SlotPhase) (fixed : Bool) (remaining : Nat) (snapshot : Option Route)
    (hc : (s.zone z).calling = true) : ZoneLawsKept s (resumeSlot z phase fixed remaining snapshot s) := by
  refine of_path (by simp) (by simp) ?_ (by simp [resumeSlot_arb]) fun y hy => .inr ?_
  · rw [resumeSlot_arb]
    by_cases h : snapshot = none <;> simp [h, s.arb.nextPlan_eq]
  · have hzy : z = y := by simpa [resumeSlot_arb, Holder.slotZone?, State.resumedSlot] using hy
    exact hzy ▸ hc

theorem popSlot_zoneLaws (mask : Nat) (z : Zone) (phase : SlotPhase) (fixed : Bool) (remaining : Nat)
    (snapshot : Option Route) : ZoneLawsKept s (popSlot mask z phase fixed remaining snapshot s) := by
  unfold popSlot
  split
  · next h => exact resumeSlot_zoneLaws _ _ _ _ _ _ (by simp_all)
  · exact (endSlot_zoneLaws _ _ _).trans (arbitrate_zoneLaws _)

theorem dropTop_zoneLaws : ZoneLawsKept s (dropTop s) := onArb_zoneLaws s _ rfl rfl rfl

theorem removeFrames_zoneLaws (p : SuspFrame → Bool) : ZoneLawsKept s (removeFrames p s) := onArb_zoneLaws s _ rfl rfl rfl

theorem claimDoor_zoneLaws : ZoneLawsKept s (claimDoor s) :=
  ((pushFrame_zoneLaws s (s.effN (.saveMask .door))).trans (setHolder_zoneLaws _ .door rfl)).trans
    (of_eq (by simp [claimDoor]))

theorem claimDefrost_zoneLaws : ZoneLawsKept s (claimDefrost s) :=
  ((pushFrame_zoneLaws s (s.effN (.saveMask .defrost))).trans (setHolder_zoneLaws _ .defrost rfl)).trans
    (of_eq (by simp [claimDefrost]))

theorem claimService_zoneLaws : ZoneLawsKept s (claimService s) := by
  refine ((pushFrame_zoneLaws s (s.effN (.saveMask .service))).trans (setHolder_zoneLaws _ .service rfl)).trans
    (of_eq ?_)
  unfold claimService
  by_cases h : s.arb.holder = .defrost <;> simp [h]

theorem own_zoneLaws (o : Own) : ZoneLawsKept s { s with own := o } := of_eq ⟨rfl, rfl, rfl⟩

theorem report_zoneLaws : ZoneLawsKept s (report s) := by
  unfold report
  dsimp only
  refine .trans (of_eq (t := tellHolder s) (by simp)) ?_
  split
  · split
    · exact .refl _
    · exact claimDoor_zoneLaws _
    · exact claimDefrost_zoneLaws _
    · split
      · exact .trans (own_zoneLaws _ _) (claimDoor_zoneLaws _)
      · exact .trans (own_zoneLaws _ _) (claimDefrost_zoneLaws _)
  · exact .refl _

theorem resumeDefrost_zoneLaws : ZoneLawsKept s (resumeDefrost s) := by
  refine .trans (of_eq (by simp) (t := s.onDefr fun d => { d with suspended := false })) ?_
  refine .trans (setHolder_zoneLaws _ .defrost rfl) (of_eq ?_)
  unfold resumeDefrost
  dsimp only
  repeat' split
  all_goals simp

theorem releasePath_zoneLaws : ZoneLawsKept s (releasePath s) := by
  unfold releasePath
  dsimp only
  refine .trans (setHolder_zoneLaws s .nobody rfl) (.trans ?_ (report_zoneLaws _))
  split
  · exact arbitrate_zoneLaws _
  · exact (dropTop_zoneLaws _).trans (popSlot_zoneLaws _ _ _ _ _ _ _)
  · exact ((dropTop_zoneLaws _).trans (setHolder_zoneLaws _ .door rfl)).trans (of_eq (by simp))
  · exact (dropTop_zoneLaws _).trans (resumeDefrost_zoneLaws _)

theorem endService_zoneLaws : ZoneLawsKept s (endService s) :=
  .trans (of_eq (by simp)) (releasePath_zoneLaws _)

/-! ### Calling and slot events (R17, R52 to R56, R63) -/

theorem callingBegan_zoneLaws : ZoneLawsKept s (callingBegan s) := by
  unfold callingBegan
  split
  · exact (arbitrate_zoneLaws _).trans (report_zoneLaws _)
  all_goals exact .refl _

theorem callingStopped_zoneLaws (z : Zone) : ZoneLawsKept s (callingStopped z s) := by
  unfold callingStopped
  split
  · split
    · exact (endHeldSlot_zoneLaws _ _ _).trans (report_zoneLaws _)
    · exact .refl _
  all_goals exact .refl _

theorem setCalling_zoneLaws (z : Zone) (b : Bool) (hm : b = true → s.mode z ≠ .off) :
    ZoneLawsKept s (setCalling z b s) := by
  unfold setCalling
  dsimp only
  split
  · exact .refl _
  · refine (of_calling z b hm).trans ?_
    split
    · exact callingBegan_zoneLaws _
    · exact callingStopped_zoneLaws _ _

/-- The holder's slot goes on with another record. -/
theorem setHolder_slot_zoneLaws {r q : Slot} (h : s.arb.holder = .slot r) (hq : q.zone = r.zone) :
    ZoneLawsKept s (setHolder (.slot q) s) :=
  of_path rfl rfl (.inl rfl) rfl fun y hy => .inl (by simpa [h, Holder.slotZone?, hq] using hy)

theorem onSlotExpiry_zoneLaws : ZoneLawsKept s (onSlotExpiry s) := by
  have hend : ∀ z full, ZoneLawsKept s (report (endHeldSlot z full s)) := fun z full =>
    (endHeldSlot_zoneLaws s z full).trans (report_zoneLaws _)
  unfold onSlotExpiry
  split
  · next r hr =>
    split
    · exact hend _ _
    · split
      · exact hend _ _
      · split
        · exact hend _ _
        · split
          · exact hend _ _
          · exact (setHolder_slot_zoneLaws s hr (q := { r with phase := .extend }) rfl).trans (of_eq (by simp))
  all_goals exact .refl _

theorem serveSlot_zoneLaws {r : Slot} (h : s.arb.holder = .slot r) : ZoneLawsKept s (serveSlot r s) :=
  (setHolder_slot_zoneLaws s (q := { r with serving := true }) h rfl).trans (of_eq (by simp [serveSlot]))

theorem onCompletion_zoneLaws : ZoneLawsKept s (onCompletion s) := by
  unfold onCompletion
  split
  · next r hr =>
    split
    · refine .trans ?_ (report_zoneLaws _)
      simp_all [endSwitching, serveSlot_zoneLaws s hr]
    · exact .refl _
  all_goals exact .refl _

theorem applyPlan_zoneLaws : ZoneLawsKept s (applyPlan s) :=
  of_path (by simp) (by simp) (.inr rfl) rfl fun _ hy => .inl hy

theorem commitPlan_zoneLaws : ZoneLawsKept s (commitPlan s) := by
  unfold commitPlan
  split
  · exact ((applyPlan_zoneLaws s).trans (of_eq (by simp))).trans (report_zoneLaws _)
  all_goals exact onArb_zoneLaws s _ rfl rfl rfl

/-! ### The defrost's use of the path (R120 to R134) -/

theorem enterPending_zoneLaws : ZoneLawsKept s (enterPending s) := by
  unfold enterPending
  dsimp only
  refine .trans (of_eq (by simp) (t := setPhase .pending s)) ?_
  split
  · exact claimDefrost_zoneLaws _
  · exact .refl _

theorem dueCheck_zoneLaws : ZoneLawsKept s (dueCheck s) := by
  unfold dueCheck
  split
  · exact enterPending_zoneLaws _
  · exact .refl _

theorem leaveDefrost_zoneLaws : ZoneLawsKept s (leaveDefrost s) := by
  unfold leaveDefrost
  dsimp only
  refine .trans (of_eq (by simp)
    (t := (setPhase .idle (s.onDefr fun d => { d with suspended := false })).setLevel .defrostActive false)) ?_
  repeat' split
  · exact removeFrames_zoneLaws _ _
  · exact releasePath_zoneLaws _
  · exact .refl _

theorem endRecover_zoneLaws : ZoneLawsKept s (endRecover s) :=
  .trans (of_eq (t := ((s.stopC .phase).clearC .gap).raise .defrostDone) (by simp)) (leaveDefrost_zoneLaws _)

/-- A write of an item other than U_LOST and the modes. -/
theorem write_zoneLaws (i : Item) (v : Option Int) (hm : ∀ z, i ≠ .mode z) (hl : i ≠ .uLost) :
    ZoneLawsKept s { s with settings := s.settings.write i v } :=
  of_settings (fun z hz => by
      simpa [State.mode, State.eff, Settings.eff_write_of_ne _ v (hm z).symm] using hz)
    (by simp [State.effN, State.eff, Settings.eff_write_of_ne _ v hl.symm]) rfl rfl

theorem adaptDue_zoneLaws (how : HeatEnd) : ZoneLawsKept s (adaptDue how s) := by
  unfold adaptDue
  dsimp only
  split
  · exact write_zoneLaws s .fDue _ (by simp) (by simp)
  · exact .refl _

theorem enterDrip_zoneLaws : ZoneLawsKept s (enterDrip s) := of_eq (by simp)

theorem endHeat_zoneLaws (how : HeatEnd) : ZoneLawsKept s (endHeat how s) := by
  unfold endHeat
  dsimp only
  refine .trans ?_ (.trans (adaptDue_zoneLaws _ how) (enterDrip_zoneLaws _))
  exact of_eq (by simp)

theorem heatTimedOut_zoneLaws : ZoneLawsKept s (heatTimedOut s) := by
  unfold heatTimedOut
  split
  · exact .trans (of_eq (by simp)) (endHeat_zoneLaws _ _)
  · exact endHeat_zoneLaws _ _

theorem coilLossInHeat_zoneLaws : ZoneLawsKept s (coilLossInHeat s) := by
  have htimed : ZoneLawsKept s (s.onDefr fun d => { d with coilTimed := true }) := of_eq (by simp)
  unfold coilLossInHeat
  dsimp only
  split
  · exact .refl _
  · split
    · exact htimed
    · split
      · exact htimed.trans (of_eq (by split <;> simp))
      · exact htimed.trans (endHeat_zoneLaws _ _)

theorem coilInHeat_zoneLaws (state : ChanState) (tf : Option Int) : ZoneLawsKept s (coilInHeat state tf s) := by
  unfold coilInHeat
  dsimp only
  split
  · exact .trans (of_eq (by simp)) (coilLossInHeat_zoneLaws _)
  · generalize (s.defrostHolding && !s.level .heaterOpen && _) = hit
    split
    · split
      · refine .trans ?_ (endHeat_zoneLaws _ _)
        exact of_eq (by simp)
      · exact of_eq (by simp)
    · exact of_eq (by simp)

theorem onCoilSample_zoneLaws (state : ChanState) (tf : Option Int) : ZoneLawsKept s (onCoilSample state tf s) := by
  unfold onCoilSample
  dsimp only
  refine .trans (of_eq (by simp) (t := s.onDefr fun d => { d with coilLost := decide (state = .lost) })) ?_
  split
  · exact coilInHeat_zoneLaws _ _ _
  · split
    · exact endRecover_zoneLaws _
    · exact .refl _
  all_goals exact .refl _

theorem onPhaseExpiry_zoneLaws : ZoneLawsKept s (onPhaseExpiry s) := by
  unfold onPhaseExpiry
  split
  · exact of_eq (by simp)
  · exact heatTimedOut_zoneLaws _
  · exact of_eq (by simp)
  · exact endRecover_zoneLaws _
  all_goals exact .refl _

theorem growFrost_zoneLaws (n : Nat) : ZoneLawsKept s (growFrost n s) := by
  unfold growFrost
  dsimp only
  split
  · exact of_eq (by simp)
  · exact .trans (of_eq (by simp)) (dueCheck_zoneLaws _)

theorem onHeaterSenseRound_zoneLaws (sense : Bool) : ZoneLawsKept s (onHeaterSenseRound sense s) := by
  unfold onHeaterSenseRound
  dsimp only
  refine .trans (of_eq (by simp) (t := heaterStuckRound sense (heaterOpenRound sense s))) ?_
  split
  · exact dueCheck_zoneLaws _
  · exact .refl _

/-! ### The Zone Table (R6 to R24) -/

theorem debtAfter_le (debt : Nat) (tf sEff : Int) : debtAfter debt tf sEff ≤ 60000 := by
  unfold debtAfter limited
  split_ifs <;> omega

theorem trustedSample_zoneLaws (z : Zone) (tf : Int) (hm : s.mode z ≠ .off) : ZoneLawsKept s (trustedSample z tf s) := by
  have hd := of_debt (s := s) z _ (debtAfter_le (s.zone z).debt tf (s.sEff z)) (.inl hm)
  unfold trustedSample
  dsimp only
  split
  · exact hd.trans (recomputeU_zoneLaws _ z)
  · exact (hd.trans (recomputeU_zoneLaws _ z)).trans (setCalling_zoneLaws _ z true fun _ => hm)
  · refine .trans (.trans ?_ (recomputeU_zoneLaws _ z)) (setCalling_zoneLaws _ z false (by simp))
    exact of_zone z _ (by simp) (fun _ => id) fun ho => absurd ho hm

theorem enterPolicy_zoneLaws (z : Zone) (p : Subst) (hm : s.mode z ≠ .off) : ZoneLawsKept s (enterPolicy z p s) := by
  have hs : ∀ q, ZoneLawsKept s ((s.onZone z fun r => { r with subst := q }).recomputeU z) := fun q =>
    (of_marks z _ rfl rfl rfl).trans (recomputeU_zoneLaws _ z)
  unfold enterPolicy
  split
  · exact (hs _).trans (setCalling_zoneLaws _ z true fun _ => hm)
  · dsimp only
    split
    · exact hs _
    · exact (hs _).trans (setCalling_zoneLaws _ z _ fun _ => hm)
  · refine .trans ?_ (setCalling_zoneLaws _ z false (by simp))
    exact of_zone z _ (by simp) (by simp) fun ho => absurd ho hm
  all_goals exact .refl _

theorem policySample_zoneLaws (z : Zone) (hm : s.mode z ≠ .off) : ZoneLawsKept s (policySample z s) := by
  unfold policySample
  dsimp only
  split
  · exact setCalling_zoneLaws s z true fun _ => hm
  · exact .refl _

theorem lostSample_zoneLaws (z : Zone) (lost : Nat) (hm : s.mode z ≠ .off) : ZoneLawsKept s (lostSample z lost s) := by
  have hw : ZoneLawsKept s
      (if lost < s.effN .lossHold then s.onZone z fun r => { r with subst := .holdWindow }
        else enterPolicy z (policyOf (s.eff (.lossPolicy z))) s) := by
    split
    · exact of_marks z _ rfl rfl rfl
    · exact enterPolicy_zoneLaws s z _ hm
  unfold lostSample
  dsimp only
  split
  · exact hw
  · exact hw
  · split
    · exact policySample_zoneLaws s z hm
    · exact enterPolicy_zoneLaws s z _ hm

theorem validSample_zoneLaws (z : Zone) (tf : Option Int) (hm : s.mode z ≠ .off) :
    ZoneLawsKept s (validSample z tf s) := by
  unfold validSample
  split
  · exact trustedSample_zoneLaws s z _ hm
  · exact (of_marks z _ rfl rfl rfl).trans (trustedSample_zoneLaws _ z _ hm)
  · exact .refl _
  · exact of_marks z _ rfl rfl rfl
  · refine .trans ?_ (recomputeU_zoneLaws _ z)
    exact of_zone z _ (by simp) (fun _ => id) fun ho => absurd ho hm

theorem alarmSample_zoneLaws (z : Zone) : ZoneLawsKept s (alarmSample z s) := of_eq (by simp)

theorem zoneSample_zoneLaws (z : Zone) : ZoneLawsKept s (zoneSample z s) := by
  unfold zoneSample
  dsimp only
  refine .trans ?_ (alarmSample_zoneLaws _ z)
  split
  · exact of_marks z _ rfl rfl rfl
  · next hm =>
    split
    · exact validSample_zoneLaws s z _ hm
    · exact .refl _
    · exact lostSample_zoneLaws s z _ hm

theorem enterBoost_zoneLaws (z : Zone) (hm : s.mode z ≠ .off) : ZoneLawsKept s (enterBoost z s) := by
  have hb : ZoneLawsKept s (startBoost z s) := of_eq (by simp)
  have hm' : (startBoost z s).mode z ≠ .off := by rwa [State.mode_congr (s := s) (by simp)]
  unfold enterBoost
  dsimp only
  split <;> first | exact hb | exact hb.trans (setCalling_zoneLaws _ z true fun _ => hm')

theorem leaveOff_zoneLaws (z : Zone) (new : Mode) (hm : s.mode z ≠ .off) : ZoneLawsKept s (leaveOff z new s) := by
  have hd : ZoneLawsKept s ((s.onZone z fun r => { r with debt := 0 }).recomputeU z) :=
    (of_debt z 0 (by simp) (.inr rfl)).trans (recomputeU_zoneLaws _ z)
  unfold leaveOff
  dsimp only
  generalize hw : (if new = .boost then _ else (s.onZone z fun r => { r with debt := 0 }).recomputeU z) = w
  have hkept : ZoneLawsKept s w := by
    subst hw
    split
    · exact hd.trans (of_eq (by simp))
    · exact hd
  have hmode : w.mode z ≠ .off := by
    rw [State.mode_congr (t := w) (s := s)]
    · exact hm
    · subst hw
      split <;> simp
  have hcall : ∀ b, ZoneLawsKept s (setCalling z b w) := fun b => hkept.trans (setCalling_zoneLaws _ z b fun _ => hmode)
  repeat' split
  all_goals exact hcall _

/-- R6: the effects common to every change of mode. -/
def modeMarks (z : Zone) (old : Mode) (s : State) : State :=
  let s := (s.onZone z fun r => { r with warmArmed := false }).recomputeU z
  evalAlarm z .change (if old = .boost then s.stopC (.boost z) else s)

theorem onModeChange_eq (z : Zone) (old new : Mode) :
    onModeChange z old new s =
      if new = .off then enterOff z (modeMarks z old s)
      else if old = .off then leaveOff z new (modeMarks z old s)
      else if new = .boost then enterBoost z (modeMarks z old s)
      else modeMarks z old s := rfl

theorem modeMarks_keeps (z : Zone) (old : Mode) :
    (modeMarks z old s).settings = s.settings ∧ (modeMarks z old s).arb = s.arb ∧
      (modeMarks z old s).zones = ((s.onZone z fun r => { r with warmArmed := false }).recomputeU z).zones := by
  unfold modeMarks
  split <;> simp

theorem modeMarks_zoneLaws (z : Zone) (old : Mode) : ZoneLawsKept s (modeMarks z old s) := by
  obtain ⟨hs, ha, hz⟩ := modeMarks_keeps s z old
  exact ((of_marks z _ rfl rfl rfl).trans (recomputeU_zoneLaws _ z)).trans (of_eq ⟨hs, hz, ha⟩)

/-- R7, R8, R10: a change to another mode than OFF. -/
theorem onModeChange_zoneLaws (z : Zone) (old new : Mode) (hm : s.mode z ≠ .off) (hnew : new ≠ .off) :
    ZoneLawsKept s (onModeChange z old new s) := by
  have hmode : (modeMarks z old s).mode z ≠ .off := by rwa [State.mode_congr (modeMarks_keeps s z old).1]
  rw [onModeChange_eq, if_neg hnew]
  refine (modeMarks_zoneLaws s z old).trans ?_
  split
  · exact leaveOff_zoneLaws _ z new hmode
  · split
    · exact enterBoost_zoneLaws _ z hmode
    · exact .refl _

/-- R9, R56, R73: the slot of a zone that has entered OFF ends, whether it holds the path or lies on the stack. -/
theorem endSlotAtOff_cases (z : Zone) :
    (s.arb.holder.slotZone? = some z ∧ endSlotAtOff z s = report (endHeldSlot z false s)) ∨
      (s.arb.holder.slotZone? ≠ some z ∧ ZoneLawsKept s (endSlotAtOff z s)) := by
  unfold endSlotAtOff
  by_cases h : s.arb.holder.slotZone? = some z
  · exact .inl ⟨h, if_pos h⟩
  · refine .inr ⟨h, ?_⟩
    rw [if_neg h]
    split
    · exact (removeFrames_zoneLaws s _).trans (endSlot_zoneLaws _ z false)
    · exact .refl _

/-- The zone record of a zone that enters OFF (R9). -/
def ZoneRec.rested (r : ZoneRec) : ZoneRec := { r with calling := false, debt := 0, urgency := 0 }

theorem enterOff_eq (z : Zone) : enterOff z s = endSlotAtOff z (clearAlarms z (s.onZone z ZoneRec.rested)) := rfl

theorem modeMarks_zone_of_ne (z y : Zone) (old : Mode) (h : y ≠ z) : (modeMarks z old s).zone y = s.zone y := by
  rw [State.zone_congr (modeMarks_keeps s z old).2.2, State.recomputeU, State.zone_onZone_of_ne _ _ _ _ h,
    State.zone_onZone_of_ne _ _ _ _ h]

/-- R6, R9: a MODE write that puts a zone into OFF. -/
theorem mode_write_off_zoneLaws (z : Zone) (old : Mode) (v : Option Int) :
    ZoneLawsKept s (onModeChange z old .off { s with settings := s.settings.write (.mode z) v }) := by
  rw [onModeChange_eq, if_pos rfl, enterOff_eq]
  set w : State := { s with settings := s.settings.write (.mode z) v } with hw
  set u := clearAlarms z ((modeMarks z old w).onZone z ZoneRec.rested) with hu
  obtain ⟨hset, harb, -⟩ := modeMarks_keeps w z old
  have huset : u.settings = w.settings := by simp [hu, hset]
  have huarb : u.arb = s.arb := by simpa [hu, harb] using congrArg State.arb hw
  have huzone : ∀ y, y ≠ z → u.zone y = s.zone y := fun y hy => by
    have : u.zone y = (modeMarks z old w).zone y := by simp [hu, State.zone, PerZone.get_set_of_ne _ _ _ _ hy]
    rw [this, modeMarks_zone_of_ne w z y old hy]; rfl
  have hurest : (u.zone z).calling = false ∧ (u.zone z).debt = 0 ∧ (u.zone z).urgency = 0 := by
    simp [hu, State.zone, ZoneRec.rested]
  have hmode : ∀ y, y ≠ z → u.mode y = s.mode y := fun y hy => by
    simp [State.mode, State.eff, huset, hw, Settings.eff_write_of_ne _ v (show Item.mode y ≠ .mode z by simpa using hy)]
  have hlost : u.effN .uLost = s.effN .uLost := by
    simp [State.effN, State.eff, huset, hw, Settings.eff_write_of_ne _ v (show Item.uLost ≠ .mode z by simp)]
  rcases endSlotAtOff_cases u z with ⟨-, he⟩ | ⟨hn, hkept⟩
  · have hout : ZoneLawsKept s (setHolder .nobody u) :=
      of_off z hmode hlost huzone hurest (by simp [huarb]) (by simp [Holder.slotZone?]) (by simp [Holder.slotZone?])
    rw [he]
    exact ((hout.trans (endSlot_zoneLaws _ z false)).trans (arbitrate_zoneLaws _)).trans (report_zoneLaws _)
  · exact (of_off z hmode hlost huzone hurest (by simp [huarb]) hn (by simp [huarb])).trans hkept

/-- R6: a write or a drop of a MODE item, and the change of mode it makes. -/
theorem mode_write_zoneLaws (z : Zone) (old : Mode) (v : Option Int) (w : State)
    (hw : w = { s with settings := s.settings.write (.mode z) v }) :
    ZoneLawsKept s (onModeChange z old (w.mode z) w) := by
  by_cases hoff : w.mode z = .off
  · rw [hoff, hw]
    exact mode_write_off_zoneLaws s z old v
  · refine .trans (of_settings (fun y hy => ?_) ?_ (by simp [hw]) (by simp [hw]))
      (onModeChange_zoneLaws w z old _ hoff hoff)
    · have hyz : y ≠ z := fun h => hoff (h ▸ hy)
      simpa [hw, State.mode, State.eff, Settings.eff_write_of_ne _ v (show Item.mode y ≠ .mode z by simpa using hyz)]
        using hy
    · simp [hw, State.effN, State.eff, Settings.eff_write_of_ne _ v (show Item.uLost ≠ .mode z by simp)]

/-- A write of a MODE item that leaves the mode. -/
theorem same_mode_zoneLaws (z : Zone) (v : Option Int)
    (h : ({ s with settings := s.settings.write (.mode z) v } : State).mode z = s.mode z) :
    ZoneLawsKept s { s with settings := s.settings.write (.mode z) v } := by
  refine of_settings (fun y hy => ?_) ?_ rfl rfl
  · by_cases hyz : y = z
    · subst hyz; exact h ▸ hy
    · simpa [State.mode, State.eff, Settings.eff_write_of_ne _ v (show Item.mode y ≠ .mode z by simpa using hyz)] using hy
  · simp [State.effN, State.eff, Settings.eff_write_of_ne _ v (show Item.uLost ≠ .mode z by simp)]

theorem onBoostExpiry_zoneLaws (z : Zone) : ZoneLawsKept s (onBoostExpiry z s) := by
  unfold onBoostExpiry
  dsimp only
  split
  · next h => exact same_mode_zoneLaws s z none h.symm
  · exact mode_write_zoneLaws s z _ none _ rfl

/-! ### Settings that reach a record (R15, R16, R24) -/

theorem onSetpointChange_zoneLaws (z : Zone) : ZoneLawsKept s (onSetpointChange z s) := by
  unfold onSetpointChange
  split
  · exact .refl _
  · exact .trans (of_marks z (fun r => { r with warmArmed := false }) rfl rfl rfl) (of_eq (by simp))

theorem uLostReaches_zoneLaws (z : Zone) : ZoneLawsKept s (uLostReaches z s) := by
  unfold uLostReaches
  split
  · exact recomputeU_zoneLaws s z
  · exact .refl _

theorem onULostChange_zoneLaws : ZoneLawsKept s (onULostChange s) :=
  ((uLostReaches_zoneLaws s .fresh).trans (uLostReaches_zoneLaws _ .chill)).trans (uLostReaches_zoneLaws _ .freeze)

theorem takeCredit_zoneLaws (z : Zone) (credit : Nat) : ZoneLawsKept s (takeCredit z credit s) := by
  have hcredit : s.mode z ≠ .off →
      ZoneLawsKept s ((s.onZone z fun r => { r with debt := limitedN 0 60000 (r.debt + credit) }).recomputeU z) :=
    fun hm => (of_debt z (limitedN 0 60000 ((s.zone z).debt + credit)) (limitedN_le _ _) (.inl hm)).trans
      (recomputeU_zoneLaws _ z)
  unfold takeCredit
  split
  · exact .refl _
  · next hm => split <;> first | exact .refl _ | exact hcredit hm

/-! ### Doors and the scan round (R30, R141 to R148) -/

theorem claimPause_zoneLaws : ZoneLawsKept s (claimPause s) := by
  unfold claimPause
  split <;> first | exact claimDoor_zoneLaws s | exact of_eq (by simp)

theorem onOpening_zoneLaws (d : Door) : ZoneLawsKept s (onOpening d s) := by
  unfold onOpening
  dsimp only
  refine .trans (of_eq (by simp) (t := s.onDoor d fun r =>
    { r with isOpen := true, raw := true, differs := 0, openCount := (r.openCount + 1) % 65536 })) ?_
  split
  · exact of_eq (by simp)
  · split
    · exact claimPause_zoneLaws _
    · exact .refl _

theorem pauseAtLastClose_zoneLaws : ZoneLawsKept s (pauseAtLastClose s) := of_eq (by simp)

theorem onClose_zoneLaws (d : Door) : ZoneLawsKept s (onClose d s) := by
  unfold onClose
  dsimp only
  generalize hv : setAjar d false _ = v
  have hsv : ZoneLawsKept s v := of_eq (by simp [← hv])
  have hgrown := (hsv.trans (takeCredit_zoneLaws v (doorZone d)
      (creditOf ((s.onCounter (.door d) Counter.capture).counter (.door d)).result (v.effN .recoveryGain)
        (v.effN .recoveryMinOpen)))).trans
    (growFrost_zoneLaws _ (frostOf d ((s.onCounter (.door d) Counter.capture).counter (.door d)).result))
  split
  · exact hgrown
  · exact hgrown.trans (pauseAtLastClose_zoneLaws _)

theorem endPause_zoneLaws : ZoneLawsKept s (endPause s) := by
  unfold endPause
  split
  · split
    · exact .trans (of_eq (t := setPause .none s) (by simp)) (releasePath_zoneLaws _)
    · exact of_eq (by simp)
  · exact (removeFrames_zoneLaws s SuspFrame.isDoor).trans (of_eq (by simp))
  all_goals exact of_eq (by simp)

theorem onSettleExpiry_zoneLaws : ZoneLawsKept s (onSettleExpiry s) :=
  .trans (of_eq (t := setPauseSpent false (s.stopC .pause)) (by simp)) (endPause_zoneLaws _)

theorem onPauseExpiry_zoneLaws : ZoneLawsKept s (onPauseExpiry s) :=
  .trans (of_eq (t := setPauseSpent s.anyOpen (s.stopC .settle)) (by simp)) (endPause_zoneLaws _)

theorem coilSample_zoneLaws : ZoneLawsKept s (coilSample s) := onCoilSample_zoneLaws s _ _

theorem onAmbientSample_zoneLaws : ZoneLawsKept s (onAmbientSample s) := of_eq (by simp)

theorem onCompFlt_zoneLaws (asserted : Bool) : ZoneLawsKept s (onCompFlt asserted s) := of_eq (by simp)

/-- R38, R44: what a round is handed to, once every channel has its record. -/
theorem roundEvents_zoneLaws (sense flt : Bool) :
    ZoneLawsKept s (onAmbientSample (coilSample (zoneSample .freeze (zoneSample .chill (zoneSample .fresh
      (onCompFlt flt (onHeaterSenseRound sense s))))))) := by
  refine .trans ?_ (onAmbientSample_zoneLaws _)
  refine .trans ?_ (coilSample_zoneLaws _)
  refine .trans ?_ (zoneSample_zoneLaws _ .freeze)
  refine .trans ?_ (zoneSample_zoneLaws _ .chill)
  refine .trans ?_ (zoneSample_zoneLaws _ .fresh)
  exact (onHeaterSenseRound_zoneLaws s sense).trans (onCompFlt_zoneLaws _ flt)

theorem onRound_zoneLaws (sets : List SampleSet) : ZoneLawsKept s (onRound sets s) := by
  refine .trans ?_ (roundEvents_zoneLaws _ _ _)
  exact of_eq (by simp)

/-! ### The Settings Store (R182 to R185) -/

theorem evalAllAlarms_zoneLaws : ZoneLawsKept s (evalAllAlarms s) := of_eq (by simp)

theorem governed_zoneLaws (i : Item) : ZoneLawsKept s (governed i s) := of_eq (by simp)

/-- R182: a changed value of an item other than MODE reaches its owner. -/
theorem handChange_zoneLaws (i : Item) (old : Int) (hm : ∀ z, i ≠ .mode z) : ZoneLawsKept s (handChange i old s) := by
  cases i with
  | mode z => exact absurd rfl (hm z)
  | setpoint z => exact onSetpointChange_zoneLaws s z
  | weight z => exact recomputeU_zoneLaws s z
  | uLost => exact onULostChange_zoneLaws s
  | alarmHi z => exact of_eq (by simp [handChange])
  | alarmLo z => exact of_eq (by simp [handChange])
  | alarmDelay => exact (governed_zoneLaws s .alarmDelay).trans (evalAllAlarms_zoneLaws _)
  | nMin => exact of_eq (by simp [handChange])
  | nMax => exact of_eq (by simp [handChange])
  | ambRef => exact of_eq (by simp [handChange])
  | fDue => exact dueCheck_zoneLaws s
  | minGap => exact dueCheck_zoneLaws s
  | maxGap => exact dueCheck_zoneLaws s
  | ajarTime => exact of_eq (by simp [handChange])
  | _ => exact of_eq (by simp [handChange])

/-- A store of a value that U_LOST's range allows. -/
theorem storeItem_zoneLaws (i : Item) (v : Option Int) (hv : i = .uLost → ∀ w, v = some w → w.toNat ≤ 65535) :
    ZoneLawsKept s (storeItem i v s) := by
  by_cases hmode : ∃ z, i = .mode z
  · obtain ⟨z, rfl⟩ := hmode
    unfold storeItem
    dsimp only
    split
    · next h => exact same_mode_zoneLaws s z v (by rw [State.mode, h, State.mode])
    · exact mode_write_zoneLaws s z _ v _ rfl
  · have hm : ∀ z, i ≠ .mode z := fun z h => hmode ⟨z, h⟩
    have hw : ZoneLawsKept s { s with settings := s.settings.write i v } := by
      by_cases hl : i = .uLost
      · subst hl
        refine of_settings (fun z hz => ?_) (fun _ => ?_) rfl rfl
        · simpa [State.mode, State.eff, Settings.eff_write_of_ne _ v (hm z).symm] using hz
        · cases v with
          | none => simp [State.effN, State.eff, Settings.eff_write, Item.default_of_not_profiled, Item.profiled, Item.defaultA]
          | some w => simpa [State.effN, State.eff, Settings.eff_write] using hv rfl w rfl
      · exact write_zoneLaws s i v hm hl
    unfold storeItem
    dsimp only
    split
    · exact hw
    · exact hw.trans (handChange_zoneLaws _ i _ hm)

theorem repeatBoost_zoneLaws (i : Item) (v : Int) : ZoneLawsKept s (repeatBoost i v s) := of_eq (by simp)

theorem setItem_zoneLaws (i : Item) (v : Int) : ZoneLawsKept s (setItem i v s).2 := by
  unfold setItem
  split
  · exact .refl _
  · exact storeItem_zoneLaws s i none (by simp)
  · next w hw =>
    refine (repeatBoost_zoneLaws s i v).trans (storeItem_zoneLaws _ i _ fun hi x hx => ?_)
    subst hi
    have hv : settleValue s .uLost v = some (if v = -32768 then none else some (limited 256 16384 v)) := rfl
    rw [hv] at hw
    split at hw
    · simp at hw
    · have : limited 256 16384 v = x := by simpa [Item.range] using (Option.some.inj hw).trans hx
      unfold limited at this
      split_ifs at this <;> omega

theorem handChanges_zoneLaws (old : Settings) (items : List Item) (hm : ∀ i ∈ items, ∀ z, i ≠ .mode z) :
    ZoneLawsKept s (handChanges old items s) := by
  induction items generalizing s with
  | nil => exact .refl _
  | cons i rest ih =>
    simp only [handChanges]
    refine .trans ?_ (ih _ fun j hj => hm j (List.mem_cons_of_mem _ hj))
    split
    · exact .refl _
    · exact handChange_zoneLaws s i _ (hm i List.mem_cons_self)

theorem changeProfile_zoneLaws (p : Nat) : ZoneLawsKept s (changeProfile p s) := by
  unfold changeProfile
  split
  · exact .refl _
  · refine .trans (t := { s with settings := { s.settings with profile := p } }) (of_settings (fun z hz => ?_) ?_ rfl rfl)
      (handChanges_zoneLaws _ _ _ fun i hi z h => by simp [h, Item.profiled] at hi)
    · have : (Item.mode z).default p = (Item.mode z).default s.settings.profile := by
        simp [Item.default_of_not_profiled, Item.profiled]
      simpa [State.mode, State.eff, Settings.eff_profile _ _ _ this] using hz
    · have : Item.uLost.default p = Item.uLost.default s.settings.profile := by
        simp [Item.default_of_not_profiled, Item.profiled]
      simp [State.effN, State.eff, Settings.eff_profile _ _ _ this]

end Sys2Proof.Machine

/-! Every step of the block keeps the laws of the zone table and the plans: the expiries, the requests, the resets, the
events and the clock, and the obligation that sums them up. -/

namespace Sys2Proof.Machine

open ZoneLawsKept

variable (s : State)

/-! ### Expiries (R155) -/

theorem onSvcExpiry_zoneLaws : ZoneLawsKept s (onSvcExpiry s) := by
  unfold onSvcExpiry
  split
  · exact endService_zoneLaws s
  · exact .refl _

theorem onExpiry_zoneLaws (i : CounterId) : ZoneLawsKept s (onExpiry i s) := by
  cases i with
  | slot => exact onSlotExpiry_zoneLaws s
  | guard => exact of_eq (by simp [onExpiry])
  | condrun => exact of_eq (by simp [onExpiry])
  | phase => exact onPhaseExpiry_zoneLaws s
  | settle => exact onSettleExpiry_zoneLaws s
  | pause => exact onPauseExpiry_zoneLaws s
  | fantime => exact of_eq (by simp [onExpiry])
  | boost z => exact onBoostExpiry_zoneLaws s z
  | alm z => exact of_eq (by simp [onExpiry])
  | svc => exact onSvcExpiry_zoneLaws s
  | _ => exact .refl _

theorem drain_zoneLaws (n : Nat) : ZoneLawsKept s (drain n s) := by
  induction n generalizing s with
  | zero => exact .refl _
  | succ n ih =>
    unfold drain
    split
    · exact .refl _
    · exact ((own_zoneLaws s _).trans (onExpiry_zoneLaws _ _)).trans (ih _)

theorem onCounter_zoneLaws (i : CounterId) (f : Counter → Counter) : ZoneLawsKept s (s.onCounter i f) := of_eq (by simp)

theorem fireOneShot_zoneLaws (i : CounterId) (effect : State → State) (he : ∀ u, ZoneLawsKept u (effect u)) :
    ZoneLawsKept s (fireOneShot i effect s) := by
  unfold fireOneShot
  split
  · exact (onCounter_zoneLaws s i _).trans (he _)
  · exact .refl _

/-! ### Requests (R177) -/

theorem limited_bounds {a b : Int} (h : a ≤ b) (x : Int) : a ≤ limited a b x ∧ limited a b x ≤ b := by
  unfold limited
  split_ifs <;> omega

theorem limitFloor_inLimits (v : Int) : floorInLimits (floorOf (limitFloor v)) := by
  have hb := limited_bounds (a := 900) (b := 5400) (by decide) v
  unfold floorOf limitFloor
  split_ifs <;> simp only [floorInLimits] <;> omega

/-- R61, R62: an entry staged through its limits lies within the route limits. -/
theorem Plan.put_inLimits (p : Plan) (hp : p.inLimits) (e : PlanEntry) (fo co fd sf : Int) :
    (p.put e
      { freshOpen := (limitOpening fo).toNat, chillOpen := (limitOpening co).toNat, fanDuty := (limitDuty e fd).toNat
        floor := floorOf (limitFloor sf) }).inLimits := by
  obtain ⟨h1, h2, h3, h4⟩ := hp
  have hfo := limited_bounds (a := 0) (b := 100) (by decide) fo
  have hco := limited_bounds (a := 0) (b := 100) (by decide) co
  have hfd := limited_bounds (a := 25) (b := 100) (by decide) fd
  have hsf := limitFloor_inLimits sf
  cases e with
  | zone z =>
    have hr : Route.zoneInLimits
        { freshOpen := (limitOpening fo).toNat, chillOpen := (limitOpening co).toNat
          fanDuty := (limitDuty (.zone z) fd).toNat, floor := floorOf (limitFloor sf) } := by
      refine ⟨?_, ?_, ?_, ?_, hsf⟩ <;> simp only [limitOpening, limitDuty] <;> omega
    cases z with
    | fresh => exact ⟨hr, h2, h3, h4⟩
    | chill => exact ⟨h1, hr, h3, h4⟩
    | freeze => exact ⟨h1, h2, hr, h4⟩
  | idle =>
    refine ⟨h1, h2, h3, ?_, ?_, ?_, hsf⟩ <;> simp only [Plan.put, limitOpening, limitDuty]
    · omega
    · omega
    · split_ifs <;> omega

theorem performPlanStage_zoneLaws (entry : Byte) (fo co fd sf : Int) :
    ZoneLawsKept s (performPlanStage entry fo co fd sf s).2 := by
  unfold performPlanStage
  split
  · exact .refl _
  · next e _ => exact ⟨fun ⟨ha, hs⟩ => ⟨ha, s.arb.staged.put_inLimits hs e fo co fd sf⟩, id, id, id⟩

theorem setProfileItem_zoneLaws (v : Int) : ZoneLawsKept s (setProfileItem v s).2 := by
  unfold setProfileItem
  split
  · exact .refl _
  · exact changeProfile_zoneLaws s _

theorem setAnswer_snd (st : Status) (contents : List Byte) : (setAnswer st contents s).2 = s := by
  unfold setAnswer
  split <;> rfl

theorem performSet_zoneLaws (id : Byte) (v : Int) : ZoneLawsKept s (performSet id v s).2 := by
  unfold performSet
  split
  · simpa [setAnswer_snd] using setProfileItem_zoneLaws s v
  · split
    · simpa [setAnswer_snd] using setItem_zoneLaws s _ v
    · exact .refl _

theorem abortBeforeHeat_zoneLaws : ZoneLawsKept s (abortBeforeHeat s) :=
  .trans (of_eq (t := s.stopC .phase) (by simp)) (leaveDefrost_zoneLaws _)

theorem doOrder_zoneLaws (o : Order) : ZoneLawsKept s (doOrder o s).2 := by
  cases o with
  | startDefrost =>
    simp only [doOrder, orderStartDefrost]
    split
    · split
      · exact .refl _
      · exact enterPending_zoneLaws s
    all_goals exact .refl _
  | abortDefrost =>
    simp only [doOrder, orderAbortDefrost]
    split
    · exact of_eq (by simp)
    · exact abortBeforeHeat_zoneLaws s
    · split
      · exact endHeat_zoneLaws s .abort
      · exact abortBeforeHeat_zoneLaws s
    · exact endHeat_zoneLaws s .abort
    all_goals exact .refl _
  | hold =>
    simp only [doOrder, orderHold]
    split
    · exact .refl _
    · exact claimService_zoneLaws s
  | release =>
    simp only [doOrder, orderRelease]
    split
    · exact .trans (of_eq (t := s.stopC .svc) (by simp)) (endService_zoneLaws _)
    · exact .refl _
  | clearFault =>
    simp only [doOrder, orderClearFault]
    split
    · exact of_eq (by simp)
    · exact .refl _
  | restart => exact of_eq (by simp [doOrder, orderRestart])
  | planCommit => exact commitPlan_zoneLaws s
  | curveCommit =>
    simp only [doOrder, orderCurveCommit]
    split
    · exact of_eq (by simp)
    · exact .refl _

theorem performOrder_zoneLaws (code : Byte) : ZoneLawsKept s (performOrder code s).2 := by
  unfold performOrder
  split
  · simpa [setAnswer_snd] using doOrder_zoneLaws s _
  · exact .refl _

theorem driveDamper_zoneLaws (d : Damper) (v : Int) : ZoneLawsKept s (driveDamper d v s) := by
  unfold driveDamper
  split
  · exact .refl _
  · split <;> exact of_eq (by simp)

theorem performServiceDrive_zoneLaws (fresh chill fan compressor heater : Int) :
    ZoneLawsKept s (performServiceDrive fresh chill fan compressor heater s).2 := by
  unfold performServiceDrive
  split
  · exact .refl _
  · have hfan : ∀ u, ZoneLawsKept u (driveFan fan u) := fun u => by
      unfold driveFan
      split
      · exact .refl _
      · exact of_eq (by simp)
    have hcomp : ∀ u, ZoneLawsKept u (driveComp compressor u) := fun u => by
      unfold driveComp
      split
      · exact .refl _
      · exact of_eq (by simp)
    have hheater : ∀ u, ZoneLawsKept u (driveHeater heater u) := fun u => of_eq (by simp [driveHeater])
    exact ((((driveDamper_zoneLaws s .fresh fresh).trans (driveDamper_zoneLaws _ .chill chill)).trans (hfan _)).trans
      (hcomp _)).trans (hheater _)

theorem perform_zoneLaws (r : Request) : ZoneLawsKept s (perform r s).2 := by
  cases r with
  | set i v => exact performSet_zoneLaws s i _
  | order c => exact performOrder_zoneLaws s c
  | planStage e a b c d => exact performPlanStage_zoneLaws s e _ _ _ _
  | serviceDrive a b c d e => exact performServiceDrive_zoneLaws s _ _ _ _ _
  | get i =>
    simp only [perform, performGet]
    repeat' split
    all_goals exact .refl _
  | zoneView z =>
    simp only [perform, performZoneView]
    split <;> exact .refl _
  | planView p =>
    simp only [perform, performPlanView]
    repeat' split
    all_goals exact .refl _
  | counterView i =>
    simp only [perform, performCounterView]
    split <;> exact .refl _
  | curveLoad i vs =>
    simp only [perform, performCurveLoad]
    split
    · exact of_eq ⟨rfl, rfl, rfl⟩
    · exact .refl _
  | clearDeltas v => exact of_eq ⟨rfl, rfl, rfl⟩
  | notifyMask m => exact of_eq ⟨rfl, rfl, rfl⟩
  | ident => exact .refl _
  | conditions => exact .refl _
  | stackView => exact .refl _

theorem performFrame_zoneLaws (f : Frame) : ZoneLawsKept s (performFrame f s).2 := by
  unfold performFrame
  split
  · exact perform_zoneLaws s _
  · exact .refl _

/-! ### The end of a step (R177, R178) -/

theorem startReply_zoneLaws : ZoneLawsKept s (startReply s) := of_eq (by simp)

theorem execute_zoneLaws (n : Nat) : ZoneLawsKept s (execute n s) := by
  induction n generalizing s with
  | zero => exact .refl _
  | succ n ih =>
    unfold execute
    split
    · exact .refl _
    · next f rest _ =>
      split
      · refine .trans ?_ (ih _)
        refine .trans ?_ (startReply_zoneLaws _)
        refine .trans ?_ (drain_zoneLaws _ 4)
        refine .trans (of_eq (t := s.onLink fun l => { l with requests := rest }) (by simp)) ?_
        exact (performFrame_zoneLaws _ f).trans (of_eq (by simp [takeFrame]))
      · exact .refl _

theorem finish_zoneLaws : ZoneLawsKept s (finish s) := by
  have hnote : ∀ u, ZoneLawsKept u (startNote u) := fun u => of_eq (by simp)
  exact (((drain_zoneLaws s 4).trans (startReply_zoneLaws _)).trans (execute_zoneLaws _ _)).trans (hnote _)

theorem submit_zoneLaws (f : Frame) : ZoneLawsKept s (submit f s) :=
  .trans (of_eq (t := offerFrame f s) (by simp)) (finish_zoneLaws _)

/-! ### Resets (R3) -/

theorem fullReset_zone (lines : DoorLines) (z : Zone) : (fullReset lines s).zone z = ZoneRec.cleared := by
  cases z <;> rfl

theorem fullReset_zoneLaws (lines : DoorLines) : ZoneLawsKept s (fullReset lines s) where
  plans _ := by simp [fullReset, PlanLaw, State.reset, defaultPlan, Plan.inLimits, Route.zoneInLimits,
    Route.idleInLimits, floorInLimits]
  debts _ z := by simp [fullReset_zone, ZoneRec.cleared]
  off _ z _ := fullReset_zone s lines z ▸ ⟨rfl, rfl, rfl, nofun⟩
  urgencies _ :=
    ⟨by simp [fullReset, State.effN, State.eff, Settings.eff, State.reset, writtenAt, Item.default, Item.defaultA],
      fun z => by simp [fullReset_zone, ZoneRec.cleared]⟩

theorem Settings.afterWarm_eff_of_ne (t : Settings) (i : Item) (hi : ∀ z, i ≠ .mode z) : t.afterWarm.eff i = t.eff i := by
  simp [Settings.afterWarm, Settings.eff_write_of_ne _ _ (hi _)]

theorem warmReset_keeps (lines : DoorLines) :
    (warmReset lines s).settings = s.settings.afterWarm ∧ (warmReset lines s).zones = State.reset.zones ∧
      (warmReset lines s).arb = s.arb.afterWarm := by
  simp [warmReset, giveIdleEntry]

theorem warmReset_zoneLaws (lines : DoorLines) : ZoneLawsKept s (warmReset lines s) := by
  obtain ⟨hs, hz, ha⟩ := warmReset_keeps s lines
  have hrec : ∀ z, (warmReset lines s).zone z = ZoneRec.cleared := fun z => by cases z <;> simp [State.zone, hz] <;> rfl
  refine ⟨fun h => by simpa [PlanLaw, ha, Arbiter.afterWarm] using h, fun _ z => by simp [hrec, ZoneRec.cleared], fun _ z _ => ?_, fun h => ?_⟩
  · simp [hrec, ZoneRec.cleared, ha, Arbiter.afterWarm, State.reset, Holder.slotZone?]
  · refine ⟨?_, fun z => by simp [hrec, ZoneRec.cleared]⟩
    simpa [State.effN, State.eff, hs, Settings.afterWarm_eff_of_ne] using h.1

/-! ### Events -/

theorem roundCloses_zoneLaws (sets : List SampleSet) : ZoneLawsKept s (roundCloses sets s) := by
  unfold roundCloses
  split
  · exact (onCounter_zoneLaws s _ _).trans (onRound_zoneLaws _ sets)
  · exact .refl _

theorem rampExpires_zoneLaws : ZoneLawsKept s (rampExpires s) := by
  unfold rampExpires
  split
  · exact of_eq (by simp)
  · exact .refl _

theorem phaseExpires_zoneLaws (p : DefrostPhase) : ZoneLawsKept s (phaseExpires p onPhaseExpiry s) := by
  unfold phaseExpires
  split
  · exact fireOneShot_zoneLaws s _ _ onPhaseExpiry_zoneLaws
  · exact .refl _

theorem gapIncrements_zoneLaws : ZoneLawsKept s (gapIncrements s) := by
  unfold gapIncrements
  split
  · exact (onCounter_zoneLaws s _ _).trans (dueCheck_zoneLaws _)
  · exact .refl _

theorem runsecCarries_zoneLaws : ZoneLawsKept s (runsecCarries s) := by
  unfold runsecCarries
  split
  · exact (onCounter_zoneLaws s _ _).trans (growFrost_zoneLaws _ _)
  · exact .refl _

theorem doorIncrements_zoneLaws (d : Door) : ZoneLawsKept s (doorIncrements d s) := by
  unfold doorIncrements
  dsimp only
  split
  · exact of_eq (by simp)
  · exact .refl _

theorem tachOverflows_zoneLaws : ZoneLawsKept s (tachOverflows s) := by
  unfold tachOverflows
  split
  · exact of_eq (by simp)
  · exact .refl _

theorem fanTimeExpires_zoneLaws (during : FanState → Bool) (effect : State → State)
    (he : ∀ u, ZoneLawsKept u (effect u)) : ZoneLawsKept s (fanTimeExpires during effect s) := by
  unfold fanTimeExpires
  split
  · exact fireOneShot_zoneLaws s _ _ he
  · exact .refl _

theorem damperArrives_zoneLaws (d : Damper) : ZoneLawsKept s (damperArrives d s) := by
  unfold damperArrives
  split
  · exact .trans (of_eq (t := s.onDamper d DamperRec.complete) (by simp)) (onCompletion_zoneLaws _)
  · exact .refl _

theorem homingEnds_zoneLaws (d : Damper) : ZoneLawsKept s (homingEnds d s) := by
  have hend : ZoneLawsKept s (s.onDamper d DamperRec.endHoming) := of_eq (by simp)
  unfold homingEnds
  dsimp only
  split
  · split
    · exact hend.trans (onCompletion_zoneLaws _)
    · exact hend
  · exact .refl _

theorem doorOpens_zoneLaws (d : Door) : ZoneLawsKept s (doorOpens d s) := by
  unfold doorOpens
  split
  · exact .refl _
  · exact onOpening_zoneLaws s d

theorem doorCloses_zoneLaws (d : Door) : ZoneLawsKept s (doorCloses d s) := by
  unfold doorCloses
  split
  · exact onClose_zoneLaws s d
  · exact .refl _

theorem frameEnds_zoneLaws : ZoneLawsKept s (frameEnds s) := by
  unfold frameEnds
  split
  · exact finish_zoneLaws s
  · split
    · exact warmReset_zoneLaws s _
    · exact .trans (of_eq (t := s.onLink fun l => { l with tx := none }) (by simp)) (finish_zoneLaws _)

/-! ### The clock -/

theorem counterTick_zoneLaws (i : CounterId) : ZoneLawsKept s (counterTick i s) := by
  have hcount : ∀ f, ZoneLawsKept s (s.onCounter i f) := onCounter_zoneLaws s i
  have hshot : ZoneLawsKept s (oneShotTick i s) := by
    unfold oneShotTick
    split
    · exact fireOneShot_zoneLaws s i _ fun u => onExpiry_zoneLaws u i
    · exact hcount _
  cases i with
  | scan =>
    simp only [counterTick]
    split
    · exact roundCloses_zoneLaws s _
    · exact hcount _
  | ramp =>
    simp only [counterTick]
    split
    · exact rampExpires_zoneLaws s
    · exact hcount _
  | wait z => exact hcount _
  | gap =>
    simp only [counterTick]
    split
    · exact gapIncrements_zoneLaws s
    · exact hcount _
  | runsec =>
    simp only [counterTick]
    split
    · exact runsecCarries_zoneLaws s
    · exact hcount _
  | door d =>
    simp only [counterTick]
    split
    · exact doorIncrements_zoneLaws s d
    · exact hcount _
  | tach =>
    simp only [counterTick]
    split
    · exact tachOverflows_zoneLaws s
    · exact hcount _
  | _ => exact hshot

theorem damperTick_zoneLaws (d : Damper) : ZoneLawsKept s (damperTick d s) := by
  have hrec : ∀ f, ZoneLawsKept s (s.onDamper d f) := fun f => of_eq (by simp)
  unfold damperTick
  dsimp only
  split
  · split
    · exact (hrec _).trans (damperArrives_zoneLaws _ d)
    · exact hrec _
  · split
    · exact (hrec _).trans (homingEnds_zoneLaws _ d)
    · exact hrec _
  all_goals exact .refl _

theorem timerFires_zoneLaws (t : Timer) : ZoneLawsKept s (timerFires t s) := by
  cases t with
  | counter i => exact counterTick_zoneLaws s i
  | damper d => exact damperTick_zoneLaws s d
  | door d =>
    simp only [timerFires]
    split
    · exact doorOpens_zoneLaws s d
    · exact doorCloses_zoneLaws s d
  | rxGap => exact of_eq (by simp [timerFires])
  | txEnd => exact frameEnds_zoneLaws s

theorem fireAll_zoneLaws (timers : List Timer) : ZoneLawsKept s (fireAll timers s) := by
  induction timers generalizing s with
  | nil => exact .refl _
  | cons t rest ih =>
    simp only [fireAll]
    refine .trans ?_ (ih _)
    split
    · exact (timerFires_zoneLaws s t).trans (finish_zoneLaws _)
    · exact .refl _

theorem tick_zoneLaws : ZoneLawsKept s (tick s) := by
  have hheld : ZoneLawsKept s (takeHeldTick s) := by
    unfold takeHeldTick
    split
    · exact (timerFires_zoneLaws s _).trans (finish_zoneLaws _)
    · exact .refl _
  have hset : ∀ u, ZoneLawsKept u (takeConversion (advance u)) := fun u => by
    unfold takeConversion
    split <;> exact of_eq ⟨rfl, rfl, rfl⟩
  have hcount : ∀ due u, ZoneLawsKept u (countChoice due u) := fun due u => by
    unfold countChoice
    split <;> exact of_eq ⟨rfl, rfl, rfl⟩
  exact (((hheld.trans (hset _)).trans (hcount _ _)).trans (fireAll_zoneLaws _ _)).trans (finish_zoneLaws _)

/-! ### The step -/

/-- A command that ends as every event and request does. -/
theorem next_finish_zoneLaws {u t : State} (hu : ZoneLawsKept s u)
    (h : (.next (finish u) : Result) = .next t) : ZoneLawsKept s t := by
  cases h
  exact hu.trans (finish_zoneLaws u)

theorem exec_zoneLaws (c : Instr) (t : State) (h : exec c s = .next t) : ZoneLawsKept s t := by
  have hrequest : ∀ f, (.next (submit f s) : Result) = .next t → ZoneLawsKept s t := fun f h => by
    cases h
    exact submit_zoneLaws s f
  cases c with
  | fullReset lines => cases h; exact fullReset_zoneLaws s lines
  | warmRestart lines => cases h; exact warmReset_zoneLaws s lines
  | requestFrameReceived bytes => exact next_finish_zoneLaws s (of_eq (by simp [receiveBytes_keeps])) h
  | byteReceived b => exact next_finish_zoneLaws s (of_eq (by simp)) h
  | rxTimeout => exact next_finish_zoneLaws s (of_eq (by simp)) h
  | frameSent => cases h; exact frameEnds_zoneLaws s
  | roundCompletion sets => exact next_finish_zoneLaws s (roundCloses_zoneLaws s sets) h
  | boostExpiry z => exact next_finish_zoneLaws s (fireOneShot_zoneLaws s _ _ fun u => onBoostExpiry_zoneLaws u z) h
  | slotExpiry => exact next_finish_zoneLaws s (fireOneShot_zoneLaws s _ _ onSlotExpiry_zoneLaws) h
  | svcExpiry => exact next_finish_zoneLaws s (fireOneShot_zoneLaws s _ _ onSvcExpiry_zoneLaws) h
  | almExpiry z => exact next_finish_zoneLaws s (fireOneShot_zoneLaws s _ _ fun u => of_eq (by simp)) h
  | damperMoveComplete d => exact next_finish_zoneLaws s (damperArrives_zoneLaws s d) h
  | homingEnd d => exact next_finish_zoneLaws s (homingEnds_zoneLaws s d) h
  | kickEnd => exact next_finish_zoneLaws s (fanTimeExpires_zoneLaws s _ _ fun u => of_eq (by simp)) h
  | fanRetry => exact next_finish_zoneLaws s (fanTimeExpires_zoneLaws s _ _ fun u => of_eq (by simp)) h
  | provingWindowEnd => exact next_finish_zoneLaws s (fanTimeExpires_zoneLaws s _ _ fun u => of_eq (by simp)) h
  | tachEdge => exact next_finish_zoneLaws s (of_eq (by simp)) h
  | tachOverflow => exact next_finish_zoneLaws s (tachOverflows_zoneLaws s) h
  | rampExpiry => exact next_finish_zoneLaws s (rampExpires_zoneLaws s) h
  | guardExpiry => exact next_finish_zoneLaws s (fireOneShot_zoneLaws s _ _ fun u => of_eq (by simp)) h
  | condrunExpiry => exact next_finish_zoneLaws s (fireOneShot_zoneLaws s _ _ fun u => of_eq (by simp)) h
  | runsecCarry => exact next_finish_zoneLaws s (runsecCarries_zoneLaws s) h
  | gapIncrement => exact next_finish_zoneLaws s (gapIncrements_zoneLaws s) h
  | prechillExpiry => exact next_finish_zoneLaws s (phaseExpires_zoneLaws s _) h
  | heatTimeout => exact next_finish_zoneLaws s (phaseExpires_zoneLaws s _) h
  | dripExpiry => exact next_finish_zoneLaws s (phaseExpires_zoneLaws s _) h
  | recoverExpiry => exact next_finish_zoneLaws s (phaseExpires_zoneLaws s _) h
  | doorOpening d => exact next_finish_zoneLaws s (doorOpens_zoneLaws s d) h
  | doorClose d => exact next_finish_zoneLaws s (doorCloses_zoneLaws s d) h
  | doorWidthIncrement d => exact next_finish_zoneLaws s (doorIncrements_zoneLaws s d) h
  | settleExpiry => exact next_finish_zoneLaws s (fireOneShot_zoneLaws s _ _ onSettleExpiry_zoneLaws) h
  | pauseExpiry => exact next_finish_zoneLaws s (fireOneShot_zoneLaws s _ _ onPauseExpiry_zoneLaws) h
  | _ => exact hrequest _ h

theorem step_zoneLaws (t : State) (h : step s = .next t) : ZoneLawsKept s t := by
  unfold step at h
  split at h
  · cases h
    exact tick_zoneLaws s
  · next c rest _ =>
    exact .trans (of_eq (t := { s with pending := rest }) ⟨rfl, rfl, rfl⟩) (exec_zoneLaws _ c t h)

/-- R186: U_LOST's range. -/
theorem SettingsLaw.uLost_le {s : State} (h : SettingsLaw s) : s.effN .uLost ≤ 65535 := by
  have hr : s.eff .uLost ≤ 16384 := (h.1 .uLost).2
  simp only [State.effN]
  omega

/-- Settles O57: each law is one of those that every operation, and so every step, keeps. -/
theorem everyStepKeepsPlansAndDebts : Obligations.EveryStepKeepsPlansAndDebts :=
  ⟨fun s t hs h => (step_zoneLaws s t h).plans hs, fun s t hs h => (step_zoneLaws s t h).debts hs,
    fun s t hs h => (step_zoneLaws s t h).off hs,
    fun s t hset hs h => ((step_zoneLaws s t h).urgencies ⟨hset.uLost_le, hs⟩).2⟩

end Sys2Proof.Machine

/-! The counters under the shared operations: what each counter operation leaves of its own counter, and which counters
an operation of the fan, the compressor and the zone alarms touches. -/

namespace Sys2Proof.Machine

section

variable (s : State) (i j : CounterId)

/-! ### Another counter than the one operated on -/

@[simp] theorem State.counter_onCounter_self (f : Counter → Counter) : (s.onCounter i f).counter i = f (s.counter i) := by
  simp [State.counter]

@[simp] theorem State.counter_onCounter_of_ne (f : Counter → Counter) (h : j ≠ i) :
    (s.onCounter i f).counter j = s.counter j := by
  simp [State.counter, Bank.get_set_of_ne _ _ _ _ h]

@[simp] theorem State.counter_stopC_of_ne (h : j ≠ i) : (s.stopC i).counter j = s.counter j :=
  s.counter_onCounter_of_ne i j _ h

@[simp] theorem State.counter_clearC_of_ne (h : j ≠ i) : (s.clearC i).counter j = s.counter j :=
  s.counter_onCounter_of_ne i j _ h

@[simp] theorem State.counter_writeC_of_ne (n : Nat) (h : j ≠ i) : (s.writeC i n).counter j = s.counter j :=
  s.counter_onCounter_of_ne i j _ h

/-- R153: a start changes the counter it starts. -/
theorem State.startC_bank : (s.startC i).bank = (s.onCounter i (Counter.start i.mode)).bank := by
  unfold State.startC
  dsimp only
  split <;> rfl

@[simp] theorem State.counter_startC_of_ne (h : j ≠ i) : (s.startC i).counter j = s.counter j := by
  rw [State.counter, State.startC_bank]
  exact s.counter_onCounter_of_ne i j _ h

@[simp] theorem State.counter_restartC_of_ne (n : Nat) (h : j ≠ i) : (s.restartC i n).counter j = s.counter j := by
  simp [State.restartC, h]

/-! ### The counter operated on -/

@[simp] theorem State.counter_stopC_self : (s.stopC i).counter i = (s.counter i).stop := s.counter_onCounter_self i _

@[simp] theorem State.counter_writeC_self (n : Nat) : (s.writeC i n).counter i = (s.counter i).write n :=
  s.counter_onCounter_self i _

@[simp] theorem State.counter_startC_self : (s.startC i).counter i = (s.counter i).start i.mode := by
  rw [State.counter, State.startC_bank]
  exact s.counter_onCounter_self i _

/-- R153: a restart with a length other than 0. -/
theorem State.counter_restartC_self (n : Nat) (hn : n ≠ 0) (hm : i.mode = .oneShot ∨ i.mode = .interval) :
    (s.restartC i n).counter i = (s.counter i).timing n := by
  rw [State.restartC_eq s i n hn hm, State.counter_setCounter_self]

/-- R155: only a one-shot started at count 0 signals its expiry. -/
theorem State.startC_own (h : i.mode ≠ .oneShot ∨ (s.counter i).count ≠ 0 ∨ (s.counter i).run = true) :
    (s.startC i).own = s.own := by
  unfold State.startC
  rcases h with h | h | h <;> simp [h]

/-- R155: a restart with a length other than 0 signals no expiry. -/
theorem State.restartC_own (n : Nat) (hn : n ≠ 0) : (s.restartC i n).own = s.own := by
  have hc : (((s.stopC i).writeC i n).counter i).count ≠ 0 := by simpa [Counter.write] using hn
  rw [State.restartC, State.startC_own _ _ (.inr (.inl hc))]
  simp

end

section

variable (s : State) (j : CounterId)

/-! ### The fan's two counters -/

@[simp] theorem giveOpenings_counter (fresh chill : Nat) : (giveOpenings fresh chill s).counter j = s.counter j := by
  simp [State.counter]

/-- R89, R93: a requested duty touches TACH and FANTIME alone. -/
@[simp] theorem requestFan_counter (duty : Nat) (ht : j ≠ .tach) (hf : j ≠ .fantime) :
    (requestFan duty s).counter j = s.counter j := by
  have hfan : ∀ f u, (State.onFan f u).counter j = u.counter j := fun _ _ => rfl
  unfold requestFan kickFan stopFan
  dsimp only
  repeat' split
  all_goals simp [hfan, ht, hf]

/-- R89, R155: no expiry is signalled by a requested duty. -/
@[simp] theorem requestFan_own (duty : Nat) : (requestFan duty s).own = s.own := by
  unfold requestFan kickFan stopFan
  dsimp only
  repeat' split
  all_goals simp [State.startC_own, CounterId.mode, State.restartC_own]

/-! ### The compressor's three counters -/

theorem onComp_counter (f : Compressor → Compressor) : (s.onComp f).counter j = s.counter j := rfl

@[simp] theorem setCompState_counter (st : CompState) : (setCompState st s).counter j = s.counter j := by
  simp [State.counter]

/-- R101, R103, R105: a demand touches GUARD, RAMP and CONDRUN alone. -/
@[simp] theorem giveDemand_counter (d : Demand) (hg : j ≠ .guard) (hr : j ≠ .ramp) (hc : j ≠ .condrun) :
    (giveDemand d s).counter j = s.counter j := by
  unfold giveDemand resolveDemand decideStop startComp stopComp beginPostRun
  dsimp only
  repeat' split
  all_goals simp [onComp_counter, hg, hr, hc]

/-! ### The zone alarms' counters -/

theorem onAlarm_counter (z : Zone) (f : AlarmRec → AlarmRec) : (s.onAlarm z f).counter j = s.counter j := rfl

@[simp] theorem warmDeassert_counter (z : Zone) (cause : AlarmCause) :
    (warmDeassert z cause s).counter j = s.counter j := by
  simp [State.counter]

@[simp] theorem coldDeassert_counter (z : Zone) (cause : AlarmCause) :
    (coldDeassert z cause s).counter j = s.counter j := by
  simp [State.counter]

/-- R167, R168: an evaluation touches the zone's ALM counter alone. -/
@[simp] theorem evalAlarm_counter (z : Zone) (cause : AlarmCause) (h : j ≠ .alm z) :
    (evalAlarm z cause s).counter j = s.counter j := by
  have hwarm : ∀ u, (warmTiming z cause u).counter j = u.counter j := fun u => by
    unfold warmTiming startAlarm stopAlarm
    dsimp only
    repeat' split
    all_goals simp [onAlarm_counter, h]
  have hcold : ∀ u, (coldTiming z cause u).counter j = u.counter j := fun u => by
    unfold coldTiming startAlarm stopAlarm
    dsimp only
    repeat' split
    all_goals simp [onAlarm_counter, h]
  simp [evalAlarm, hwarm, hcold]

end

end Sys2Proof.Machine

/-! What the two resets leave in the part (R3), and the laws of the part right after a reset. -/

namespace Sys2Proof.Machine

/-! ### Items as the resets leave them -/

/-- R186: the list of items is complete. -/
theorem Item.mem_all (i : Item) : i ∈ Item.all := List.mem_of_find?_eq_some (Item.ofId_id i)

/-- R185, R186: the profile A defaults. -/
theorem Item.default_zero (i : Item) : i.default 0 = i.defaultA :=
  (by decide : ∀ i ∈ Item.all, i.default 0 = i.defaultA) i i.mem_all

theorem Item.defaultA_inRange (i : Item) : i.range.1 ≤ i.defaultA ∧ i.defaultA ≤ i.range.2 :=
  (by decide : ∀ i ∈ Item.all, i.range.1 ≤ i.defaultA ∧ i.defaultA ≤ i.range.2) i i.mem_all

theorem State.reset_eff (i : Item) : State.reset.eff i = i.defaultA := i.default_zero

/-- R173: after a reset the RESTARTED delta stands alone. -/
theorem restarted_delta (n : Nat) : (0x04000000#32).getLsbD n = decide (n = 26) := by
  have h : (0x04000000#32) = BitVec.twoPow 32 26 := by decide
  rw [h, BitVec.getLsbD_twoPow]
  by_cases hn : n = 26
  · simp [hn]
  · simp [hn, Ne.symm hn]

/-! ### The laws right after a reset -/

theorem reset_settingsLaw : SettingsLaw State.reset :=
  ⟨fun i => State.reset_eff i ▸ i.defaultA_inRange, by decide, by decide⟩

theorem reset_planLaw : PlanLaw State.reset := by
  simp [PlanLaw, State.reset, defaultPlan, Plan.inLimits, Route.zoneInLimits, Route.idleInLimits, floorInLimits]

theorem reset_conditionBitsLaw : ConditionBitsLaw State.reset :=
  ⟨fun n _ => BitVec.getLsbD_zero, fun n hn => (restarted_delta n).trans (by simp; omega)⟩

theorem reset_zone (z : Zone) : State.reset.zone z = ZoneRec.cleared := by cases z <;> rfl

/-- Settles O54, law by law. -/
theorem resetSatisfiesTheLaws : Obligations.ResetSatisfiesTheLaws := by
  refine ⟨?attn, reset_conditionBitsLaw, ⟨rfl, nofun⟩, fun _ => ⟨rfl, rfl⟩, reset_planLaw, trivial, ?debt, ?link,
    reset_settingsLaw, ?urgency, ?off, ⟨reset_planLaw, trivial, nofun⟩, ?damper, ⟨trivial, nofun⟩, ?frost, ⟨rfl, rfl⟩,
    nofun, ?claim⟩
  case attn => exact ⟨fun _ => ⟨26, by decide, by decide, by decide⟩, fun _ => rfl⟩
  case debt => exact fun z => by simp [reset_zone, ZoneRec.cleared]
  case link => exact ⟨by decide, by decide, .inl rfl, fun _ => rfl⟩
  case urgency => exact fun z => by simp [reset_zone, ZoneRec.cleared]
  case off => exact fun z _ => reset_zone z ▸ ⟨rfl, rfl, rfl, nofun⟩
  case damper => exact fun d => by cases d <;> exact ⟨Nat.zero_le _, nofun⟩
  case frost => exact Nat.zero_le _
  case claim => exact ⟨fun _ => ⟨nofun, nofun⟩, nofun, nofun⟩

/-! ### FULL reset -/

section

variable (lines : DoorLines) (s : State)

/-- R164: the counters that a reset leaves running. -/
theorem Bank.cleared_run (minOff : Nat) (i : CounterId) :
    ((Bank.cleared minOff).get i).run = true ↔
      (i = .scan ∨ i = .ramp ∨ i = .guard ∨ i = .runsec ∨ i = .gap ∨ (∃ z, i = .wait z) ∨ ∃ d, i = .door d) := by
  cases i with
  | wait z => cases z <;> simp [Bank.get, Bank.cleared, PerZone.get, Counter.started]
  | boost z => cases z <;> simp [Bank.get, Bank.cleared, PerZone.get, Counter.cleared]
  | alm z => cases z <;> simp [Bank.get, Bank.cleared, PerZone.get, Counter.cleared]
  | door d => cases d <;> simp [Bank.get, Bank.cleared, PerDoor.get, Counter.started]
  | _ => simp [Bank.get, Bank.cleared, Counter.restarted, Counter.started, Counter.cleared]

/-- R164: what a reset leaves in every counter but its count and its running. -/
theorem Bank.cleared_rest (minOff : Nat) (i : CounterId) :
    ((Bank.cleared minOff).get i).part = 0 ∧ ((Bank.cleared minOff).get i).saturated = false ∧
      ((Bank.cleared minOff).get i).result = 0 ∧ ((Bank.cleared minOff).get i).resultOverflow = false ∧
      ((Bank.cleared minOff).get i).firstEdge = false := by
  cases i with
  | wait z => cases z <;> exact ⟨rfl, rfl, rfl, rfl, rfl⟩
  | boost z => cases z <;> exact ⟨rfl, rfl, rfl, rfl, rfl⟩
  | alm z => cases z <;> exact ⟨rfl, rfl, rfl, rfl, rfl⟩
  | door d => cases d <;> exact ⟨rfl, rfl, rfl, rfl, rfl⟩
  | _ => exact ⟨rfl, rfl, rfl, rfl, rfl⟩

/-- Settles O11: each block's part of the reset state, read off. -/
theorem fullResetOtherBlocks : Obligations.FullResetOtherBlocks := by
  intro lines s
  refine ⟨fullReset lines s, rfl, fun i => ⟨rfl, i.default_zero⟩, rfl, fullReset_zone s lines, fun z => rfl, ?dampers,
    rfl, rfl, ?doors, rfl, rfl, Bank.cleared_run 300, Bank.cleared_rest 300, rfl, restarted_delta, rfl, rfl, rfl,
    ?alarms, rfl⟩
  case dampers => exact fun d => by cases d <;> rfl
  case doors => exact fun d => by cases d <;> exact ⟨rfl, rfl, rfl, rfl, rfl⟩
  case alarms => exact fun z => by cases z <;> rfl

end

/-! ### WARM restart -/

/-- R189: after a WARM restart the three MODE items follow. -/
theorem Settings.afterWarm_follows_mode (t : Settings) (z : Zone) : t.afterWarm.follows (.mode z) = true := by
  cases z <;> simp [Settings.afterWarm, Settings.write, Settings.follows, writtenAt_dropWritten, Item.id, zoneCode]

theorem Settings.afterWarm_follows_of_ne (t : Settings) (i : Item) (hi : ∀ z, i ≠ .mode z) :
    t.afterWarm.follows i = t.follows i := by
  have hid : ∀ z, ¬ i.id = Item.id (.mode z) := fun z h => hi z (Item.id_injective h)
  simp [Settings.afterWarm, Settings.write, Settings.follows, writtenAt_dropWritten, hid]

/-- An item that follows is at its default. -/
theorem Settings.eff_of_follows (t : Settings) (i : Item) (h : t.follows i = true) : t.eff i = i.default t.profile := by
  simp_all [Settings.follows, Settings.eff]

/-- R84: a homing damper that is given an opening stores it. -/
theorem DamperRec.give_cleared (v : Nat) : DamperRec.cleared.give v = { DamperRec.cleared with target := v } := by
  unfold DamperRec.give
  split
  · next h => rw [h]
  · rfl

/-- R98: the fan after a reset, asked for the IDLE entry's duty. -/
theorem requestFan_of_stopped (duty : Nat) (s : State) (h : s.air.fan = Fan.cleared) :
    (requestFan duty s).air.fan =
      { Fan.cleared with
        state := if duty = 0 then .stopped else .kick, requested := duty, drive := if duty = 0 then 0 else 255 } := by
  by_cases hd : duty = 0 <;> simp [requestFan, kickFan, h, hd, Fan.cleared]

/-- R78, R98: what the IDLE entry leaves alone at a reset. -/
theorem giveIdleEntry_keeps (s : State) :
    (giveIdleEntry s).pending = s.pending ∧ (giveIdleEntry s).settings = s.settings ∧
      (giveIdleEntry s).zones = s.zones ∧ (giveIdleEntry s).scanner = s.scanner ∧ (giveIdleEntry s).arb = s.arb ∧
      (giveIdleEntry s).comp = s.comp ∧ (giveIdleEntry s).defr = s.defr ∧ (giveIdleEntry s).doors = s.doors ∧
      (giveIdleEntry s).cond = s.cond ∧ (giveIdleEntry s).link = s.link := by
  simp [giveIdleEntry]

theorem giveIdleEntry_counter (s : State) (j : CounterId) (ht : j ≠ .tach) (hf : j ≠ .fantime) :
    (giveIdleEntry s).counter j = s.counter j := by
  simp [giveIdleEntry, ht, hf]

@[simp] theorem giveOpenings_fan (fresh chill : Nat) (s : State) : (giveOpenings fresh chill s).air.fan = s.air.fan := by
  simp [giveOpenings, giveTarget]

/-- R81: each damper takes the opening of its own. -/
theorem giveOpenings_damper (fresh chill : Nat) (s : State) (d : Damper) :
    (giveOpenings fresh chill s).damper d =
      (s.damper d).give (stepsOf (match d with
        | .fresh => fresh
        | .chill => chill)) := by
  cases d <;> rfl

/-- R98: the air path after the IDLE entry of a reset. -/
theorem giveIdleEntry_air (s : State) (h : s.air = State.reset.air) :
    (∀ d, (giveIdleEntry s).damper d =
        { DamperRec.cleared with
          target := stepsOf (match d with
            | .fresh => s.arb.active.idle.freshOpen
            | .chill => s.arb.active.idle.chillOpen) }) ∧
      (giveIdleEntry s).air.fan =
        { Fan.cleared with
          state := if s.arb.active.idle.fanDuty = 0 then .stopped else .kick, requested := s.arb.active.idle.fanDuty
          drive := if s.arb.active.idle.fanDuty = 0 then 0 else 255 } := by
  constructor
  · intro d
    have hd : s.damper d = DamperRec.cleared := by cases d <;> simp [State.damper, h] <;> rfl
    rw [← DamperRec.give_cleared, ← hd, ← giveOpenings_damper]
    simp [giveIdleEntry, State.damper]
  · exact requestFan_of_stopped _ _ (by simp [h]; rfl)

/-- The part as a WARM restart puts it back, before the Arbiter gives its IDLE entry (R79, R98). -/
def warmRestored (lines : DoorLines) (s : State) : State :=
  { pending := s.pending
    settings := s.settings.afterWarm
    zones := State.reset.zones
    scanner := s.scanner.afterWarm fun c => (s.settings.afterWarm.eff (.filterShift c)).toNat
    arb := s.arb.afterWarm
    air := State.reset.air
    comp := s.comp.afterWarm (s.settings.afterWarm.eff .ambRef)
    defr := s.defr.afterWarm (s.settings.afterWarm.eff .ambRef) (decide (s.comp.state = .lockout))
    doors := s.doors.afterWarm lines
    bank := s.bank.afterWarm (s.settings.afterWarm.eff .minOff).toNat
    cond := .cleared (levelsAfterWarm (decide (s.comp.state = .lockout)))
    link := .cleared
    own := s.own.afterReset }

/-- R173: the levels a WARM restart comes up with. -/
theorem levelsAfterWarm_bits (lockout : Bool) :
    (levelsAfterWarm lockout).getLsbD 12 = lockout ∧ (levelsAfterWarm lockout).getLsbD 13 = lockout := by
  cases lockout <;> decide

/-- Settles O12: what the restart puts back is read off `warmRestored`, and the IDLE entry it then gives touches only
the dampers, the fan and the fan's two counters. -/
theorem warmRestartKeepsAndClears : Obligations.WarmRestartKeepsAndClears := by
  intro lines s
  have heff : ∀ i, (∀ z, i ≠ .mode z) → s.settings.afterWarm.eff i = s.eff i := fun i hi =>
    Settings.afterWarm_eff_of_ne _ i hi
  have heffN : ∀ i, (∀ z, i ≠ .mode z) → (s.settings.afterWarm.eff i).toNat = s.effN i := fun i hi => by
    rw [heff i hi]; rfl
  obtain ⟨hpend, hset, hzones, hscan, harb, hcomp, hdefr, hdoors, hcond, hlink⟩ :=
    giveIdleEntry_keeps (warmRestored lines s)
  obtain ⟨hdampers, hfan⟩ := giveIdleEntry_air (warmRestored lines s) rfl
  have hguard := giveIdleEntry_counter (warmRestored lines s) .guard nofun nofun
  have hgap := giveIdleEntry_counter (warmRestored lines s) .gap nofun nofun
  obtain ⟨hfault, hlockout⟩ := levelsAfterWarm_bits (decide (s.comp.state = .lockout))
  refine ⟨giveIdleEntry (warmRestored lines s), rfl, hpend, by rw [hset]; rfl, fun i hi => ⟨?eff, ?follows⟩,
    fun z => ⟨?mode, ?normal⟩, fun z => ?zone, fun c => ?channel, by rw [hscan]; rfl, by rw [hscan]; rfl,
    by rw [hscan]; rfl, by rw [hscan]; rfl, by rw [hscan]; rfl, harb, hdampers .fresh, hdampers .chill, hfan, ?comp,
    by rw [hguard]; rfl, ?guard, ?defr, fun d => ?door, by rw [hdoors]; rfl, by rw [hdoors]; rfl, hgap, ?fault, ?lockout,
    fun n => by rw [hcond]; exact restarted_delta n, by rw [hcond]; rfl, by rw [hcond]; rfl, by rw [hcond]; rfl, hlink⟩
  case eff => exact (congrArg (Settings.eff · i) hset).trans (heff i hi)
  case follows => exact (congrArg (Settings.follows · i) hset).trans (Settings.afterWarm_follows_of_ne _ i hi)
  case mode => exact (congrArg (Settings.follows · _) hset).trans (Settings.afterWarm_follows_mode _ z)
  case normal =>
    have hdef : s.settings.afterWarm.eff (.mode z) = 0 := by
      rw [Settings.eff_of_follows _ _ (Settings.afterWarm_follows_mode _ z)]
      exact Item.default_of_not_profiled (by simp [Item.profiled]) _
    rw [State.mode, State.eff, hset]
    exact congrArg Mode.ofCode hdef
  case zone => rw [State.zone, hzones]; exact reset_zone z
  case channel =>
    rw [State.channel, hscan, ← heffN _ (by simp)]
    cases c <;> rfl
  case comp =>
    rw [hcomp, ← heff .ambRef (by simp)]
    rfl
  case guard => rw [hguard, ← heffN .minOff (by simp)]; rfl
  case defr =>
    rw [hdefr, ← heff .ambRef (by simp)]
    by_cases hl : s.comp.state = .lockout <;> simp [warmRestored, Defrost.afterWarm, Defrost.cleared, hl]
  case door =>
    rw [State.door, hdoors]
    cases d <;> exact ⟨rfl, rfl, rfl, rfl, rfl⟩
  case fault => rw [State.level, hcond]; exact hfault
  case lockout => rw [State.level, hcond]; exact hlockout

end Sys2Proof.Machine

/-! A SET of a writable item as the link carries it (R177, R181, R183): what it stores, what it answers, and the state it
leaves before its reply. -/

namespace Sys2Proof.Machine

/-! ### Ranges (R183, R186) -/

theorem limited_eq (a b x : Int) (h : a ≤ b) : limited a b x = max a (min b x) := by
  unfold limited
  split_ifs <;> omega

theorem limitedN_eq (a b x : Nat) (h : a ≤ b) : limitedN a b x = max a (min b x) := by
  unfold limitedN
  split_ifs <;> omega

theorem Item.range_le (i : Item) : i.range.1 ≤ i.range.2 := le_trans i.defaultA_inRange.1 i.defaultA_inRange.2

/-- R185: every profile's defaults lie in the ranges. -/
theorem Item.default_inRange (i : Item) (p : Nat) : i.range.1 ≤ i.default p ∧ i.default p ≤ i.range.2 := by
  unfold Item.default
  split <;> first | decide | exact Item.defaultA_inRange _

/-- R185: N_MIN and N_MAX default to multiples of 30 in every profile. -/
theorem Item.default_steps30 (p : Nat) : Item.nMin.default p % 30 = 0 ∧ Item.nMax.default p % 30 = 0 := by
  constructor <;> unfold Item.default <;> split <;> simp_all [Item.defaultA]

/-- R183: what a SET stores lies in the item's range. -/
theorem Item.settled_inRange (i : Item) (v w : Int) (h : i.settled v = some w) : i.range.1 ≤ w ∧ w ≤ i.range.2 := by
  have hle := i.range_le
  unfold Item.settled at h
  split_ifs at h with hv hn
  · rcases hn with rfl | rfl <;> simp only [Item.range, Option.some.injEq] at h ⊢ <;> omega
  · cases h
    omega

section

variable {s t : State}

theorem SettingsLaw.congr (h : SettingsLaw s) (hs : t.settings = s.settings) : SettingsLaw t := by
  simpa [SettingsLaw, State.eff, hs] using h

/-- R186: a length whose range excludes 0 is not 0. -/
theorem SettingsLaw.effN_ne_zero (h : SettingsLaw s) (i : Item) (hi : 1 ≤ i.range.1) : s.effN i ≠ 0 := by
  have := (h.1 i).1
  simp only [State.effN]
  omega

theorem stored_eff (i j : Item) (v : Int) :
    (s.stored i v).eff j = if j = i then (i.settled v).getD (i.default s.settings.profile) else s.eff j :=
  Settings.eff_write _ _ _ _

/-- R183: an accepted SET leaves every setting in its range. -/
theorem SettingsLaw.stored (h : SettingsLaw s) (i : Item) (v : Int) : SettingsLaw (s.stored i v) := by
  obtain ⟨hrange, hmin, hmax⟩ := h
  have hsteps : ∀ j, (j = .nMin ∨ j = .nMax) → s.eff j % 30 = 0 → (s.stored i v).eff j % 30 = 0 := by
    intro j hj hold
    rw [stored_eff]
    split
    · next hji =>
      subst hji
      cases hw : j.settled v with
      | none => rcases hj with rfl | rfl <;> simp [Item.default_steps30]
      | some w =>
        unfold Item.settled at hw
        rw [if_pos hj] at hw
        split_ifs at hw
        cases hw
        simp
    · exact hold
  refine ⟨fun j => ?_, hsteps _ (.inl rfl) hmin, hsteps _ (.inr rfl) hmax⟩
  rw [stored_eff]
  split
  · next hji =>
    subst hji
    cases hw : j.settled v with
    | none => exact j.default_inRange _
    | some w => exact j.settled_inRange v w hw
  · exact hrange j

end

/-! ### What a SET stores (R183, R184) -/

section

variable (s : State)

/-- R184: with the settings in their ranges N_MIN stays below N_MAX, so no SET of either is refused; a MODE is stored if
its zone has it, and a LOSS_POLICY if its code has a meaning. -/
theorem settleValue_eq (i : Item) (v : Int) (hs : SettingsLaw s)
    (hmode : ∀ z, i = .mode z → v = -32768 ∨ (0 ≤ v ∧ v ≤ 3 ∧ (v = 3 → z = .chill) ∧ (v = 2 → z = .fresh)))
    (hloss : ∀ z, i = .lossPolicy z → v = -32768 ∨ (0 ≤ v ∧ v ≤ 2)) : settleValue s i v = some (i.settled v) := by
  have hlim := limited_eq i.range.1 i.range.2 v i.range_le
  have hdef := i.default_inRange s.settings.profile
  cases i with
  | mode z =>
    have hv : settleValue s (.mode z) v =
        if v = -32768 then some none
        else if v < 0 ∨ 3 < v then none
        else if (v = 3 ∧ z ≠ .chill) ∨ (v = 2 ∧ z ≠ .fresh) then none else some (some v) := rfl
    rcases hmode z rfl with h | ⟨h0, h3, hchill, hfresh⟩
    · rw [hv, if_pos h, Item.settled, if_pos h]
    · have hne : v ≠ -32768 := by omega
      have hin : ¬ (v < 0 ∨ 3 < v) := by omega
      have hz : ¬ ((v = 3 ∧ z ≠ .chill) ∨ (v = 2 ∧ z ≠ .fresh)) := by
        rintro (⟨h, hz⟩ | ⟨h, hz⟩)
        · exact hz (hchill h)
        · exact hz (hfresh h)
      rw [hv, if_neg hne, if_neg hin, if_neg hz]
      simp only [Item.settled, Item.range, hne, if_false, reduceCtorEq, or_self]
      congr 2
      omega
  | lossPolicy z =>
    have hv : settleValue s (.lossPolicy z) v =
        if v = -32768 then some none else if v < 0 ∨ 2 < v then none else some (some v) := rfl
    rcases hloss z rfl with h | ⟨h0, h2⟩
    · rw [hv, if_pos h, Item.settled, if_pos h]
    · have hne : v ≠ -32768 := by omega
      have hin : ¬ (v < 0 ∨ 2 < v) := by omega
      rw [hv, if_neg hne, if_neg hin]
      simp only [Item.settled, Item.range, hne, if_false, reduceCtorEq, or_self]
      congr 2
      omega
  | nMin =>
    have hv : settleValue s .nMin v =
        if s.eff .nMax ≤ (if v = -32768 then none else some (limited 900 2400 v / 30 * 30)).getD
            (Item.nMin.default s.settings.profile) then none
        else some (if v = -32768 then none else some (limited 900 2400 v / 30 * 30)) := rfl
    have hmax := (hs.1 .nMax).1
    simp only [Item.range] at hlim hdef hmax
    rw [hv, hlim, if_neg]
    · simp [Item.settled, Item.range]
    · split_ifs <;> simp <;> omega
  | nMax =>
    have hv : settleValue s .nMax v =
        if (if v = -32768 then none else some (limited 3000 5400 v / 30 * 30)).getD
            (Item.nMax.default s.settings.profile) ≤ s.eff .nMin then none
        else some (if v = -32768 then none else some (limited 3000 5400 v / 30 * 30)) := rfl
    have hmin := (hs.1 .nMin).2
    simp only [Item.range] at hlim hdef hmin
    rw [hv, hlim, if_neg]
    · simp [Item.settled, Item.range]
    · split_ifs <;> simp <;> omega
  | _ =>
    simp only [Item.settled, reduceCtorEq, or_self, if_false, ← hlim]
    rfl

/-- R182: a changed value goes to its owner, in a state that has it stored. -/
theorem storeItem_settings (i : Item) (v : Option Int) : (storeItem i v s).settings = s.settings.write i v := by
  unfold storeItem
  dsimp only
  split <;> simp

theorem setItem_eq (i : Item) (v : Int) (h : settleValue s i v = some (i.settled v)) :
    setItem i v s =
      (if v = -32768 ∨ i.settled v = some v then .ok else .clamped, storeItem i (i.settled v) (repeatBoost i v s)) := by
  unfold setItem
  rw [h]
  by_cases hv : v = -32768
  · have hrep : repeatBoost i (-32768) s = s := by
      unfold repeatBoost
      split <;> rfl
    simp [Item.settled, hrep, hv]
  · obtain ⟨w, hw⟩ : ∃ w, i.settled v = some w := by
      unfold Item.settled
      split_ifs <;> exact ⟨_, rfl⟩
    simp [hw, hv]

end

/-! ### The request (R177, R181) -/

section

variable (s : State)

theorem byteOf_id_toNat (i : Item) : (byteOf i.id).toNat = i.id :=
  (by decide : ∀ i ∈ Item.all, (byteOf i.id).toNat = i.id) i i.mem_all

theorem byteOf_id_ne_profile (i : Item) : byteOf i.id ≠ profileId :=
  (by decide : ∀ i ∈ Item.all, byteOf i.id ≠ profileId) i i.mem_all

/-- R181: a SET frame is read back as the SET it carries. -/
theorem checkFrame_set (tag id : Byte) (value : Half) :
    checkFrame (Request.frame tag (.set id value)) = .request (.set id value) := by
  simp [checkFrame, Request.frame, Request.kind, Request.body, halfBytes, isRequestKind, readRequest]

/-- R183: an accepted SET of a writable item. -/
theorem performSet_eq (i : Item) (v : Int) (h : settleValue s i v = some (i.settled v)) :
    performSet (byteOf i.id) v s = (setReply i v s, storeItem i (i.settled v) (repeatBoost i v s)) := by
  have hset : (storeItem i (i.settled v) (repeatBoost i v s)).settings = (s.stored i v).settings := by
    rw [storeItem_settings]
    simp [State.stored]
  unfold performSet
  rw [if_neg (byteOf_id_ne_profile i), byteOf_id_toNat, Item.ofId_id]
  simp only [setItem_eq s i v h, setAnswer]
  rw [if_pos (by split <;> rfl)]
  simp only [setReply, itemNow, itemContents, State.eff, hset, flagByte]

/-- R183: an accepted SET leaves its store before the reply, where no expiry is signalled. -/
theorem setLeaves_store (tag : Byte) (i : Item) (value : Half) (ha : Accepting s)
    (h : settleValue s i value.toInt = some (i.settled value.toInt))
    (hq : (storeItem i (i.settled value.toInt) (repeatBoost i value.toInt s)).own.signalled = []) :
    SetLeaves tag i value s (storeItem i (i.settled value.toInt) (repeatBoost i value.toInt s)) := by
  have hperform : performFrame (Request.frame tag (.set (byteOf i.id) value)) s =
      (setReply i value.toInt s, storeItem i (i.settled value.toInt) (repeatBoost i value.toInt s)) := by
    simp only [performFrame, checkFrame_set, perform, signed]
    exact performSet_eq s i _ h
  show Host.Outcome.next (submit (Request.frame tag (.set (byteOf i.id) value)) s) = _
  rw [submit_eq_replied _ s ha (by rw [hperform]; exact hq), hperform]
  rfl

end

end Sys2Proof.Machine

/-! No expiry is signalled: the operations of the path start no one-shot at count 0 while the settings are in their
ranges (R155). And the levels that a holder report leaves. -/

namespace Sys2Proof.Machine

/-! ### Conditions by id (R165) -/

/-- The 27 conditions, in id order. -/
def Cond.all : List Cond :=
  [.zoneWarm .fresh, .zoneWarm .chill, .zoneWarm .freeze, .zoneCold .fresh, .zoneCold .chill, .zoneCold .freeze,
    .sensorLost .fresh, .sensorLost .chill, .sensorLost .freeze, .sensorLost .coil, .sensorLost .ambient, .fanFault,
    .compFault, .compLockout, .heaterOpen, .heaterStuck, .doorAjar .freshLeft, .doorAjar .freshRight,
    .doorAjar .chillDrawer, .doorAjar .freezeDrawer, .serviceHold, .defrostActive, .defrostDone, .defrostTimeout,
    .planApplied, .linkOverrun, .restarted]

theorem Cond.all_getElem?_id (c : Cond) : Cond.all[c.id]? = some c := by
  cases c with
  | zoneWarm z => cases z <;> rfl
  | zoneCold z => cases z <;> rfl
  | sensorLost c => cases c <;> rfl
  | doorAjar d => cases d <;> rfl
  | _ => rfl

theorem Cond.id_injective : Function.Injective Cond.id := fun c d h =>
  Option.some.inj (by rw [← Cond.all_getElem?_id c, h, Cond.all_getElem?_id])

section

variable (c : Conditions) (i j : Cond) (b : Bool)

/-- R166: a report of a level leaves the other levels. -/
theorem Conditions.level_setLevel_of_ne (h : j ≠ i) : (c.setLevel i b).level j = c.level j := by
  have hid : ¬ j.id = i.id := fun e => h (Cond.id_injective e)
  unfold Conditions.setLevel
  split
  · rfl
  · simp [Conditions.level, Conditions.mark_levels, getLsbD_putBit, hid]

end

section

variable (s : State)

@[simp] theorem State.level_setLevel_self (i : Cond) (b : Bool) : (s.setLevel i b).level i = b :=
  Conditions.level_setLevel_self _ _ _

theorem State.level_setLevel_of_ne (i j : Cond) (b : Bool) (h : j ≠ i) : (s.setLevel i b).level j = s.level j :=
  Conditions.level_setLevel_of_ne _ _ _ _ h

/-- R167, R168: an evaluation that no sample causes leaves every level. -/
theorem evalAlarm_change_levels (z : Zone) : (evalAlarm z .change s).cond.levels = s.cond.levels := by
  have hwarm : ∀ u, (warmTiming z .change u).cond.levels = u.cond.levels := fun u => by
    unfold warmTiming startAlarm stopAlarm
    dsimp only
    repeat' split
    all_goals simp
  have hcold : ∀ u, (coldTiming z .change u).cond.levels = u.cond.levels := fun u => by
    unfold coldTiming startAlarm stopAlarm
    dsimp only
    repeat' split
    all_goals simp
  have hd : ∀ u, warmDeassert z .change u = u := fun u => by unfold warmDeassert; split <;> simp_all
  have hc : ∀ u, coldDeassert z .change u = u := fun u => by unfold coldDeassert; split <;> simp_all
  simp [evalAlarm, hd, hc, hwarm, hcold]

/-- R50: a holder report sets SERVICE_HOLD and leaves every other level. -/
theorem tellHolder_level_of_ne (c : Cond) (h : c ≠ .serviceHold) : (tellHolder s).level c = s.level c := by
  have hset := State.level_setLevel_of_ne (tellDoors (refreshHeater s)) .serviceHold c
    (decide ((tellDoors (refreshHeater s)).arb.holder = .service)) h
  have hback : (tellDoors (refreshHeater s)).cond = s.cond := by simp
  unfold tellHolder tellConditions
  dsimp only
  split
  · rw [hset, State.level, hback, State.level]
  · rw [State.level, Conditions.level, evalAllAlarms, evalAlarm_change_levels, evalAlarm_change_levels,
      evalAlarm_change_levels]
    exact hset.trans (by rw [State.level, hback, State.level])

end

/-! ### No expiry is signalled -/

section

variable (s : State)

/-- R186: the lengths that start a one-shot are not 0. -/
theorem SettingsLaw.lengths {s : State} (h : SettingsLaw s) :
    s.effN .minOn ≠ 0 ∧ s.effN .minOff ≠ 0 ∧ s.alarmLength ≠ 0 ∧ s.effN .doorPauseMax ≠ 0 ∧ s.effN .heatMax * 60 ≠ 0 ∧
      s.effN .slotMin ≠ 0 ∧ s.effN .lostServe ≠ 0 ∧ s.effN .boostLen ≠ 0 := by
  have hd := h.effN_ne_zero .alarmDelay (by decide)
  have hh := h.effN_ne_zero .heatMax (by decide)
  refine ⟨h.effN_ne_zero _ (by decide), h.effN_ne_zero _ (by decide), ?_, h.effN_ne_zero _ (by decide), ?_,
    h.effN_ne_zero _ (by decide), h.effN_ne_zero _ (by decide), h.effN_ne_zero _ (by decide)⟩
  · simp only [State.alarmLength]; omega
  · omega

@[simp] theorem giveOpenings_own (fresh chill : Nat) : (giveOpenings fresh chill s).own = s.own := rfl

theorem restartC_own_of_settings {s t : State} (h : t.settings = s.settings) (i : CounterId) (j : Item)
    (hj : s.effN j ≠ 0) : (t.restartC i (t.effN j)).own = t.own :=
  t.restartC_own i _ (by rwa [State.effN_congr h])

theorem startComp_own (target : Nat) (h : s.effN .minOn ≠ 0) : (startComp target s).own = s.own := by
  unfold startComp
  dsimp only
  rw [(State.stopC_keeps _ _).2.2.2.2.2.2.2.2.2.2.2, State.restartC_own _ _ _ (by decide),
    restartC_own_of_settings (s := s) (by simp) _ _ h]
  simp

theorem stopComp_own (h : s.effN .minOff ≠ 0) : (stopComp s).own = s.own := by
  unfold stopComp beginPostRun
  dsimp only
  rw [State.restartC_own _ _ _ (by decide), restartC_own_of_settings (s := s) (by simp) _ _ h]
  simp

/-- R101, R103, R105: a new demand is noted, and then starts the compressor, stops it, or changes its record alone,
where the state stays. -/
theorem giveDemand_cases (d : Demand) :
    (∃ f : Compressor → Compressor, (∀ c, (f c).state = c.state ∧ (f c).demand = d) ∧ giveDemand d s = s.onComp f) ∨
      (∃ n, giveDemand d s = startComp n (s.onComp fun c => { c with demand := d })) ∨
      giveDemand d s = stopComp (s.onComp fun c => { c with demand := d }) := by
  have hnote : giveDemand d s = resolveDemand .newDemand (s.onComp fun c => { c with demand := d }) := rfl
  have hstate : (s.onComp fun c => { c with demand := d }).comp.state = s.comp.state := rfl
  rw [hnote]
  unfold resolveDemand decideStop
  rw [hstate]
  cases (s.onComp fun c => { c with demand := d }).resolve <;> cases s.comp.state
  case some.off n =>
    dsimp only
    split
    · exact .inl ⟨fun c => { c with demand := d }, fun _ => ⟨rfl, rfl⟩, rfl⟩
    · exact .inr (.inl ⟨n, rfl⟩)
  case some.running n => exact .inl ⟨fun c => { c with demand := d, stopHeld := false }, fun _ => ⟨rfl, rfl⟩, rfl⟩
  case none.running =>
    cases (s.onComp fun c => { c with demand := d }).comp.guard with
    | minOn => exact .inl ⟨fun c => { c with demand := d, stopHeld := true, target := s.nMin }, fun _ => ⟨rfl, rfl⟩, rfl⟩
    | none => exact .inr (.inr rfl)
    | minOff => exact .inr (.inr rfl)
  all_goals exact .inl ⟨fun c => { c with demand := d }, fun _ => ⟨rfl, rfl⟩, rfl⟩

/-- R101: a new demand signals no expiry. -/
theorem giveDemand_own (d : Demand) (hs : SettingsLaw s) : (giveDemand d s).own = s.own := by
  obtain ⟨hon, hoff, -⟩ := hs.lengths
  rcases giveDemand_cases s d with ⟨f, -, he⟩ | ⟨n, he⟩ | he <;> rw [he]
  · rfl
  · exact startComp_own _ n hon
  · exact stopComp_own _ hoff

/-- R167, R168: an evaluation signals no expiry. -/
theorem evalAlarm_own (z : Zone) (cause : AlarmCause) (hs : SettingsLaw s) : (evalAlarm z cause s).own = s.own := by
  have hlen := hs.lengths.2.2.1
  have hstart : ∀ what u, State.settings u = s.settings → (startAlarm z what u).own = u.own := fun what u hu => by
    unfold startAlarm
    have : u.alarmLength ≠ 0 := by rwa [State.alarmLength, State.effN_congr hu]
    exact u.restartC_own _ _ this
  have hwarm : ∀ u, State.settings u = s.settings → (warmTiming z cause u).own = u.own := fun u hu => by
    unfold warmTiming
    dsimp only
    repeat' split
    all_goals simp [hstart, hu]
  have hcold : ∀ u, State.settings u = s.settings → (coldTiming z cause u).own = u.own := fun u hu => by
    unfold coldTiming
    dsimp only
    repeat' split
    all_goals simp [hstart, hu]
  unfold evalAlarm
  rw [hcold _ (by simp), (coldDeassert_keeps _ z cause).2.2.2.2.2.2.2.2.2.2.2, hwarm _ (by simp)]
  simp

theorem evalAllAlarms_own (hs : SettingsLaw s) : (evalAllAlarms s).own = s.own := by
  unfold evalAllAlarms
  rw [evalAlarm_own _ _ _ (hs.congr (by simp)), evalAlarm_own _ _ _ (hs.congr (by simp)), evalAlarm_own _ _ _ hs]

/-- R50: a holder report signals no expiry. -/
theorem tellHolder_own (hs : SettingsLaw s) : (tellHolder s).own = s.own := by
  have hd : (tellDoors (refreshHeater s)).own = s.own := by simp
  unfold tellHolder tellConditions
  dsimp only
  split
  · exact hd
  · rw [evalAllAlarms_own _ (hs.congr (by simp))]
    exact hd

/-- R123: the outputs that stop the cold signal no expiry. -/
theorem giveStopOutputs_own (hs : SettingsLaw s) : (giveStopOutputs s).own = s.own := by
  unfold giveStopOutputs
  rw [giveDemand_own _ _ (hs.congr (by simp))]
  simp

/-- R126: the entry to HEAT signals no expiry. -/
theorem enterHeat_own (hs : SettingsLaw s) : (enterHeat s).own = s.own := by
  unfold enterHeat
  dsimp only
  have hb : ∀ timed, s.heatBudgetNow timed ≠ 0 := fun timed => by
    have := hs.lengths.2.2.2.2.1
    unfold State.heatBudgetNow
    split <;> omega
  rw [giveStopOutputs_own _ (hs.congr (by simp))]
  simp [State.restartC_own _ _ _ (hb _)]

end

end Sys2Proof.Machine

/-! What the outputs do to the air path and the compressor: targets to the dampers (R81 to R85), a duty to the fan (R88 to
R93), a demand to the compressor (R101 to R105), and all three of a holder's row (R49). -/

namespace Sys2Proof.Machine

/-! ### Dampers -/

/-- R81, R82, R83, R85: a damper takes a target by its state. -/
theorem DamperRec.give_takes (v : Nat) (r : DamperRec) : DamperRec.Takes v r (r.give v) := by
  unfold DamperRec.Takes DamperRec.give
  by_cases hv : v = r.target
  · simp [hv]
  · cases hst : r.state with
    | unhomed => simp [hv]
    | homing => simp [hv]
    | ready =>
      by_cases hp : r.position = some v
      · simp [hv, hp, hst, DamperRec.takeReady]
      · cases hd : r.homeDue <;>
          simp [hv, hp, hd, DamperRec.takeReady, DamperRec.beginHoming, DamperRec.beginMove, DamperRec.BeganHoming]
    | moving =>
      by_cases hp : r.position = some v <;> simp [hv, hp, DamperRec.complete]

@[simp] theorem DamperRec.give_target (v : Nat) (r : DamperRec) : (r.give v).target = v := by
  unfold DamperRec.give DamperRec.takeReady DamperRec.beginHoming DamperRec.beginMove DamperRec.complete
  repeat' split
  all_goals simp_all

/-- R81: a target that a damper has already changes nothing. -/
theorem DamperRec.give_of_target (v : Nat) (r : DamperRec) (h : v = r.target) : r.give v = r := by
  simp [DamperRec.give, h]

section

variable (s : State)

theorem giveOpenings_taken (fresh chill : Nat) : OpeningsTaken fresh chill s (giveOpenings fresh chill s) :=
  ⟨DamperRec.give_takes _ _, DamperRec.give_takes _ _⟩

variable {s} {t u : State}

theorem OpeningsTaken.congr {fresh chill : Nat} (h : OpeningsTaken fresh chill s t)
    (hu : u.air.dampers = t.air.dampers) : OpeningsTaken fresh chill s u := by
  simpa [OpeningsTaken, State.damper, hu] using h

/-! ### Fan -/

/-- The fan and its two counters stand as they did. -/
def FanSame (s t : State) : Prop :=
  t.air.fan = s.air.fan ∧ t.counter .tach = s.counter .tach ∧ t.counter .fantime = s.counter .fantime

theorem FanAsked.of_before {duty : Nat} (h : FanAsked duty u t) (hu : FanSame s u) : FanAsked duty s t := by
  obtain ⟨hf, ht, hn⟩ := hu
  simpa only [FanAsked, hf, ht, hn] using h

theorem FanAsked.of_after {duty : Nat} (h : FanAsked duty s u) (hu : FanSame u t) : FanAsked duty s t := by
  obtain ⟨hf, ht, hn⟩ := hu
  simpa only [FanAsked, hf, ht, hn] using h

variable (s)

theorem onFan_counter (f : Fan → Fan) (j : CounterId) : (s.onFan f).counter j = s.counter j := rfl

theorem kickFan_asked :
    (kickFan s).air.fan = { s.air.fan with state := .kick, drive := 255, overflowRun := 0, proven := false } ∧
      (kickFan s).counter .fantime = (s.counter .fantime).timing 2 ∧
      (kickFan s).counter .tach = (s.counter .tach).start .period := by
  refine ⟨by simp [kickFan], ?_, ?_⟩ <;> unfold kickFan
  · rw [State.counter_startC_of_ne _ _ _ (by decide), State.counter_restartC_self _ _ _ (by decide) (by decide)]
    rfl
  · rw [State.counter_startC_self, State.counter_restartC_of_ne _ _ _ _ (by decide)]
    rfl

theorem stopFan_asked :
    (stopFan s).air.fan =
        { s.air.fan with state := .stopped, drive := 0, rpm := 0, overflowRun := 0, proven := false } ∧
      (stopFan s).counter .fantime = (s.counter .fantime).stop ∧ (stopFan s).counter .tach = (s.counter .tach).stop := by
  refine ⟨by simp [stopFan], ?_, ?_⟩ <;> unfold stopFan
  · rw [State.counter_stopC_self, State.counter_stopC_of_ne _ _ _ (by decide)]
    rfl
  · rw [State.counter_stopC_of_ne _ _ _ (by decide), State.counter_stopC_self]
    rfl

theorem Counter.start_period (c : Counter) :
    (c.start .period).run = true ∧
      (c.run = false → (c.start .period).count = 0 ∧ (c.start .period).firstEdge = true) := by
  unfold Counter.start
  cases h : c.run <;> simp [h]

/-- R88, R89, R93: what a requested duty does. -/
theorem requestFan_asked (duty : Nat) : FanAsked duty s (requestFan duty s) := by
  obtain ⟨hkick, hkn, hkt⟩ := kickFan_asked (s.onFan fun f => { f with requested := duty })
  obtain ⟨hstop, hsn, hst⟩ := stopFan_asked (s.onFan fun f => { f with requested := duty })
  obtain ⟨hrun, hzero⟩ := Counter.start_period (s.counter .tach)
  by_cases hd : duty = 0 <;> cases hf : s.air.fan.state <;>
    simp_all [FanAsked, Fan.asked, requestFan, onFan_counter, dutyCode]

/-- A duty of 0 asked for again changes nothing. -/
theorem requestFan_zero_again (hr : s.air.fan.requested = 0) (hk : s.air.fan.state ≠ .kick)
    (hn : s.air.fan.state ≠ .run) : requestFan 0 s = s := by
  have hsame : s.onFan (fun f => { f with requested := 0 }) = s := by
    have : ({ s.air.fan with requested := 0 } : Fan) = s.air.fan := by rw [← hr]
    simp [State.onFan, this]
  unfold requestFan
  rw [hsame]
  cases hf : s.air.fan.state <;> simp_all

/-- R93: after a duty of 0 the fan neither kicks nor runs. -/
theorem Fan.asked_zero (f : Fan) :
    (f.asked 0).requested = 0 ∧ (f.asked 0).state ≠ .kick ∧ (f.asked 0).state ≠ .run := by
  unfold Fan.asked
  cases f.state <;> simp

end

/-! ### Compressor -/

section

variable {s t u : State}

/-- What a demand reads, and the compressor's three counters, stand as they did. -/
structure DriveSame (s t : State) : Prop where
  comp : t.comp = s.comp
  known : t.defr.compState = s.defr.compState
  settings : t.settings = s.settings
  zones : t.zones = s.zones
  guard : t.counter .guard = s.counter .guard
  ramp : t.counter .ramp = s.counter .ramp
  condrun : t.counter .condrun = s.counter .condrun

theorem DriveSame.autoTarget (h : DriveSame s t) (floor : Option Nat) : t.autoTarget floor = s.autoTarget floor := by
  simp [State.autoTarget, State.raiseToFloor, State.limitSpeed, State.rawTarget, State.ambientLift, State.urgencySum,
    State.nMin, State.nMax, State.effN, State.eff, State.zone, h.comp, h.settings, h.zones]
  rfl

theorem DriveSame.runsAt (h : DriveSame s t) (d : Demand) (n : Nat) : d.RunsAt n t ↔ d.RunsAt n s := by
  cases d <;> simp [Demand.RunsAt, h.autoTarget, State.effN, State.eff, State.zone, h.settings, h.zones]

theorem DriveSame.stops (h : DriveSame s t) (d : Demand) : d.Stops t ↔ d.Stops s := by
  cases d <;> simp [Demand.Stops, State.zone, h.zones]

theorem DemandTaken.of_before {d : Demand} (h : DemandTaken d u t) (hu : DriveSame s u) : DemandTaken d s t := by
  have heff : ∀ i, u.effN i = s.effN i := State.effN_congr hu.settings
  simpa only [DemandTaken, CompKeepsTime, CompStarts, CompStops, hu.runsAt, hu.stops, hu.comp, hu.guard, hu.ramp,
    hu.condrun, heff] using h

theorem DemandTaken.of_after {d : Demand} (h : DemandTaken d s u) (hc : t.comp = u.comp)
    (hk : t.defr.compState = u.defr.compState) (hg : t.counter .guard = u.counter .guard)
    (hr : t.counter .ramp = u.counter .ramp) (hn : t.counter .condrun = u.counter .condrun) : DemandTaken d s t := by
  simpa only [DemandTaken, CompKeepsTime, CompStarts, CompStops, hc, hk, hg, hr, hn] using h

end

section

variable (s : State)

@[simp] theorem setCompState_comp (st : CompState) : (setCompState st s).comp = { s.comp with state := st } := by
  simp [setCompState]

@[simp] theorem setCompState_known (st : CompState) : (setCompState st s).defr.compState = st := by
  simp [setCompState]

/-- R103: a start. -/
theorem startComp_starts (n : Nat) (hon : s.effN .minOn ≠ 0) : CompStarts s.comp.demand n s (startComp n s) := by
  have heff : ∀ i u, State.settings u = s.settings → u.effN i = s.effN i := fun i u hu => State.effN_congr hu i
  have hrestart : ∀ u, State.settings u = s.settings →
      (u.restartC .guard (u.effN .minOn)).counter .guard = (u.counter .guard).timing (s.effN .minOn) := fun u hu => by
    rw [heff _ _ hu, State.counter_restartC_self _ _ _ hon (by decide)]
  unfold startComp
  dsimp only
  refine ⟨?_, ?_, ?_, ?_, ?_⟩
  · simp [State.nMin, heff]
  · rw [State.counter_stopC_of_ne _ _ _ (by decide), State.counter_restartC_of_ne _ _ _ _ (by decide),
      hrestart _ (by simp), onComp_counter, setCompState_counter]
  · rw [State.counter_stopC_of_ne _ _ _ (by decide), State.counter_restartC_self _ _ _ (by decide) (by decide),
      State.counter_restartC_of_ne _ _ _ _ (by decide), onComp_counter, setCompState_counter]
  · rw [State.counter_stopC_self, State.counter_restartC_of_ne _ _ _ _ (by decide),
      State.counter_restartC_of_ne _ _ _ _ (by decide), onComp_counter, setCompState_counter]
  · simp

/-- R105: a stop. -/
theorem stopComp_stops (hoff : s.effN .minOff ≠ 0) : CompStops s.comp.demand s (stopComp s) := by
  have heff : ∀ i u, State.settings u = s.settings → u.effN i = s.effN i := fun i u hu => State.effN_congr hu i
  have hrestart : ∀ u, State.settings u = s.settings →
      (u.restartC .guard (u.effN .minOff)).counter .guard = (u.counter .guard).timing (s.effN .minOff) := fun u hu => by
    rw [heff _ _ hu, State.counter_restartC_self _ _ _ hoff (by decide)]
  unfold stopComp beginPostRun
  dsimp only
  refine ⟨?_, ?_, ?_, ?_⟩
  · simp
  · rw [State.counter_restartC_of_ne _ _ _ _ (by decide), hrestart _ (by simp), onComp_counter, setCompState_counter]
  · rw [State.counter_restartC_self _ _ _ (by decide) (by decide), State.counter_restartC_of_ne _ _ _ _ (by decide),
      onComp_counter, setCompState_counter]
  · simp

/-- R101: the demand in force resolved. -/
theorem resolve_eq_some_iff (hlim : s.effN .nMin ≤ s.effN .nMax) (n : Nat) :
    s.resolve = some n ↔ s.comp.demand.RunsAt n s := by
  unfold State.resolve Demand.RunsAt
  cases s.comp.demand with
  | stop => simp
  | fixed m => simp [State.limitSpeed, State.nMin, State.nMax, limitedN_eq _ _ _ hlim, eq_comm]
  | auto floor =>
    have hany : s.anyCalling = true ↔ ∃ z, (s.zone z).calling = true := by
      simp only [State.anyCalling, List.any_eq_true]
      exact ⟨fun ⟨z, _, h⟩ => ⟨z, h⟩, fun ⟨z, h⟩ => ⟨z, by cases z <;> decide, h⟩⟩
    by_cases h : s.anyCalling = true
    · simp only [h, if_true, hany.mp h, true_and, Option.some.injEq]
      exact eq_comm
    · have hnone : ¬ ∃ z, (s.zone z).calling = true := mt hany.mpr h
      simp [h, hnone]

theorem resolve_eq_none_iff : s.resolve = none ↔ s.comp.demand.Stops s := by
  unfold State.resolve Demand.Stops
  cases s.comp.demand with
  | stop => simp
  | fixed m => simp
  | auto floor =>
    have hany : s.anyCalling = false ↔ ∀ z, (s.zone z).calling = false := by
      simp only [State.anyCalling, List.any_eq_false, Bool.not_eq_true]
      exact ⟨fun h z => h z (by cases z <;> decide), fun h z _ => h z⟩
    cases h : s.anyCalling <;> simp [← hany, h]

theorem SettingsLaw.nMin_le_nMax {s : State} (h : SettingsLaw s) : s.effN .nMin ≤ s.effN .nMax := by
  have h1 := (h.1 .nMin).2
  have h2 := (h.1 .nMax).1
  simp only [Item.range] at h1 h2
  simp only [State.effN]
  omega

/-- R101, R103, R105: what a new demand does at its arrival. -/
theorem giveDemand_taken (d : Demand) (hs : SettingsLaw s) : DemandTaken d s (giveDemand d s) := by
  set u := s.onComp fun c => { c with demand := d } with hu
  have hsu : SettingsLaw u := hs.congr (by simp [hu])
  have hruns : ∀ n, d.RunsAt n s ↔ u.resolve = some n := fun n => by
    rw [resolve_eq_some_iff u hsu.nMin_le_nMax]; exact Iff.rfl
  have hstops : d.Stops s ↔ u.resolve = none := by rw [resolve_eq_none_iff]; exact Iff.rfl
  have hstart := startComp_starts u
  have hstop := stopComp_stops u hsu.lengths.2.1
  have hgive : giveDemand d s = resolveDemand .newDemand u := rfl
  have hstate : u.comp.state = s.comp.state := rfl
  have hkeep : CompKeepsTime { s.comp with demand := d } s u := ⟨rfl, rfl, rfl, rfl⟩
  rw [hgive]
  refine ⟨fun h => ?_, fun h hc => ?_, fun n h hn hg => ?_, fun n h hn => ?_, fun h hd hg => ?_, fun h hd hg => ?_⟩
  · rcases h with h | h <;> simpa [resolveDemand, hstate, h] using hkeep
  · rw [hstops] at hc
    unfold resolveDemand
    rw [hstate, h]
    cases hr : u.resolve with
    | none => exact hkeep
    | some n =>
      have hrun : (u.counter .guard).run = true := hc.resolve_left (by simp [hr])
      simpa [hrun] using hkeep
  · have hrun : (u.counter .guard).run = false := hg
    have he : resolveDemand .newDemand u = startComp n u := by
      simp [resolveDemand, hstate, h, (hruns n).mp hn, hrun]
    rw [he]
    exact hstart n hsu.lengths.1
  · have he : resolveDemand .newDemand u = u.onComp fun c => { c with stopHeld := false } := by
      simp only [resolveDemand, hstate, h, (hruns n).mp hn]
    rw [he]
    exact ⟨rfl, rfl, rfl, rfl⟩
  · have hguard : u.comp.guard = .minOn := hg
    have he : resolveDemand .newDemand u = u.onComp fun c => { c with stopHeld := true, target := u.nMin } := by
      simp only [resolveDemand, hstate, h, hstops.mp hd, decideStop, hguard]
    rw [he]
    exact ⟨rfl, rfl, rfl, rfl⟩
  · have hguard : u.comp.guard = s.comp.guard := rfl
    unfold resolveDemand decideStop
    rw [hstate, h, hstops.mp hd, hguard]
    cases hgu : s.comp.guard with
    | minOn => exact absurd hgu hg
    | none => exact hstop
    | minOff => exact hstop

/-- R99, R118: the sequencer goes on knowing the compressor's state. -/
theorem giveDemand_known (d : Demand) (h : s.defr.compState = s.comp.state) :
    (giveDemand d s).defr.compState = (giveDemand d s).comp.state := by
  rcases giveDemand_cases s d with ⟨f, hf, he⟩ | ⟨n, he⟩ | he <;> rw [he]
  · simpa [hf] using h
  · simp [startComp]
  · simp [stopComp, beginPostRun]

/-- R132: of the sequencer's record a demand changes what it knows of the compressor, and the heater drive. -/
theorem giveDemand_defr (d : Demand) :
    ∃ st on, (giveDemand d s).defr = { s.defr with compState := st, heaterDrive := on } := by
  rcases giveDemand_cases s d with ⟨f, -, he⟩ | ⟨n, he⟩ | he <;> rw [he]
  · exact ⟨s.defr.compState, s.defr.heaterDrive, rfl⟩
  · exact ⟨.running, _, by simp [startComp, setCompState]; rfl⟩
  · exact ⟨.off, _, by simp [stopComp, beginPostRun, setCompState]; rfl⟩

/-- R101: a compressor that is not RUNNING only notes that it is to stop. -/
theorem giveDemand_stop_of_not_running (h : s.comp.state ≠ .running) :
    giveDemand .stop s = s.onComp fun c => { c with demand := .stop } := by
  have hr : (s.onComp fun c => { c with demand := .stop }).resolve = none := rfl
  unfold giveDemand resolveDemand
  rw [hr]
  cases hst : s.comp.state <;> simp_all

end

end Sys2Proof.Machine

/-! Grants, IDLE and the ends of a slot (R49 to R60), and what a holder report tells the blocks that follow it (R50). -/

namespace Sys2Proof.Machine

/-! ### The three outputs of a holder -/

/-- R49: the openings, the duty and the demand of a holder's row have been given. -/
def OutputsGiven (fresh chill duty : Nat) (d : Demand) (s t : State) : Prop :=
  OpeningsTaken fresh chill s t ∧ FanAsked duty s t ∧ DemandTaken d s t

section

variable {s u : State}

theorem DriveSame.refl (s : State) : DriveSame s s := ⟨rfl, rfl, rfl, rfl, rfl, rfl, rfl⟩

theorem DriveSame.trans {t : State} (h : DriveSame s t) (k : DriveSame t u) : DriveSame s u :=
  ⟨k.comp.trans h.comp, k.known.trans h.known, k.settings.trans h.settings, k.zones.trans h.zones,
    k.guard.trans h.guard, k.ramp.trans h.ramp, k.condrun.trans h.condrun⟩

theorem requestFan_driveSame (duty : Nat) (s : State) : DriveSame s (requestFan duty s) := by
  constructor <;> simp

theorem giveDemand_fanSame (d : Demand) (s : State) : FanSame s (giveDemand d s) := by
  refine ⟨by simp, ?_, ?_⟩ <;> simp

theorem FanSame.trans {t : State} (h : FanSame s t) (k : FanSame t u) : FanSame s u :=
  ⟨k.1.trans h.1, k.2.1.trans h.2.1, k.2.2.trans h.2.2⟩

/-- The duty and the demand, given once the dampers have their openings. -/
theorem outputs_given {fresh chill : Nat} (duty : Nat) (d : Demand) (hs : SettingsLaw s)
    (ho : OpeningsTaken fresh chill s u) (hf : FanSame s u) (hd : DriveSame s u) :
    OutputsGiven fresh chill duty d s (giveDemand d (requestFan duty u)) := by
  have hs' : SettingsLaw (requestFan duty u) := hs.congr (by simp [hd.settings])
  refine ⟨ho.congr (by simp), ?_, (giveDemand_taken _ d hs').of_before (hd.trans (requestFan_driveSame duty u))⟩
  exact ((requestFan_asked u duty).of_after (giveDemand_fanSame d _)).of_before hf

variable (s)

theorem giveOpenings_fanSame (fresh chill : Nat) : FanSame s (giveOpenings fresh chill s) := ⟨rfl, rfl, rfl⟩

theorem giveOpenings_driveSame (fresh chill : Nat) : DriveSame s (giveOpenings fresh chill s) :=
  ⟨rfl, rfl, rfl, rfl, rfl, rfl, rfl⟩

end

section

variable (s : State)

/-! ### A slot that takes the path (R51, R52, R71) -/

/-- R52: a slot that takes the path gives its openings, and serving also its duty. -/
theorem placeSlot_eq (r : Slot) :
    ∃ u, placeSlot r s =
        giveDemand (.auto r.route.floor)
          (requestFan (if (placeSlot r s).bothSettled then r.route.fanDuty else 0) u) ∧
      u = (if (placeSlot r s).bothSettled then
            (setHolder (.slot { r with serving := true })
              (giveOpenings r.route.freshOpen r.route.chillOpen s)).startC .slot
          else setHolder (.slot { r with serving := false }) (giveOpenings r.route.freshOpen r.route.chillOpen s)) := by
  have hset : (placeSlot r s).bothSettled = (giveOpenings r.route.freshOpen r.route.chillOpen s).bothSettled := by
    unfold placeSlot
    dsimp only
    split <;> next h => simp_all [serveSlot, switchSlot, State.bothSettled, State.damper]
  refine ⟨_, ?_, rfl⟩
  rw [hset]
  unfold placeSlot
  dsimp only
  split <;> next h => simp [serveSlot, switchSlot]

theorem placeSlot_outputs (r : Slot) (hs : SettingsLaw s) :
    OutputsGiven r.route.freshOpen r.route.chillOpen
      (if (placeSlot r s).bothSettled then r.route.fanDuty else 0) (.auto r.route.floor) s (placeSlot r s) := by
  obtain ⟨u, he, hu⟩ := placeSlot_eq s r
  have hair : u.air = (giveOpenings r.route.freshOpen r.route.chillOpen s).air := by
    subst hu; split <;> simp
  have hcounter : ∀ j, j ≠ .slot → u.counter j = s.counter j := fun j hj => by
    subst hu
    split
    · rw [State.counter_startC_of_ne _ _ _ hj]; rfl
    · rfl
  have hdrive : DriveSame s u := by
    constructor
    case guard => exact hcounter _ (by decide)
    case ramp => exact hcounter _ (by decide)
    case condrun => exact hcounter _ (by decide)
    all_goals subst hu; split <;> simp
  have hfan : FanSame s u := ⟨by simp [hair], hcounter _ (by decide), hcounter _ (by decide)⟩
  have := outputs_given (if (placeSlot r s).bothSettled then r.route.fanDuty else 0) (.auto r.route.floor) hs
    ((giveOpenings_taken s r.route.freshOpen r.route.chillOpen).congr (by rw [hair])) hfan hdrive
  rwa [← he] at this

/-- R51: SLOT runs once the slot serves. -/
theorem placeSlot_slotCounter (r : Slot) (hc : (s.counter .slot).count ≠ 0) (hr : (s.counter .slot).run = false) :
    ((placeSlot r s).counter .slot).run = (placeSlot r s).bothSettled ∧
      ((placeSlot r s).counter .slot).count = (s.counter .slot).count ∧
      ((placeSlot r s).counter .slot).reload = (s.counter .slot).reload := by
  obtain ⟨u, he, hu⟩ := placeSlot_eq s r
  have hslot : (placeSlot r s).counter .slot = u.counter .slot := by
    rw [he, giveDemand_counter _ _ _ (by decide) (by decide) (by decide), requestFan_counter _ _ _ (by decide) (by decide)]
  rw [hslot, hu]
  cases hb : (placeSlot r s).bothSettled
  · exact ⟨hr, rfl, rfl⟩
  · have hsame : (setHolder (.slot { r with serving := true })
        (giveOpenings r.route.freshOpen r.route.chillOpen s)).counter .slot = s.counter .slot := rfl
    simp only [if_true, State.counter_startC_self, hsame, CounterId.mode, Counter.start, hr, hc, if_false,
      Bool.false_eq_true, and_self]

theorem placeSlot_own (r : Slot) (hs : SettingsLaw s) (hc : (s.counter .slot).count ≠ 0) :
    (placeSlot r s).own = s.own := by
  obtain ⟨u, he, hu⟩ := placeSlot_eq s r
  have hset : u.settings = s.settings := by subst hu; split <;> simp
  rw [he, giveDemand_own _ _ (hs.congr (by simp [hset])), requestFan_own, hu]
  split
  · rw [State.startC_own _ _ (.inr (.inl (by exact hc)))]; rfl
  · rfl

/-- What no output of the path touches in the sequencer's record. -/
def SequencerSame (s t : State) : Prop :=
  ∃ st on, t.defr = { s.defr with compState := st, heaterDrive := on }

variable {s} in
theorem SequencerSame.trans {t u : State} (h : SequencerSame s t) (k : SequencerSame t u) : SequencerSame s u := by
  obtain ⟨st, on, h⟩ := h
  obtain ⟨st', on', k⟩ := k
  exact ⟨st', on', by rw [k, h]⟩

variable {s} in
theorem SequencerSame.of_eq {t : State} (h : t.defr = s.defr) : SequencerSame s t := ⟨_, _, h⟩

theorem placeSlot_sequencer (r : Slot) : SequencerSame s (placeSlot r s) := by
  obtain ⟨u, he, hu⟩ := placeSlot_eq s r
  have hdefr : u.defr = s.defr := by subst hu; split <;> simp
  rw [he]
  exact (SequencerSame.of_eq (by simp [hdefr])).trans (giveDemand_defr _ _)

theorem placeSlot_known (r : Slot) (h : s.defr.compState = s.comp.state) :
    (placeSlot r s).defr.compState = (placeSlot r s).comp.state := by
  obtain ⟨u, he, hu⟩ := placeSlot_eq s r
  have hsame : u.defr = s.defr ∧ u.comp = s.comp := by subst hu; split <;> simp
  rw [he]
  exact giveDemand_known _ _ (by simp [hsame, h])

/-- The counters that outputs and slots touch. -/
def CounterId.onPath : CounterId → Bool
  | .slot | .tach | .fantime | .guard | .ramp | .condrun => true
  | _ => false

theorem placeSlot_counter (r : Slot) (j : CounterId) (hj : j.onPath = false) : (placeSlot r s).counter j = s.counter j := by
  obtain ⟨u, he, hu⟩ := placeSlot_eq s r
  have hne : ∀ i : CounterId, i.onPath = true → j ≠ i := fun i hi h => by simp [h, hi] at hj
  rw [he, giveDemand_counter _ _ _ (hne _ rfl) (hne _ rfl) (hne _ rfl),
    requestFan_counter _ _ _ (hne _ rfl) (hne _ rfl), hu]
  split
  · rw [State.counter_startC_of_ne _ _ _ (hne _ rfl)]; rfl
  · rfl

end

end Sys2Proof.Machine

/-! Arbitration (R58, R59): the grant of a slot and the entry to IDLE, with their outputs, counters and levels. -/

namespace Sys2Proof.Machine

/-! ### What the outputs start from -/

/-- The path's outputs, what they read, and their counters stand as they did. -/
structure PathSame (s u : State) : Prop where
  air : u.air = s.air
  tach : u.counter .tach = s.counter .tach
  fantime : u.counter .fantime = s.counter .fantime
  drive : DriveSame s u

section

variable {s t u : State}

theorem PathSame.of_bank (hair : u.air = s.air) (hbank : u.bank = s.bank) (hcomp : u.comp = s.comp)
    (hdefr : u.defr.compState = s.defr.compState) (hset : u.settings = s.settings) (hz : u.zones = s.zones) :
    PathSame s u := by
  have hc : ∀ j, u.counter j = s.counter j := fun j => by simp [State.counter, hbank]
  exact ⟨hair, hc _, hc _, hcomp, hdefr, hset, hz, hc _, hc _, hc _⟩

theorem PathSame.fan (h : PathSame s u) : FanSame s u := ⟨by rw [h.air], h.tach, h.fantime⟩

theorem PathSame.trans (h : PathSame s t) (k : PathSame t u) : PathSame s u :=
  ⟨k.air.trans h.air, k.tach.trans h.tach, k.fantime.trans h.fantime, h.drive.trans k.drive⟩

theorem OpeningsTaken.of_before {fresh chill : Nat} (h : OpeningsTaken fresh chill u t)
    (hu : u.air.dampers = s.air.dampers) : OpeningsTaken fresh chill s t := by
  simpa [OpeningsTaken, State.damper, hu] using h

theorem OutputsGiven.of_before {fresh chill duty : Nat} {d : Demand} (h : OutputsGiven fresh chill duty d u t)
    (hu : PathSame s u) : OutputsGiven fresh chill duty d s t :=
  ⟨h.1.of_before (by rw [hu.air]), h.2.1.of_before hu.fan, h.2.2.of_before hu.drive⟩

theorem OutputsGiven.of_after {fresh chill duty : Nat} {d : Demand} (h : OutputsGiven fresh chill duty d s u)
    (hu : PathSame u t) : OutputsGiven fresh chill duty d s t :=
  ⟨h.1.congr (by rw [hu.air]), h.2.1.of_after hu.fan,
    h.2.2.of_after hu.drive.comp hu.drive.known hu.drive.guard hu.drive.ramp hu.drive.condrun⟩

end

section

variable (s : State)

/-- The openings, the duty and the demand, given one after the other. -/
theorem outputs_of_row (fresh chill duty : Nat) (d : Demand) (hs : SettingsLaw s) :
    OutputsGiven fresh chill duty d s (giveDemand d (requestFan duty (giveOpenings fresh chill s))) :=
  outputs_given duty d hs (giveOpenings_taken s fresh chill) (giveOpenings_fanSame s fresh chill)
    (giveOpenings_driveSame s fresh chill)

/-! ### A waiting commit (R64) -/

theorem applyPending_same : PathSame s (applyPending s) := .of_bank (by simp) (by simp) (by simp) (by simp) (by simp) (by simp)

theorem applyPending_counter (j : CounterId) : (applyPending s).counter j = s.counter j := by simp [State.counter]

/-- R64: an applied commit is reported. -/
theorem applyPending_delta (h : s.arb.commitPending = true) : (applyPending s).cond.deltas.getLsbD 24 = true := by
  simp [applyPending, h, applyPlan, Conditions.mark_deltas, getLsbD_putBit, Cond.id]

theorem applyPending_levels : (applyPending s).cond.levels = s.cond.levels := by
  unfold applyPending applyPlan
  split <;> simp [Conditions.mark_levels]

/-! ### IDLE (R60) -/

theorem enterIdle_eq : enterIdle s = giveDemand (.auto none)
    (requestFan s.arb.nextPlan.idle.fanDuty
      (giveOpenings s.arb.nextPlan.idle.freshOpen s.arb.nextPlan.idle.chillOpen (applyPending (setHolder .nobody s)))) := by
  simp only [enterIdle, giveIdleOutputs, applyPending_arb]
  rfl

theorem enterIdle_outputs (hs : SettingsLaw s) :
    OutputsGiven s.arb.nextPlan.idle.freshOpen s.arb.nextPlan.idle.chillOpen s.arb.nextPlan.idle.fanDuty (.auto none) s
      (enterIdle s) := by
  have h := outputs_of_row (applyPending (setHolder .nobody s)) s.arb.nextPlan.idle.freshOpen s.arb.nextPlan.idle.chillOpen
    s.arb.nextPlan.idle.fanDuty (.auto none) (hs.congr (by simp))
  rw [enterIdle_eq]
  have hfree : PathSame s (setHolder .nobody s) := .of_bank rfl rfl rfl rfl rfl rfl
  exact h.of_before (hfree.trans (applyPending_same (setHolder .nobody s)))

theorem enterIdle_cond : (enterIdle s).cond = (applyPending (setHolder .nobody s)).cond := by simp [enterIdle_eq]

theorem enterIdle_counter (j : CounterId) (hj : j.onPath = false) : (enterIdle s).counter j = s.counter j := by
  have hne : ∀ i : CounterId, i.onPath = true → j ≠ i := fun i hi h => by simp [h, hi] at hj
  rw [enterIdle_eq, giveDemand_counter _ _ _ (hne _ rfl) (hne _ rfl) (hne _ rfl),
    requestFan_counter _ _ _ (hne _ rfl) (hne _ rfl), giveOpenings_counter, applyPending_counter]
  rfl

theorem enterIdle_slotCounter : (enterIdle s).counter .slot = s.counter .slot := by
  rw [enterIdle_eq, giveDemand_counter _ _ _ (by decide) (by decide) (by decide),
    requestFan_counter _ _ _ (by decide) (by decide), giveOpenings_counter, applyPending_counter]
  rfl

theorem enterIdle_own (hs : SettingsLaw s) : (enterIdle s).own = s.own := by
  rw [enterIdle_eq, giveDemand_own _ _ (hs.congr (by simp))]
  simp

theorem enterIdle_sequencer : SequencerSame s (enterIdle s) := by
  rw [enterIdle_eq]
  exact (SequencerSame.of_eq (by simp)).trans (giveDemand_defr _ _)

theorem enterIdle_known (h : s.defr.compState = s.comp.state) :
    (enterIdle s).defr.compState = (enterIdle s).comp.state := by
  rw [enterIdle_eq]
  exact giveDemand_known _ _ (by simpa using h)

/-! ### Grants (R51) -/

/-- The state in which a grant places its slot: WAIT stopped, and SLOT written with the slot's length. -/
def State.granting (z : Zone) (s : State) : State :=
  ((((applyPending s).onArb fun a => { a with holder := .slot (s.grantedSlot z false), lastServed := z }).stopC
    (.wait z)).stopC .slot).writeC .slot (s.slotLength (decide ((s.zone z).subst = .timed)))

theorem grantSlot_eq (z : Zone) : grantSlot z s = placeSlot (s.grantedSlot z false) (s.granting z) := by
  have hz : (applyPending s).zone z = s.zone z := State.zone_congr (by simp) z
  have hl : ∀ b u, State.settings u = s.settings → u.slotLength b = s.slotLength b := fun b u hu => by
    simp [State.slotLength, State.effN_congr hu]
  have hr : ({ zone := z, phase := .min, fixed := decide ((s.zone z).subst = .timed), route := s.arb.nextPlan.zone z
               source := .plan, serving := false } : Slot) = s.grantedSlot z false := rfl
  unfold grantSlot State.granting
  dsimp only
  rw [applyPending_arb, hz, hr, hl _ _ (by simp)]

theorem granting_same (z : Zone) : PathSame s (s.granting z) := by
  refine (applyPending_same s).trans ?_
  unfold State.granting
  constructor
  case drive =>
    constructor
    all_goals simp
    all_goals rfl
  all_goals simp
  all_goals rfl

theorem granting_settings (z : Zone) : (s.granting z).settings = s.settings := (granting_same s z).drive.settings

theorem slotLength_ne_zero (hs : SettingsLaw s) (fixed : Bool) : s.slotLength fixed ≠ 0 := by
  obtain ⟨-, -, -, -, -, hmin, hserve, -⟩ := hs.lengths
  unfold State.slotLength
  split <;> assumption

theorem granting_slot (z : Zone) :
    ((s.granting z).counter .slot).run = false ∧
      ((s.granting z).counter .slot).count = s.slotLength (decide ((s.zone z).subst = .timed)) ∧
      ((s.granting z).counter .slot).reload = s.slotLength (decide ((s.zone z).subst = .timed)) := by
  unfold State.granting
  rw [State.counter_writeC_self, State.counter_stopC_self]
  simp [Counter.write]

theorem granting_wait (z : Zone) : (s.granting z).counter (.wait z) = (s.counter (.wait z)).stop := by
  unfold State.granting
  rw [State.counter_writeC_of_ne _ _ _ _ (by simp), State.counter_stopC_of_ne _ _ _ (by simp), State.counter_stopC_self]
  exact congrArg Counter.stop (applyPending_counter s _)

theorem granting_counter (z : Zone) (j : CounterId) (hw : j ≠ .wait z) (hj : j ≠ .slot) :
    (s.granting z).counter j = s.counter j := by
  unfold State.granting
  rw [State.counter_writeC_of_ne _ _ _ _ hj, State.counter_stopC_of_ne _ _ _ hj, State.counter_stopC_of_ne _ _ _ hw]
  exact applyPending_counter s j

theorem granting_cond (z : Zone) : (s.granting z).cond = (applyPending s).cond := by simp [State.granting]

theorem grantSlot_outputs (z : Zone) (hs : SettingsLaw s) :
    OutputsGiven (s.arb.nextPlan.zone z).freshOpen (s.arb.nextPlan.zone z).chillOpen
      (if (grantSlot z s).bothSettled then (s.arb.nextPlan.zone z).fanDuty else 0)
      (.auto (s.arb.nextPlan.zone z).floor) s (grantSlot z s) := by
  rw [grantSlot_eq]
  exact (placeSlot_outputs (s.granting z) (s.grantedSlot z false) (hs.congr (granting_settings s z))).of_before
    (granting_same s z)

theorem grantSlot_counter (z : Zone) (j : CounterId) (hw : j ≠ .wait z) (hj : j.onPath = false) :
    (grantSlot z s).counter j = s.counter j := by
  rw [grantSlot_eq, placeSlot_counter _ _ _ hj, granting_counter _ _ _ hw (fun h => by simp [h, CounterId.onPath] at hj)]

theorem grantSlot_wait (z : Zone) : (grantSlot z s).counter (.wait z) = (s.counter (.wait z)).stop := by
  rw [grantSlot_eq, placeSlot_counter _ _ _ rfl, granting_wait]

/-- R51, R55: SLOT has the slot's length, and runs where the slot serves. -/
theorem grantSlot_slotCounter (z : Zone) (hs : SettingsLaw s) :
    ((grantSlot z s).counter .slot).run = (grantSlot z s).bothSettled ∧
      ((grantSlot z s).counter .slot).count = s.slotLength (decide ((s.zone z).subst = .timed)) ∧
      ((grantSlot z s).counter .slot).reload = s.slotLength (decide ((s.zone z).subst = .timed)) := by
  obtain ⟨hrun, hcount, hreload⟩ := granting_slot s z
  rw [grantSlot_eq]
  have h := placeSlot_slotCounter (s.granting z) (s.grantedSlot z false)
    (by rw [hcount]; exact slotLength_ne_zero s hs _) hrun
  rwa [hcount, hreload] at h

theorem granting_own (z : Zone) : (s.granting z).own = s.own := by simp [State.granting]

theorem grantSlot_own (z : Zone) (hs : SettingsLaw s) : (grantSlot z s).own = s.own := by
  obtain ⟨-, hcount, -⟩ := granting_slot s z
  rw [grantSlot_eq, placeSlot_own _ _ (hs.congr (granting_settings s z))
    (by rw [hcount]; exact slotLength_ne_zero s hs _), granting_own]

theorem grantSlot_cond (z : Zone) : (grantSlot z s).cond = (applyPending s).cond := by
  rw [grantSlot_eq, (placeSlot_keeps _ _).2.2.2.2.2.1, granting_cond]

theorem grantSlot_sequencer (z : Zone) : SequencerSame s (grantSlot z s) := by
  rw [grantSlot_eq]
  exact (SequencerSame.of_eq (by simp [State.granting])).trans (placeSlot_sequencer _ _)

theorem grantSlot_known (z : Zone) (h : s.defr.compState = s.comp.state) :
    (grantSlot z s).defr.compState = (grantSlot z s).comp.state := by
  rw [grantSlot_eq]
  exact placeSlot_known _ _ (by rw [(granting_same s z).drive.known, (granting_same s z).drive.comp]; exact h)

end

end Sys2Proof.Machine

/-! What arbitration settles (R58, R59), what a holder report tells (R50), and the end of a slot that holds the path
(R56). -/

namespace Sys2Proof.Machine

section

variable (s : State)

/-! ### Arbitration -/

/-- R56: full_end is absent again. -/
def State.fullEndGone (s : State) : State := s.onArb fun a => { a with fullEnd := none }

theorem arbitrate_of_none (h : s.choice = none) : arbitrate s = enterIdle s.fullEndGone := by
  simp only [arbitrate, h]
  rfl

theorem arbitrate_of_some {z : Zone} (h : s.choice = some z) : arbitrate s = grantSlot z s.fullEndGone := by
  simp only [arbitrate, h]
  rfl

theorem fullEndGone_same : PathSame s s.fullEndGone := .of_bank rfl rfl rfl rfl rfl rfl

/-- A fact of the grant and of the entry to IDLE holds of arbitration. -/
theorem arbitrate_elim (P : State → Prop) (hidle : P (enterIdle s.fullEndGone))
    (hgrant : ∀ z, s.choice = some z → P (grantSlot z s.fullEndGone)) : P (arbitrate s) := by
  cases h : s.choice with
  | none => exact arbitrate_of_none s h ▸ hidle
  | some z => exact arbitrate_of_some s h ▸ hgrant z h

/-- R57, R58: arbitration touches the WAIT counter of the zone chosen and the counters of the path. -/
theorem arbitrate_counter (j : CounterId) (hw : ∀ z, s.choice = some z → j ≠ .wait z) (hj : j.onPath = false) :
    (arbitrate s).counter j = s.counter j :=
  arbitrate_elim s (fun t => t.counter j = s.counter j) (enterIdle_counter s.fullEndGone j hj) fun z hz =>
    grantSlot_counter s.fullEndGone z j (hw z hz) hj

theorem arbitrate_own (hs : SettingsLaw s) : (arbitrate s).own = s.own :=
  arbitrate_elim s (fun t => t.own = s.own) (enterIdle_own s.fullEndGone hs) fun z _ => grantSlot_own s.fullEndGone z hs

theorem arbitrate_sequencer : SequencerSame s (arbitrate s) :=
  arbitrate_elim s (SequencerSame s) (enterIdle_sequencer s.fullEndGone) fun z _ => grantSlot_sequencer s.fullEndGone z

theorem arbitrate_known (h : s.defr.compState = s.comp.state) : (arbitrate s).defr.compState = (arbitrate s).comp.state :=
  arbitrate_elim s (fun t => t.defr.compState = t.comp.state) (enterIdle_known s.fullEndGone h) fun z _ =>
    grantSlot_known s.fullEndGone z h

theorem arbitrate_levels : (arbitrate s).cond.levels = s.cond.levels :=
  arbitrate_elim s (fun t => t.cond.levels = s.cond.levels)
    (by rw [enterIdle_cond, applyPending_levels]; rfl) fun z _ => by rw [grantSlot_cond, applyPending_levels]; rfl

/-- R58: arbitration leaves nobody or a slot with the path. -/
theorem arbitrate_isFree : (arbitrate s).arb.holder.isFree = true := by
  cases h : s.choice with
  | none => rw [arbitrate_arb_of_none s h]; rfl
  | some z => rw [arbitrate_arb_of_some s h]; rfl

/-- R49, R60, R64: IDLE is entered where no zone is chosen. -/
theorem arbitrate_idle (hs : SettingsLaw s) (h : s.choice = none) : IdleEntered s (arbitrate s) := by
  rintro plan rfl
  obtain ⟨ho, hf, hd⟩ := (enterIdle_outputs s.fullEndGone hs).of_before (fullEndGone_same s)
  rw [arbitrate_of_none s h]
  refine ⟨fun hp => ?_, ?_, ho, hf, hd⟩
  · rw [enterIdle_cond]
    exact applyPending_delta (setHolder .nobody s.fullEndGone) hp
  · rw [enterIdle_arb]
    rfl

/-- R49, R51, R52, R55, R57, R64: the zone chosen is granted a slot. -/
theorem arbitrate_grants (hs : SettingsLaw s) {z : Zone} (h : s.choice = some z) : SlotGranted z s (arbitrate s) := by
  rintro plan route fixed serving rfl hroute rfl hserving
  obtain ⟨ho, hf, hd⟩ := (grantSlot_outputs s.fullEndGone z hs).of_before (fullEndGone_same s)
  obtain ⟨hrun, hcount, hreload⟩ := grantSlot_slotCounter s.fullEndGone z hs
  have hr : s.fullEndGone.arb.nextPlan.zone z = route := by subst hroute; cases z <;> rfl
  have hlen : s.fullEndGone.slotLength (decide ((s.zone z).subst = .timed)) =
      s.effN (if decide ((s.zone z).subst = .timed) = true then .lostServe else .slotMin) := by
    unfold State.slotLength
    split <;> rfl
  rw [arbitrate_of_some s h] at hserving ⊢
  have hb : (grantSlot z s.fullEndGone).bothSettled = serving := by
    rw [hserving]
    simp [State.bothSettled, DamperRec.settled, Bool.decide_and]
  rw [hr] at ho hf hd
  rw [hb] at hf hrun
  refine ⟨fun hp => ?_, ?_, grantSlot_wait s.fullEndGone z, hrun, hcount.trans hlen, hreload.trans hlen, ho, hf, hd⟩
  · rw [grantSlot_cond]
    exact applyPending_delta s.fullEndGone hp
  · rw [grantSlot_arb, hb]
    simp only [State.grantedSlot, hr]
    rfl

theorem arbitrate_pathOnly : PathOnly s (arbitrate s) := by
  obtain ⟨st, on, hd⟩ := arbitrate_sequencer s
  have hc : ∀ j : CounterId, j.onPath = false → (∀ z, j ≠ .wait z) → (arbitrate s).counter j = s.counter j :=
    fun j hj hw => arbitrate_counter s j (fun z _ => hw z) hj
  refine ⟨by simp, by simp, by simp, by simp, by simp, by rw [hd], by rw [hd], by rw [hd], ?_, ?_, ?_, ?_⟩
  all_goals exact hc _ rfl (by simp)

/-! ### The holder report (R50) -/

theorem mark_deltas_mono (c : Conditions) (i : Cond) (n : Nat) (h : c.deltas.getLsbD n = true) :
    (c.mark i).deltas.getLsbD n = true := by
  rw [Conditions.mark_deltas, getLsbD_putBit]
  split <;> simp_all

theorem setLevel_deltas_mono (i : Cond) (b : Bool) (n : Nat) (h : s.cond.deltas.getLsbD n = true) :
    (s.setLevel i b).cond.deltas.getLsbD n = true := by
  simp only [State.setLevel_cond, Conditions.setLevel]
  split
  · exact h
  · exact mark_deltas_mono _ i n h

/-- R167, R168: an evaluation that no sample causes marks nothing. -/
theorem evalAlarm_change_deltas (z : Zone) : (evalAlarm z .change s).cond.deltas = s.cond.deltas := by
  have hwarm : ∀ u, (warmTiming z .change u).cond.deltas = u.cond.deltas := fun u => by
    unfold warmTiming startAlarm stopAlarm
    dsimp only
    repeat' split
    all_goals simp
  have hcold : ∀ u, (coldTiming z .change u).cond.deltas = u.cond.deltas := fun u => by
    unfold coldTiming startAlarm stopAlarm
    dsimp only
    repeat' split
    all_goals simp
  have hd : ∀ u, warmDeassert z .change u = u := fun u => by unfold warmDeassert; split <;> simp_all
  have hc : ∀ u, coldDeassert z .change u = u := fun u => by unfold coldDeassert; split <;> simp_all
  simp [evalAlarm, hd, hc, hwarm, hcold]

/-- R166: a holder report clears no delta. -/
theorem tellHolder_deltas_mono (n : Nat) (h : s.cond.deltas.getLsbD n = true) :
    (tellHolder s).cond.deltas.getLsbD n = true := by
  have hset : ∀ b, ((tellDoors (refreshHeater s)).setLevel .serviceHold b).cond.deltas.getLsbD n = true := fun b =>
    setLevel_deltas_mono _ _ _ _ (by simpa using h)
  unfold tellHolder tellConditions
  dsimp only
  split
  · exact hset _
  · rw [evalAllAlarms, evalAlarm_change_deltas, evalAlarm_change_deltas, evalAlarm_change_deltas]
    exact hset _

/-- R167, R168: the evaluation of the three zones touches their ALM counters alone. -/
theorem evalAllAlarms_counter (j : CounterId) (hj : ∀ z, j ≠ .alm z) : (evalAllAlarms s).counter j = s.counter j := by
  unfold evalAllAlarms
  rw [evalAlarm_counter _ _ _ _ (hj _), evalAlarm_counter _ _ _ _ (hj _), evalAlarm_counter _ _ _ _ (hj _)]

theorem tellHolder_counter (j : CounterId) (hj : ∀ z, j ≠ .alm z) : (tellHolder s).counter j = s.counter j := by
  have hd : (tellDoors (refreshHeater s)).counter j = s.counter j := by simp [State.counter]
  unfold tellHolder tellConditions
  dsimp only
  split
  · exact hd
  · rw [evalAllAlarms_counter _ _ hj]
    exact hd

/-- R132: the heater drive follows the holder. -/
theorem tellHolder_defr : (tellHolder s).defr = { s.defr with heaterDrive := s.heaterWanted } := by
  simp [tellHolder]

theorem tellHolder_sequencer : SequencerSame s (tellHolder s) := ⟨_, _, tellHolder_defr s⟩

/-- R148: a report that the path is free leaves the doors. -/
theorem tellHolder_doors (h : s.arb.holder.isFree = true) : (tellHolder s).doors = s.doors := by
  have hd : (tellDoors (refreshHeater s)).doors = s.doors := by
    unfold tellDoors
    split
    · next hh => simp_all [Holder.isFree]
    · next hh => simp_all [Holder.isFree]
    · rfl
  simpa [tellHolder] using hd

theorem tellHolder_same : PathSame s (tellHolder s) := by
  have hc := tellHolder_counter s
  have hd := tellHolder_defr s
  exact ⟨by simp, hc _ (by simp), hc _ (by simp), by simp, by rw [hd], by simp, by simp, hc _ (by simp), hc _ (by simp),
    hc _ (by simp)⟩

/-- R50, R122, R144: a report that no claim answers. -/
theorem report_of_no_claim (hdoor : s.doors.pause ≠ .deferred) (hphase : s.defr.phase ≠ .pending)
    (hfree : s.arb.holder.isFree = true) : report s = tellHolder s := by
  have h1 : (tellHolder s).doorReclaims = false := by simp [State.doorReclaims, tellHolder_doors s hfree, hdoor]
  have h2 : (tellHolder s).defrostReclaims = false := by simp [State.defrostReclaims, tellHolder_defr, hphase]
  unfold report
  simp [h1, h2]

/-! ### Arbitration and the holder report after it -/

/-- R50, R58: arbitration runs, and the blocks that follow the holder are told of it. -/
def State.settledPath (s : State) : State := tellHolder (arbitrate s)

theorem settledPath_arb : s.settledPath.arb = (arbitrate s).arb := by simp [State.settledPath]

theorem settledPath_arbitrated (hs : SettingsLaw s) : Arbitrated s s.settledPath := by
  have hsame := tellHolder_same (arbitrate s)
  have hout : ∀ {f c n d}, OutputsGiven f c n d s (arbitrate s) → OutputsGiven f c n d s s.settledPath :=
    fun h => h.of_after hsame
  have hdelta : ∀ n, (arbitrate s).cond.deltas.getLsbD n = true → s.settledPath.cond.deltas.getLsbD n = true :=
    fun n => tellHolder_deltas_mono _ n
  have hcount : ∀ j : CounterId, (∀ z, j ≠ .alm z) → s.settledPath.counter j = (arbitrate s).counter j :=
    tellHolder_counter _
  have hdamper : ∀ d, s.settledPath.damper d = (arbitrate s).damper d := fun d => by
    simp [State.damper, State.settledPath]
  refine ⟨fun h plan hplan => ?_, fun z h plan route fixed serving hplan hroute hfixed hserving => ?_⟩
  · obtain ⟨hbit, harb, ho, hf, hd⟩ := arbitrate_idle s hs h plan hplan
    obtain ⟨ho, hf, hd⟩ := hout ⟨ho, hf, hd⟩
    exact ⟨fun hp => hdelta _ (hbit hp), (settledPath_arb s).trans harb, ho, hf, hd⟩
  · rw [hdamper, hdamper] at hserving
    obtain ⟨hbit, harb, hw, hrun, hc, hr, ho, hf, hd⟩ :=
      arbitrate_grants s hs h plan route fixed serving hplan hroute hfixed hserving
    obtain ⟨ho, hf, hd⟩ := hout ⟨ho, hf, hd⟩
    rw [← hcount _ (by simp)] at hw hrun hc hr
    exact ⟨fun hp => hdelta _ (hbit hp), (settledPath_arb s).trans harb, hw, hrun, hc, hr, ho, hf, hd⟩

theorem settledPath_pathOnly : PathOnly s s.settledPath := by
  obtain ⟨hset, hz, hsc, hl, hdo, hp, hf, hr, hgap, hrs, hph, hpa⟩ := arbitrate_pathOnly s
  have hd := tellHolder_defr (arbitrate s)
  have hdoors := tellHolder_doors (arbitrate s) (arbitrate_isFree s)
  have hcount : ∀ j : CounterId, (∀ z, j ≠ .alm z) → s.settledPath.counter j = (arbitrate s).counter j :=
    tellHolder_counter _
  unfold State.settledPath at *
  refine ⟨by simp, by simp, by simp, by simp, hdoors.trans hdo, by rw [hd]; exact hp, by rw [hd]; exact hf,
    by rw [hd]; exact hr, ?_, ?_, ?_, ?_⟩
  · exact (hcount _ (by simp)).trans hgap
  · exact (hcount _ (by simp)).trans hrs
  · exact (hcount _ (by simp)).trans hph
  · exact (hcount _ (by simp)).trans hpa

theorem settledPath_own (hs : SettingsLaw s) : s.settledPath.own = s.own := by
  unfold State.settledPath
  rw [tellHolder_own _ (hs.congr (by simp)), arbitrate_own _ hs]

theorem settledPath_counter (j : CounterId) (hw : ∀ z, s.choice = some z → j ≠ .wait z) (hj : j.onPath = false)
    (ha : ∀ z, j ≠ .alm z) : s.settledPath.counter j = s.counter j :=
  (tellHolder_counter _ j ha).trans (arbitrate_counter s j hw hj)

/-- R50, R58: with no claim waiting, arbitration is all that an event of the path leads to. -/
theorem report_arbitrate (h : NoClaimWaits s) : report (arbitrate s) = s.settledPath := by
  obtain ⟨-, -, -, -, hdo, hp, -⟩ := arbitrate_pathOnly s
  exact report_of_no_claim _ (by rw [hdo]; exact h.1) (by rw [hp]; exact h.2) (arbitrate_isFree s)

/-! ### The end of a slot (R56) -/

/-- R153, R155: a start of a counter that is no one-shot signals nothing. -/
theorem State.startC_eq_of_not_oneShot (i : CounterId) (hm : i.mode ≠ .oneShot) :
    s.startC i = s.onCounter i (Counter.start i.mode) := by
  simp [State.startC, hm]

/-- R156: WAIT cleared and started runs from 0. -/
theorem clear_start_wait (z : Zone) :
    (s.clearC (.wait z)).startC (.wait z) =
      s.setCounter (.wait z) { s.counter (.wait z) with run := true, count := 0, saturated := false, part := 0 } := by
  rw [State.startC_eq_of_not_oneShot _ _ (by simp [CounterId.mode])]
  unfold State.clearC State.onCounter
  rw [State.counter_setCounter_self, State.setCounter_setCounter]
  unfold Counter.clear Counter.start
  cases (s.counter (.wait z)).run <;> simp [CounterId.mode]

/-- R21, R56: the end of a slot that holds the path leaves the state that arbitration reads. -/
theorem endSlot_eq_slotGone (z : Zone) (full : Bool) :
    endSlot z full (setHolder .nobody s) = State.slotGone z (if full then some z else none) s := by
  have hw : ((setHolder .nobody s).stopC .slot).counter (.wait z) = s.counter (.wait z) :=
    State.counter_stopC_of_ne _ _ _ (by simp)
  have hz : ∀ f, (State.onArb f (((setHolder .nobody s).stopC .slot).setCounter (.wait z)
      { s.counter (.wait z) with run := true, count := 0, saturated := false, part := 0 })).zone z = s.zone z :=
    fun _ => State.zone_congr (by simp) z
  unfold endSlot State.slotGone
  dsimp only
  rw [clear_start_wait, hw, hz]
  split <;> simp only [State.onZone, hz] <;> rfl

end

end Sys2Proof.Machine

/-! The claims of the path (R66, R67): the door pause's (R143) and the defrost's with its first phase (R122 to R126). -/

namespace Sys2Proof.Machine

section

variable (s : State)

/-! ### The frame of an interrupted slot (R67) -/

/-- R67: the stack after a claim with `mask` that finds the path free. -/
def State.framed (s : State) (mask : Nat) : List SuspFrame :=
  (match s.arb.holder with
    | .slot r =>
      [.slot mask r.zone r.phase r.fixed (s.counter .slot).count (if mask % 2 = 1 then some r.route else none)]
    | _ => []) ++ s.arb.stack

theorem pushFrame_framed (mask : Nat) (h : s.arb.holder.isFree = true) :
    (pushFrame mask s).arb = { s.arb with stack := s.framed mask } := by
  unfold pushFrame State.framed
  cases hh : s.arb.holder with
  | slot r => simp [maskHasRoute, State.stopC]
  | nobody => simp
  | _ => simp [hh, Holder.isFree] at h

theorem pushFrame_counter (mask : Nat) (j : CounterId) (hj : j ≠ .slot) :
    (pushFrame mask s).counter j = s.counter j := by
  have harb : ∀ f u, (State.onArb f u).counter j = u.counter j := fun _ _ => rfl
  unfold pushFrame
  split <;> simp [harb, hj]

/-- R67: a slot's frame keeps the count that SLOT stops at. -/
theorem pushFrame_slotCounter (mask : Nat) (h : s.arb.holder.isFree = true) (hn : s.arb.holder ≠ .nobody) :
    ((pushFrame mask s).counter .slot).run = false ∧
      ((pushFrame mask s).counter .slot).count = (s.counter .slot).count := by
  have harb : ∀ f u, (State.onArb f u).counter .slot = u.counter .slot := fun _ _ => rfl
  unfold pushFrame
  cases hh : s.arb.holder with
  | slot r => simp [harb]
  | nobody => exact absurd hh hn
  | _ => simp [hh, Holder.isFree] at h

/-- The state in which a claim that finds the path free puts the new holder. -/
def State.claimed (s : State) (h : Holder) (mask : Nat) : State := setHolder h (pushFrame mask s)

theorem claimed_arb (h : Holder) (mask : Nat) (hf : s.arb.holder.isFree = true) :
    (s.claimed h mask).arb = { s.arb with holder := h, stack := s.framed mask } := by
  simp [State.claimed, pushFrame_framed s mask hf]

theorem claimed_counter (h : Holder) (mask : Nat) (j : CounterId) (hj : j ≠ .slot) :
    (s.claimed h mask).counter j = s.counter j := pushFrame_counter s mask j hj

theorem claimed_same (h : Holder) (mask : Nat) : PathSame s (s.claimed h mask) := by
  have hc := claimed_counter s h mask
  exact ⟨by simp [State.claimed], hc _ (by decide), hc _ (by decide), by simp [State.claimed], by simp [State.claimed],
    by simp [State.claimed], by simp [State.claimed], hc _ (by decide), hc _ (by decide), hc _ (by decide)⟩

/-! ### The door pause's claim (R143) -/

theorem tellHolder_doors_of_held_door (h : s.arb.holder = .door) (hp : s.doors.pause = .held) :
    (tellHolder s).doors = s.doors := by
  have hd : (tellDoors (refreshHeater s)).doors = s.doors := by simp [tellDoors, h, hp]
  simpa [tellHolder] using hd

/-- The state in which the claim of the door pause gives its outputs. -/
def State.doorTaken (s : State) : State :=
  (({ s.claimed .door (s.effN (.saveMask .door)) with doors := { s.doors with pause := .held } } : State).restartC .pause
    (s.effN .doorPauseMax)).stopC .settle

theorem claimDoor_eq : claimDoor s = tellHolder (giveDemand (.auto none) (requestFan 0 s.doorTaken)) := by
  have hn : ∀ u, State.settings u = s.settings → u.effN .doorPauseMax = s.effN .doorPauseMax :=
    fun u hu => State.effN_congr hu _
  unfold claimDoor
  dsimp only
  rw [hn _ (by simp)]
  simp [State.doorTaken, State.claimed, giveDoorOutputs]

theorem doorTaken_counter (j : CounterId) (hs : j ≠ .slot) (hp : j ≠ .pause) (ht : j ≠ .settle) :
    s.doorTaken.counter j = s.counter j := by
  unfold State.doorTaken
  rw [State.counter_stopC_of_ne _ _ _ ht, State.counter_restartC_of_ne _ _ _ _ hp]
  exact claimed_counter s .door _ j hs

theorem doorTaken_arb (hf : s.arb.holder.isFree = true) :
    s.doorTaken.arb = { s.arb with holder := .door, stack := s.framed (s.effN (.saveMask .door)) } := by
  rw [← claimed_arb s .door _ hf]
  simp [State.doorTaken]

theorem doorTaken_pause (hs : SettingsLaw s) :
    s.doorTaken.counter .pause = (s.counter .pause).timing (s.effN .doorPauseMax) := by
  unfold State.doorTaken
  rw [State.counter_stopC_of_ne _ _ _ (by decide), State.counter_restartC_self _ _ _ hs.lengths.2.2.2.1 (by decide)]
  exact congrArg (Counter.timing _) (claimed_counter s .door _ .pause (by decide))

theorem doorTaken_slot : s.doorTaken.counter .slot = (pushFrame (s.effN (.saveMask .door)) s).counter .slot := by
  unfold State.doorTaken
  rw [State.counter_stopC_of_ne _ _ _ (by decide), State.counter_restartC_of_ne _ _ _ _ (by decide)]
  rfl

theorem doorTaken_same : PathSame s s.doorTaken := by
  have hc := doorTaken_counter s
  refine ⟨?_, hc _ (by decide) (by decide) (by decide), hc _ (by decide) (by decide) (by decide), ?_, ?_, ?_, ?_,
    hc _ (by decide) (by decide) (by decide), hc _ (by decide) (by decide) (by decide),
    hc _ (by decide) (by decide) (by decide)⟩
  all_goals simp [State.doorTaken, State.claimed]

/-- R143: beside the doors' own counters a claim touches those of the outputs and the alarms. -/
theorem claimDoor_counter (j : CounterId) (ha : ∀ z, j ≠ .alm z) (hj : j.onPath = false ∨ j = .slot) :
    (claimDoor s).counter j = s.doorTaken.counter j := by
  have hne : ∀ i : CounterId, i.onPath = true → i ≠ .slot → j ≠ i := fun i hi hn h => by
    subst h; simp_all
  rw [claimDoor_eq, tellHolder_counter _ _ ha,
    giveDemand_counter _ _ _ (hne _ rfl (by decide)) (hne _ rfl (by decide)) (hne _ rfl (by decide)),
    requestFan_counter _ _ _ (hne _ rfl (by decide)) (hne _ rfl (by decide))]

theorem claimDoor_sequencer : SequencerSame s (claimDoor s) := by
  rw [claimDoor_eq]
  refine .trans ?_ (tellHolder_sequencer _)
  exact (SequencerSame.of_eq (by simp [State.doorTaken, State.claimed])).trans (giveDemand_defr _ _)

/-- R49: the outputs of DOOR. -/
theorem claimDoor_outputs (hs : SettingsLaw s) :
    (claimDoor s).air.dampers = s.air.dampers ∧ FanAsked 0 s (claimDoor s) ∧ DemandTaken (.auto none) s (claimDoor s) := by
  have hsame := doorTaken_same s
  have htaken : SettingsLaw s.doorTaken := hs.congr hsame.drive.settings
  have htell := tellHolder_same (giveDemand (.auto none) (requestFan 0 s.doorTaken))
  have hfan := ((requestFan_asked s.doorTaken 0).of_after (giveDemand_fanSame (.auto none) _)).of_before hsame.fan
  have hdemand := ((giveDemand_taken (requestFan 0 s.doorTaken) (.auto none) (htaken.congr (by simp))).of_before
    (requestFan_driveSame 0 _)).of_before hsame.drive
  rw [claimDoor_eq]
  refine ⟨by simp [hsame.air], hfan.of_after htell.fan, ?_⟩
  exact hdemand.of_after htell.drive.comp htell.drive.known htell.drive.guard htell.drive.ramp htell.drive.condrun

/-- R66, R67, R143: the claim of a door pause that finds the path free. -/
theorem claimDoor_claimed (hs : SettingsLaw s) (hf : s.arb.holder.isFree = true) : DoorClaimed s (claimDoor s) := by
  have hcount := claimDoor_counter s
  have harb : (giveDemand (.auto none) (requestFan 0 s.doorTaken)).arb =
      { s.arb with holder := .door, stack := s.framed (s.effN (.saveMask .door)) } := by
    simpa using doorTaken_arb s hf
  have hdoors : (giveDemand (.auto none) (requestFan 0 s.doorTaken)).doors = { s.doors with pause := .held } := by
    simp [State.doorTaken]
  obtain ⟨hdampers, hfan, hdemand⟩ := claimDoor_outputs s hs
  obtain ⟨st, on, hd⟩ := claimDoor_sequencer s
  refine ⟨?_, ?_, ?_, ?_, fun hn => ?_, hdampers, hfan, hdemand, by rw [hd], by rw [hd], by simp, by simp, by simp,
    by simp⟩
  · rw [claimDoor_eq, (tellHolder_keeps _).2.2.2.2.1, harb]
    rfl
  · rw [claimDoor_eq, tellHolder_doors_of_held_door _ (by rw [harb]) (by rw [hdoors]), hdoors]
  · rw [hcount _ (by simp) (.inl rfl), doorTaken_pause s hs]
  · rw [hcount _ (by simp) (.inl rfl), State.doorTaken, State.counter_stopC_self]
    exact Counter.stop_run _
  · rw [hcount _ (by simp) (.inr rfl), doorTaken_slot]
    exact pushFrame_slotCounter s _ hf hn

theorem claimDoor_own (hs : SettingsLaw s) : (claimDoor s).own = s.own := by
  have htaken : SettingsLaw s.doorTaken := hs.congr (doorTaken_same s).drive.settings
  rw [claimDoor_eq, tellHolder_own _ (htaken.congr (by simp)), giveDemand_own _ _ (htaken.congr (by simp)), requestFan_own,
    State.doorTaken, (State.stopC_keeps _ _).2.2.2.2.2.2.2.2.2.2.2, State.restartC_own _ _ _ hs.lengths.2.2.2.1]
  simp [State.claimed]

end

end Sys2Proof.Machine

/-! The claim of the defrost and its first phase (R122 to R126), and the claims that a holder report leads to (R50, R122,
R144). -/

namespace Sys2Proof.Machine

section

variable (s : State)

/-! ### Outputs that stop the cold (R123) -/

theorem giveStopOutputs_outputs (hs : SettingsLaw s) : OutputsGiven 0 0 0 .stop s (giveStopOutputs s) :=
  outputs_of_row s 0 0 0 .stop hs

@[simp] theorem startComp_demand (n : Nat) : (startComp n s).comp.demand = s.comp.demand := by simp [startComp]

@[simp] theorem stopComp_demand : (stopComp s).comp.demand = s.comp.demand := by simp [stopComp, beginPostRun]

@[simp] theorem giveDemand_demand (d : Demand) : (giveDemand d s).comp.demand = d := by
  rcases giveDemand_cases s d with ⟨f, hf, he⟩ | ⟨n, he⟩ | he <;> rw [he]
  · exact (hf _).2
  · rw [startComp_demand]; rfl
  · rw [stopComp_demand]; rfl

/-- Outputs that stop the cold are given already, and the compressor has stopped. -/
def State.coldStopped (s : State) : Prop :=
  (∀ d, (s.damper d).target = 0) ∧
    (s.air.fan.requested = 0 ∧ s.air.fan.state ≠ .kick ∧ s.air.fan.state ≠ .run) ∧ s.comp.demand = .stop ∧
    s.comp.state ≠ .running

theorem giveOpenings_of_target {v : Nat} (h : ∀ d, (s.damper d).target = stepsOf v) : giveOpenings v v s = s := by
  have hgive : ∀ d, (s.damper d).give (stepsOf v) = s.damper d := fun d => DamperRec.give_of_target _ _ (h d).symm
  have ht : ∀ d, giveTarget d (stepsOf v) s = s := fun d => by
    show { s with air := { s.air with dampers := s.air.dampers.set d ((s.damper d).give (stepsOf v)) } } = s
    rw [hgive]
    simp [State.damper]
  unfold giveOpenings
  rw [ht, ht]

/-- R93, R101, R123: outputs that stop the cold, given a second time, change nothing. -/
theorem giveStopOutputs_of_coldStopped (h : s.coldStopped) : giveStopOutputs s = s := by
  obtain ⟨hdamper, ⟨hreq, hkick, hrun⟩, hdemand, hstate⟩ := h
  have hcomp : { s.comp with demand := .stop } = s.comp := by rw [← hdemand]
  unfold giveStopOutputs
  rw [giveOpenings_of_target s (v := 0) hdamper, requestFan_zero_again s hreq hkick hrun,
    giveDemand_stop_of_not_running s hstate, State.onComp, hcomp]

theorem giveStopOutputs_coldStopped (hk : s.defr.compState = s.comp.state)
    (hr : (giveStopOutputs s).compRunning = false) : (giveStopOutputs s).coldStopped := by
  have hknown : (giveStopOutputs s).defr.compState = (giveStopOutputs s).comp.state :=
    giveDemand_known _ _ (by simpa using hk)
  refine ⟨fun d => ?_, ?_, by simp [giveStopOutputs], ?_⟩
  · have : (giveStopOutputs s).damper d = (s.damper d).give 0 := by
      cases d <;> simp [State.damper, giveStopOutputs] <;> rfl
    rw [this, DamperRec.give_target]
  · have hfan : (giveStopOutputs s).air.fan = (s.air.fan).asked 0 := by
      simp [giveStopOutputs, (requestFan_asked _ 0).1]
    rw [hfan]
    exact Fan.asked_zero _
  · simpa [State.compRunning, hknown] using hr

theorem giveStopOutputs_sequencer : SequencerSame s (giveStopOutputs s) :=
  (SequencerSame.of_eq (by simp)).trans (giveDemand_defr _ _)

theorem giveStopOutputs_known (h : s.defr.compState = s.comp.state) :
    (giveStopOutputs s).defr.compState = (giveStopOutputs s).comp.state :=
  giveDemand_known _ _ (by simpa using h)

/-- The counters of the outputs without SLOT. -/
theorem giveStopOutputs_counter (j : CounterId) (hj : j.onPath = false ∨ j = .slot) :
    (giveStopOutputs s).counter j = s.counter j := by
  have hne : ∀ i : CounterId, i.onPath = true → i ≠ .slot → j ≠ i := fun i hi hn h => by
    subst h; simp_all
  unfold giveStopOutputs
  rw [giveDemand_counter _ _ _ (hne _ rfl (by decide)) (hne _ rfl (by decide)) (hne _ rfl (by decide)),
    requestFan_counter _ _ _ (hne _ rfl (by decide)) (hne _ rfl (by decide)), giveOpenings_counter]

/-! ### The phases at a claim (R123 to R126) -/

theorem setPhase_same (p : DefrostPhase) : PathSame s (setPhase p s) :=
  .of_bank (by simp) (by simp) (by simp) rfl (by simp) (by simp)

theorem setPhase_counter (p : DefrostPhase) (j : CounterId) : (setPhase p s).counter j = s.counter j := by
  simp [State.counter]

/-- F and the counters that no phase and no output touches stand as they did. -/
def FrostKept (s t : State) : Prop :=
  t.defr.frost = s.defr.frost ∧
    ∀ j : CounterId, j ≠ .phase → (j.onPath = false ∨ j = .slot) → t.counter j = s.counter j

variable {s} in
theorem FrostKept.trans {t u : State} (h : FrostKept s t) (k : FrostKept t u) : FrostKept s u :=
  ⟨k.1.trans h.1, fun j hj hp => (k.2 j hj hp).trans (h.2 j hj hp)⟩

theorem giveStopOutputs_frostKept : FrostKept s (giveStopOutputs s) := by
  obtain ⟨st, on, hd⟩ := giveStopOutputs_sequencer s
  exact ⟨by rw [hd], fun j _ hj => giveStopOutputs_counter s j hj⟩

theorem setPhase_frostKept (p : DefrostPhase) : FrostKept s (setPhase p s) := ⟨rfl, fun j _ _ => setPhase_counter s p j⟩

theorem enterHeat_frostKept : FrostKept s (enterHeat s) := by
  unfold enterHeat
  dsimp only
  refine .trans ?_ (giveStopOutputs_frostKept _)
  refine .trans ?_ (setPhase_frostKept _ _)
  exact ⟨by simp, fun j hj _ => State.counter_restartC_of_ne _ _ _ _ hj⟩

theorem continueHeat_frostKept : FrostKept s (continueHeat s) := by
  have hstart : ∀ u : State, FrostKept u (u.startC .phase) := fun u =>
    ⟨by simp, fun j hj _ => State.counter_startC_of_ne _ _ _ hj⟩
  unfold continueHeat
  refine .trans ?_ (hstart _)
  refine .trans ?_ (giveStopOutputs_frostKept _)
  refine .trans ?_ (setPhase_frostKept _ _)
  exact ⟨rfl, fun _ _ _ => rfl⟩

theorem enterStopWait_frostKept : FrostKept s (enterStopWait s) := by
  unfold enterStopWait endStopWait
  dsimp only
  refine .trans ((setPhase_frostKept s .stopWait).trans (giveStopOutputs_frostKept _)) ?_
  split
  · exact ⟨rfl, fun _ _ _ => rfl⟩
  · split
    · exact continueHeat_frostKept _
    · exact enterHeat_frostKept _

/-- R124: PRE_CHILL times PRECHILL_TIME. -/
def State.prechilling (s : State) : State := (setPhase .preChill s).restartC .phase (s.effN .prechillTime)

theorem prechilling_same : PathSame s s.prechilling := by
  have hc : ∀ j, j ≠ .phase → s.prechilling.counter j = s.counter j := fun j hj => by
    unfold State.prechilling
    rw [State.counter_restartC_of_ne _ _ _ _ hj, setPhase_counter]
  have hd := (setPhase_same s .preChill).drive.known
  exact ⟨by simp [State.prechilling], hc _ (by decide), hc _ (by decide), by simp [State.prechilling],
    by simpa [State.prechilling] using hd, by simp [State.prechilling], by simp [State.prechilling], hc _ (by decide),
    hc _ (by decide), hc _ (by decide)⟩

theorem enterPreChill_eq : enterPreChill s =
    giveDemand (.fixed (s.effN .nMax)) (requestFan s.arb.active.freeze.fanDuty
      (giveOpenings s.arb.active.freeze.freshOpen s.arb.active.freeze.chillOpen s.prechilling)) := by
  have harb : s.prechilling.arb = s.arb := by simp [State.prechilling]
  have hn : s.prechilling.nMax = s.effN .nMax := State.effN_congr (prechilling_same s).drive.settings .nMax
  have he : (setPhase .preChill s).effN .prechillTime = s.effN .prechillTime := State.effN_congr (by simp) _
  show givePreChillOutputs ((setPhase .preChill s).restartC .phase (s.effN .prechillTime)) = _
  unfold givePreChillOutputs
  rw [← harb, ← hn]
  rfl

theorem enterPreChill_frostKept : FrostKept s (enterPreChill s) := by
  have hne : ∀ {i j : CounterId}, (j.onPath = false ∨ j = .slot) → i.onPath = true → i ≠ .slot → j ≠ i :=
    fun hj hi hn h => by subst h; simp_all
  refine ⟨?_, fun j hj hp => ?_⟩
  · obtain ⟨st, on, hd⟩ := giveDemand_defr (requestFan s.arb.active.freeze.fanDuty
      (giveOpenings s.arb.active.freeze.freshOpen s.arb.active.freeze.chillOpen s.prechilling)) (.fixed (s.effN .nMax))
    rw [enterPreChill_eq, hd]
    simp [State.prechilling, setPhase]
  · rw [enterPreChill_eq, giveDemand_counter _ _ _ (hne hp rfl (by decide)) (hne hp rfl (by decide)) (hne hp rfl (by decide)),
      requestFan_counter _ _ _ (hne hp rfl (by decide)) (hne hp rfl (by decide)), giveOpenings_counter, State.prechilling,
      State.counter_restartC_of_ne _ _ _ _ hj, setPhase_counter]

theorem enterFirstPhase_frostKept : FrostKept s (enterFirstPhase s) := by
  unfold enterFirstPhase
  split
  · exact enterStopWait_frostKept s
  · exact enterPreChill_frostKept s

/-- R123, R124: PRE_CHILL as it is entered. -/
theorem enterPreChill_enters (hs : SettingsLaw s) (hn : s.effN .prechillTime ≠ 0) :
    (enterPreChill s).defr.phase = .preChill ∧
      (enterPreChill s).counter .phase = (s.counter .phase).timing (s.effN .prechillTime) ∧
      OutputsGiven s.arb.active.freeze.freshOpen s.arb.active.freeze.chillOpen s.arb.active.freeze.fanDuty
        (.fixed (s.effN .nMax)) s (enterPreChill s) := by
  have hset : SettingsLaw s.prechilling := hs.congr (prechilling_same s).drive.settings
  rw [enterPreChill_eq]
  refine ⟨?_, ?_, (outputs_of_row s.prechilling _ _ _ _ hset).of_before (prechilling_same s)⟩
  · obtain ⟨st, on, hd⟩ := giveDemand_defr (requestFan s.arb.active.freeze.fanDuty
      (giveOpenings s.arb.active.freeze.freshOpen s.arb.active.freeze.chillOpen s.prechilling)) (.fixed (s.effN .nMax))
    rw [hd]
    simp [State.prechilling, setPhase]
  · rw [giveDemand_counter _ _ _ (by decide) (by decide) (by decide), requestFan_counter _ _ _ (by decide) (by decide),
      giveOpenings_counter, State.prechilling, State.counter_restartC_self _ _ _ hn (by decide), setPhase_counter]

theorem enterPreChill_own (hs : SettingsLaw s) (hn : s.effN .prechillTime ≠ 0) : (enterPreChill s).own = s.own := by
  have hset : SettingsLaw s.prechilling := hs.congr (prechilling_same s).drive.settings
  rw [enterPreChill_eq, giveDemand_own _ _ (hset.congr (by simp)), requestFan_own, giveOpenings_own, State.prechilling,
    State.restartC_own _ _ _ hn]
  simp

/-- R126: HEAT has its budget, and PHASE times it. -/
def State.heating (s : State) : State :=
  (s.onDefr fun d =>
    { d with
      coilTimed := s.defr.coilLost, heatBudget := s.heatBudgetNow s.defr.coilLost, termCount := 0 }).restartC .phase
    (s.heatBudgetNow s.defr.coilLost)

theorem heatBudgetNow_ne_zero (hs : SettingsLaw s) (timed : Bool) : s.heatBudgetNow timed ≠ 0 := by
  have := hs.lengths.2.2.2.2.1
  unfold State.heatBudgetNow
  split <;> omega

/-- R126: HEAT is entered from a state whose cold has stopped. -/
theorem enterHeat_of_coldStopped (h : s.coldStopped) : enterHeat s = setPhase .heat s.heating := by
  show giveStopOutputs (setPhase .heat s.heating) = _
  apply giveStopOutputs_of_coldStopped
  obtain ⟨hdamper, hfan, hdemand, hstate⟩ := h
  have hair : (setPhase .heat s.heating).air = s.air := by simp [State.heating]
  have hcomp : (setPhase .heat s.heating).comp = s.comp := by simp [State.heating]
  exact ⟨fun d => by rw [State.damper, hair]; exact hdamper d, by rwa [hair], by rwa [hcomp], by rwa [hcomp]⟩

theorem heating_entered (hs : SettingsLaw s) : HeatEntered s (setPhase .heat s.heating) := by
  rintro budget hb
  have hb : budget = s.heatBudgetNow s.defr.coilLost := hb
  subst hb
  refine ⟨?_, ?_, ?_, ?_⟩
  case refine_4 =>
    rw [setPhase_counter, State.heating,
      State.counter_restartC_self _ _ _ (heatBudgetNow_ne_zero s hs _) (by decide)]
    rfl
  all_goals simp [State.heating, setPhase]

theorem heating_same : PathSame s (setPhase .heat s.heating) := by
  refine .trans ?_ (setPhase_same _ _)
  have hc : ∀ j, j ≠ .phase → s.heating.counter j = s.counter j := fun j hj => by
    unfold State.heating
    rw [State.counter_restartC_of_ne _ _ _ _ hj]
    rfl
  exact ⟨by simp [State.heating], hc _ (by decide), hc _ (by decide), by simp [State.heating],
    by simp [State.heating], by simp [State.heating], by simp [State.heating], hc _ (by decide), hc _ (by decide),
    hc _ (by decide)⟩

/-- R123, R125: STOP_WAIT has been entered and its outputs given. -/
def State.waiting (s : State) : State := giveStopOutputs (setPhase .stopWait s)

theorem waiting_settings : s.waiting.settings = s.settings := by simp [State.waiting]

theorem waiting_outputs (hs : SettingsLaw s) : OutputsGiven 0 0 0 .stop s s.waiting :=
  (giveStopOutputs_outputs _ (hs.congr (by simp))).of_before (setPhase_same s .stopWait)

theorem waiting_known (h : s.defr.compState = s.comp.state) : s.waiting.defr.compState = s.waiting.comp.state :=
  giveStopOutputs_known _ h

theorem waiting_own (hs : SettingsLaw s) : s.waiting.own = s.own := by
  unfold State.waiting
  rw [giveStopOutputs_own _ (hs.congr (by simp))]
  simp

theorem waiting_defr : ∃ st on, s.waiting.defr = { s.defr with phase := .stopWait, compState := st, heaterDrive := on } := by
  obtain ⟨st, on, hd⟩ := giveStopOutputs_sequencer (setPhase .stopWait s)
  exact ⟨st, on, hd⟩

theorem waiting_phase : s.waiting.counter .phase = s.counter .phase := by
  unfold State.waiting
  rw [giveStopOutputs_counter _ _ (.inl rfl), setPhase_counter]

theorem enterStopWait_of_running (h : s.waiting.compRunning = true) : enterStopWait s = s.waiting := by
  show (if s.waiting.compRunning then s.waiting else endStopWait s.waiting) = _
  rw [if_pos h]

theorem enterStopWait_of_stopped (hk : s.defr.compState = s.comp.state) (hr : s.defr.resumeHeat = false)
    (h : s.waiting.compRunning = false) : enterStopWait s = setPhase .heat s.waiting.heating := by
  obtain ⟨st, on, hd⟩ := waiting_defr s
  have hresume : s.waiting.defr.resumeHeat = false := by rw [hd]; exact hr
  show (if s.waiting.compRunning then s.waiting else endStopWait s.waiting) = _
  rw [h, endStopWait, hresume]
  exact enterHeat_of_coldStopped _ (giveStopOutputs_coldStopped _ hk h)

/-- R126: the HEAT that STOP_WAIT goes on to is the one that its entry finds. -/
theorem waiting_heat (hs : SettingsLaw s) : HeatEntered s (setPhase .heat s.waiting.heating) := by
  obtain ⟨st, on, hd⟩ := waiting_defr s
  have hbudget : ∀ b, s.waiting.heatBudgetNow b = s.heatBudgetNow b := fun b => by
    simp [State.heatBudgetNow, State.effN_congr (waiting_settings s)]
  have hlost : s.waiting.defr.coilLost = s.defr.coilLost := by rw [hd]
  intro budget hb
  have h := heating_entered s.waiting (hs.congr (waiting_settings s)) budget
    (by rw [hb, ← hlost]; exact (hbudget s.waiting.defr.coilLost).symm)
  rwa [hlost, waiting_phase] at h

/-- R123, R125, R126: STOP_WAIT, and HEAT at once where the compressor is not RUNNING then. -/
theorem enterStopWait_enters (hs : SettingsLaw s) (hk : s.defr.compState = s.comp.state) (hr : s.defr.resumeHeat = false) :
    ((enterStopWait s).defr.phase = if (enterStopWait s).comp.state = .running then .stopWait else .heat) ∧
      ((enterStopWait s).defr.phase = .heat → HeatEntered s (enterStopWait s)) ∧
      OutputsGiven 0 0 0 .stop s (enterStopWait s) := by
  have hknown := waiting_known s hk
  cases hrun : s.waiting.compRunning with
  | true =>
    obtain ⟨st, on, hd⟩ := waiting_defr s
    have hstate : s.waiting.comp.state = .running := by simpa [State.compRunning, hknown] using hrun
    have hphase : s.waiting.defr.phase = .stopWait := by rw [hd]
    rw [enterStopWait_of_running s hrun, hphase, if_pos hstate]
    exact ⟨rfl, by simp, waiting_outputs s hs⟩
  | false =>
    have hstate : s.waiting.comp.state ≠ .running := by simpa [State.compRunning, hknown] using hrun
    have hsame := heating_same s.waiting
    rw [enterStopWait_of_stopped s hk hr hrun, hsame.drive.comp, if_neg hstate]
    exact ⟨rfl, fun _ => waiting_heat s hs, (waiting_outputs s hs).of_after hsame⟩

theorem enterStopWait_own (hs : SettingsLaw s) (hr : s.defr.resumeHeat = false) : (enterStopWait s).own = s.own := by
  obtain ⟨st, on, hd⟩ := waiting_defr s
  have hresume : s.waiting.defr.resumeHeat = false := by rw [hd]; exact hr
  have hend : endStopWait s.waiting = enterHeat s.waiting := by simp [endStopWait, hresume]
  show (if s.waiting.compRunning then s.waiting else endStopWait s.waiting).own = _
  rw [hend]
  split
  · exact waiting_own s hs
  · rw [enterHeat_own _ (hs.congr (waiting_settings s)), waiting_own s hs]

/-! ### The defrost's claim (R122) -/

/-- The state in which the claim of the defrost enters its first phase. -/
def State.defrostTaken (s : State) : State :=
  (s.claimed .defrost (s.effN (.saveMask .defrost))).setLevel .defrostActive true

theorem claimDefrost_eq : claimDefrost s = tellHolder (enterFirstPhase s.defrostTaken) := rfl

theorem defrostTaken_same : PathSame s s.defrostTaken := by
  refine (claimed_same s .defrost (s.effN (.saveMask .defrost))).trans (.of_bank ?_ ?_ ?_ ?_ ?_ ?_) <;> rfl

theorem defrostTaken_defr : s.defrostTaken.defr = s.defr := by simp [State.defrostTaken, State.claimed]

theorem defrostTaken_own : s.defrostTaken.own = s.own := by simp [State.defrostTaken, State.claimed]

theorem defrostTaken_counter (j : CounterId) (hj : j ≠ .slot) : s.defrostTaken.counter j = s.counter j :=
  claimed_counter s .defrost _ j hj

theorem defrostTaken_arb (hf : s.arb.holder.isFree = true) : s.defrostTaken.arb =
    { s.arb with holder := .defrost, stack := s.framed (s.effN (.saveMask .defrost)) } :=
  claimed_arb s .defrost _ hf

/-- R122, R123: the first phase, by PRECHILL_TIME and the compressor. -/
theorem enterFirstPhase_enters (hs : SettingsLaw s) (hk : s.defr.compState = s.comp.state) :
    (s.effN .prechillTime ≠ 0 → s.defr.compState ≠ .lockout →
        (enterFirstPhase s).defr.phase = .preChill ∧
          (enterFirstPhase s).counter .phase = (s.counter .phase).timing (s.effN .prechillTime) ∧
          OutputsGiven s.arb.active.freeze.freshOpen s.arb.active.freeze.chillOpen s.arb.active.freeze.fanDuty
            (.fixed (s.effN .nMax)) s (enterFirstPhase s)) ∧
      ((s.effN .prechillTime = 0 ∨ s.defr.compState = .lockout) → s.defr.resumeHeat = false →
        ((enterFirstPhase s).defr.phase =
            if (enterFirstPhase s).comp.state = .running then .stopWait else .heat) ∧
          ((enterFirstPhase s).defr.phase = .heat → HeatEntered s (enterFirstPhase s)) ∧
          OutputsGiven 0 0 0 .stop s (enterFirstPhase s)) := by
  refine ⟨fun hn hl => ?_, fun h hr => ?_⟩
  · have he : enterFirstPhase s = enterPreChill s := if_neg (by simp [hn, hl])
    rw [he]
    exact enterPreChill_enters s hs hn
  · have he : enterFirstPhase s = enterStopWait s := if_pos h
    rw [he]
    exact enterStopWait_enters s hs hk hr

theorem enterFirstPhase_own (hs : SettingsLaw s) (hr : s.defr.resumeHeat = false) : (enterFirstPhase s).own = s.own := by
  unfold enterFirstPhase
  split
  · exact enterStopWait_own s hs hr
  · next h => exact enterPreChill_own s hs (not_or.mp h).1

theorem claimDefrost_own (hs : SettingsLaw s) (hr : s.defr.resumeHeat = false) : (claimDefrost s).own = s.own := by
  have hset : SettingsLaw s.defrostTaken := hs.congr (defrostTaken_same s).drive.settings
  rw [claimDefrost_eq, tellHolder_own _ (hset.congr (by simp)),
    enterFirstPhase_own _ hset (by rw [defrostTaken_defr, hr]), defrostTaken_own]

theorem HeatEntered.of_before {u t : State} (h : HeatEntered u t) (hd : u.defr.coilLost = s.defr.coilLost)
    (hset : u.settings = s.settings) (hp : u.counter .phase = s.counter .phase) : HeatEntered s t := by
  simpa only [HeatEntered, hd, hp, State.effN_congr hset] using h

theorem HeatEntered.of_after {u t : State} (h : HeatEntered s u) (hd : SequencerSame u t)
    (hp : t.counter .phase = u.counter .phase) : HeatEntered s t := by
  obtain ⟨st, on, hd⟩ := hd
  simpa only [HeatEntered, hd, hp] using h

/-- R148: a report that DEFROST holds leaves the doors. -/
theorem tellHolder_doors_of_defrost (h : s.arb.holder = .defrost) : (tellHolder s).doors = s.doors := by
  have hd : (tellDoors (refreshHeater s)).doors = s.doors := by
    unfold tellDoors
    split <;> simp_all
  simpa [tellHolder] using hd

/-- R66, R67, R122, R123: the claim of a defrost that finds the path free. -/
theorem claimDefrost_claimed (hs : SettingsLaw s) (hk : s.defr.compState = s.comp.state)
    (hf : s.arb.holder.isFree = true) : DefrostClaimed s (claimDefrost s) := by
  have hsame := defrostTaken_same s
  have htell := tellHolder_same (enterFirstPhase s.defrostTaken)
  have hseq := tellHolder_sequencer (enterFirstPhase s.defrostTaken)
  have hdefr := tellHolder_defr (enterFirstPhase s.defrostTaken)
  have htc := tellHolder_counter (enterFirstPhase s.defrostTaken)
  have hset : SettingsLaw s.defrostTaken := hs.congr hsame.drive.settings
  obtain ⟨hfrost, hcount⟩ := enterFirstPhase_frostKept s.defrostTaken
  obtain ⟨hpre, hstop⟩ := enterFirstPhase_enters s.defrostTaken hset (by rw [defrostTaken_defr, hsame.drive.comp, hk])
  have heff : ∀ i, s.defrostTaken.effN i = s.effN i := State.effN_congr hsame.drive.settings
  rw [heff, defrostTaken_defr, heff] at hpre
  rw [heff, defrostTaken_defr] at hstop
  have hphase := defrostTaken_counter s .phase (by decide)
  have harb := defrostTaken_arb s hf
  refine ⟨?_, ?_, ?_, fun hn => ?_, ?_, ?_, fun hn hl => ?_, fun h hr => ?_, ?_, by simp, by simp, by simp, by simp⟩
  · rw [claimDefrost_eq, (tellHolder_keeps _).2.2.2.2.1, (enterFirstPhase_keeps _).2.2.2.2.1, harb]
    rfl
  · rw [claimDefrost_eq, tellHolder_level_of_ne _ _ (by decide), State.level, (enterFirstPhase_keeps _).2.2.2.2.2.2.1]
    exact State.level_setLevel_self _ _ _
  · rw [claimDefrost_eq, hdefr]
    exact hfrost.trans (by rw [defrostTaken_defr])
  · rw [claimDefrost_eq, htc _ (by simp), hcount _ (by decide) (.inr rfl)]
    exact pushFrame_slotCounter s _ hf hn
  · rw [claimDefrost_eq, htc _ (by simp), hcount _ (by decide) (.inl rfl), defrostTaken_counter s _ (by decide)]
  · rw [claimDefrost_eq, htc _ (by simp), hcount _ (by decide) (.inl rfl), defrostTaken_counter s _ (by decide)]
  · obtain ⟨hp, hc, hout⟩ := hpre hn hl
    rw [harb] at hout
    obtain ⟨ho, hfan, hd⟩ := (hout.of_before hsame).of_after htell
    rw [claimDefrost_eq, hdefr, htc _ (by simp)]
    refine ⟨hp, ?_, by rw [hc, hphase], ho, hfan, hd⟩
    simp [State.heaterWanted, harb, hp]
  · obtain ⟨hp, hheat, hout⟩ := hstop h hr
    obtain ⟨ho, hfan, hd⟩ := (hout.of_before hsame).of_after htell
    rw [claimDefrost_eq]
    refine ⟨?_, fun hph => ?_, ho, hfan, hd⟩
    · rw [hdefr, htell.drive.comp]
      exact hp
    · rw [hdefr] at hph
      refine ((hheat hph).of_before s ?_ hsame.drive.settings hphase).of_after _ hseq (htc _ (by simp))
      rw [defrostTaken_defr]
  · rw [claimDefrost_eq, tellHolder_doors_of_defrost _ (by simp [harb])]
    simp [State.defrostTaken, State.claimed]

/-! ### The claims that a report leads to (R50, R122, R144) -/

theorem doorReclaims_iff : s.doorReclaims = true ↔ DoorClaimWaits s := by
  have hopen : s.anyOpen = true ↔ ∃ d, (s.door d).isOpen = true := by
    simp only [State.anyOpen, List.any_eq_true]
    exact ⟨fun ⟨d, _, h⟩ => ⟨d, h⟩, fun ⟨d, h⟩ => ⟨d, by cases d <;> decide, h⟩⟩
  simp [State.doorReclaims, DoorClaimWaits, hopen, and_assoc]

/-- R50: after a report that the path is free the claims that wait are made. -/
theorem report_claims (hs : SettingsLaw s) (hk : s.defr.compState = s.comp.state) (hf : s.arb.holder.isFree = true) :
    ClaimsMade (tellHolder s) (report s) := by
  have hset : SettingsLaw (tellHolder s) := hs.congr (by simp)
  have hfree : (tellHolder s).arb.holder.isFree = true := by simpa using hf
  have hknown : (tellHolder s).defr.compState = (tellHolder s).comp.state := by rw [tellHolder_defr]; simpa using hk
  have hdoor : ∀ o, DoorClaimed (tellHolder s) (claimDoor { tellHolder s with own := o }) := fun o =>
    claimDoor_claimed { tellHolder s with own := o } hset hfree
  have hdefrost : ∀ o, DefrostClaimed (tellHolder s) (claimDefrost { tellHolder s with own := o }) := fun o =>
    claimDefrost_claimed { tellHolder s with own := o } hset hknown hfree
  have hwaits := doorReclaims_iff (tellHolder s)
  have hpend : (tellHolder s).defrostReclaims = true ↔ (tellHolder s).defr.phase = .pending := by
    simp [State.defrostReclaims]
  unfold report
  dsimp only
  rw [if_pos hfree]
  cases h1 : (tellHolder s).doorReclaims <;> cases h2 : (tellHolder s).defrostReclaims <;>
    rw [h1] at hwaits <;> rw [h2] at hpend
  case true.true =>
    refine ⟨fun _ h => absurd (hpend.mp rfl) h, fun _ h => absurd (hwaits.mp rfl) h, fun _ _ => ?_,
      fun h => absurd (hpend.mp rfl) h⟩
    dsimp only
    split
    · exact .inl (hdoor _)
    · exact .inr (hdefrost _)
  case true.false =>
    have hno : ¬ (tellHolder s).defr.phase = .pending := fun h => by simpa using hpend.mpr h
    exact ⟨fun _ _ => hdoor (tellHolder s).own, fun h => absurd h hno, fun h => absurd h hno,
      fun _ h => absurd (hwaits.mp rfl) h⟩
  case false.true =>
    have hno : ¬ DoorClaimWaits (tellHolder s) := fun h => by simpa using hwaits.mpr h
    exact ⟨fun h => absurd h hno, fun _ _ => hdefrost (tellHolder s).own, fun _ h => absurd h hno,
      fun h => absurd (hpend.mp rfl) h⟩
  case false.false =>
    have hno : ¬ DoorClaimWaits (tellHolder s) := fun h => by simpa using hwaits.mpr h
    have hno' : ¬ (tellHolder s).defr.phase = .pending := fun h => by simpa using hpend.mpr h
    exact ⟨fun h => absurd h hno, fun h => absurd h hno', fun h => absurd h hno', fun _ _ => rfl⟩

/-- R155: the claims that a report leads to signal no expiry. -/
theorem report_own (hs : SettingsLaw s) (hr : s.defr.phase = .pending → s.defr.resumeHeat = false) : (report s).own.signalled = s.own.signalled := by
  have hset : SettingsLaw (tellHolder s) := hs.congr (by simp)
  have hown : (tellHolder s).own = s.own := tellHolder_own s hs
  have hdoor : ∀ o : Own, (claimDoor { tellHolder s with own := o }).own = o := fun o =>
    claimDoor_own { tellHolder s with own := o } hset
  have hdefrost : ∀ o : Own, (tellHolder s).defrostReclaims = true → (claimDefrost { tellHolder s with own := o }).own = o :=
    fun o hp => claimDefrost_own { tellHolder s with own := o } hset (by
      have hphase : s.defr.phase = .pending := by simpa [State.defrostReclaims, tellHolder_defr] using hp
      rw [tellHolder_defr]
      exact hr hphase)
  unfold report
  dsimp only
  repeat' split
  · rw [hown]
  · rw [show claimDoor (tellHolder s) = _ from rfl, hdoor (tellHolder s).own, hown]
  · rw [show claimDefrost (tellHolder s) = _ from rfl, hdefrost (tellHolder s).own (by assumption), hown]
  · rw [hdoor, hown]
  · rw [hdefrost _ (by assumption), hown]
  · rw [hown]

end

end Sys2Proof.Machine

/-! The choice of arbitration (R59) and the expiry of SLOT (R53 to R58). -/

namespace Sys2Proof.Machine

section

variable (s : State)

/-! ### The choice (R59) -/

/-- R59: the candidates are the calling zones, without the one whose full-length slot has just ended if another calls. -/
theorem mem_candidates (y : Zone) :
    y ∈ s.candidates ↔ (s.zone y).calling = true ∧ (s.arb.fullEnd = some y → ∀ x, (s.zone x).calling = true → x = y) := by
  have hall : ∀ x : Zone, x ∈ allZones := fun x => by cases x <;> decide
  unfold State.candidates
  cases hf : s.arb.fullEnd with
  | none => simp [hall]
  | some e =>
    by_cases hany : ∃ x, (s.zone x).calling = true ∧ x ≠ e
    · have hb : (allZones.filter fun z => (s.zone z).calling).any (· != e) = true := by
        simpa [hall] using hany
      obtain ⟨x, hx, hne⟩ := hany
      simp only [hb, if_true, List.mem_filter, hall, true_and, bne_iff_ne, Option.some.injEq, and_congr_right_iff]
      refine fun _ => ⟨fun h he => absurd he.symm h, fun h he => hne ?_⟩
      rw [← he]
      exact h he.symm x hx
    · have hb : (allZones.filter fun z => (s.zone z).calling).any (· != e) = false := by
        rw [Bool.eq_false_iff]
        intro h
        exact hany (by simpa [hall] using h)
      simp only [hb, if_false, Bool.false_eq_true, List.mem_filter, hall, true_and, Option.some.injEq]
      refine ⟨fun h => ⟨h, fun he x hx => ?_⟩, fun h => h.1⟩
      by_contra hne
      exact hany ⟨x, hx, he ▸ hne⟩

theorem foldl_max_mem (pool : List Zone) (key : Zone → Nat) (n : Nat) :
    pool.foldl (fun m z => max m (key z)) n = n ∨ ∃ z ∈ pool, pool.foldl (fun m z => max m (key z)) n = key z := by
  induction pool generalizing n with
  | nil => exact .inl rfl
  | cons y rest ih =>
    rcases ih (max n (key y)) with h | ⟨z, hz, h⟩
    · rw [List.foldl_cons, h]
      rcases le_total n (key y) with hle | hle
      · exact .inr ⟨y, List.mem_cons_self, max_eq_right hle⟩
      · exact .inl (max_eq_left hle)
    · exact .inr ⟨z, List.mem_cons_of_mem _ hz, h⟩

theorem le_foldl_max (pool : List Zone) (key : Zone → Nat) (n : Nat) :
    n ≤ pool.foldl (fun m z => max m (key z)) n := by
  induction pool generalizing n with
  | nil => exact le_rfl
  | cons y rest ih => exact (le_max_left _ _).trans (ih _)

/-- R59: a pool with a zone has one with the greatest key. -/
theorem pickGreatest_isSome (last : Zone) (pool : List Zone) (key : Zone → Nat) (h : pool ≠ []) :
    ∃ z, pickGreatest last pool key = some z := by
  have hzones : ∀ z, z ∈ [zoneAfter last, zoneAfter (zoneAfter last), last] := fun z => by
    cases last <;> cases z <;> decide
  obtain ⟨z, hz, hk⟩ : ∃ z ∈ pool, key z = pool.foldl (fun m z => max m (key z)) 0 := by
    rcases foldl_max_mem pool key 0 with hzero | ⟨z, hz, hk⟩
    · obtain ⟨z, hz⟩ := List.exists_mem_of_ne_nil pool h
      refine ⟨z, hz, ?_⟩
      have hle : ∀ (l : List Zone) n, z ∈ l → key z ≤ l.foldl (fun m z => max m (key z)) n := by
        intro l
        induction l with
        | nil => simp
        | cons y rest ih =>
          intro n hm
          rcases List.mem_cons.mp hm with rfl | hm
          · exact (le_max_right _ _).trans (le_foldl_max _ _ _)
          · exact ih _ hm
      have := hle pool 0 hz
      omega
    · exact ⟨z, hz, hk.symm⟩
  have hsome : (pickGreatest last pool key).isSome = true := by
    unfold pickGreatest
    rw [List.find?_isSome]
    exact ⟨z, hzones z, by simp [hz, hk]⟩
  exact Option.isSome_iff_exists.mp hsome

theorem pickGreatest_mem {last z : Zone} {pool : List Zone} {key : Zone → Nat} (h : pickGreatest last pool key = some z) :
    z ∈ pool := by
  have := List.find?_some h
  simp_all

/-- R59: the choice is a candidate. -/
theorem choice_mem {z : Zone} (h : s.choice = some z) : z ∈ s.candidates := by
  unfold State.choice at h
  dsimp only at h
  split at h
  · exact pickGreatest_mem h
  · exact (List.mem_filter.mp (pickGreatest_mem h)).1

/-- R59: with a candidate there is a choice. -/
theorem choice_of_candidate {y : Zone} (h : y ∈ s.candidates) : ∃ z, s.choice = some z := by
  unfold State.choice
  dsimp only
  split
  · exact pickGreatest_isSome _ _ _ (List.ne_nil_of_mem h)
  · next he => exact pickGreatest_isSome _ _ _ (by simpa using he)

/-- R59: where a zone calls one is chosen. -/
theorem choice_of_calling {y : Zone} (h : (s.zone y).calling = true) : ∃ z, s.choice = some z := by
  by_cases hother : s.arb.fullEnd = some y ∧ ∃ u, (s.zone u).calling = true ∧ u ≠ y
  · obtain ⟨hf, u, hu, hne⟩ := hother
    refine choice_of_candidate s (y := u) ((mem_candidates s u).mpr ⟨hu, fun hfu => ?_⟩)
    exact absurd (Option.some.inj (hfu.symm.trans hf)) hne
  · refine choice_of_candidate s (y := y) ((mem_candidates s y).mpr ⟨h, fun hf x hx => ?_⟩)
    by_contra hne
    exact hother ⟨hf, x, hx, hne⟩

/-- R58: nobody is chosen where nobody calls. -/
theorem choice_of_none_calling (h : ∀ y, (s.zone y).calling = false) : s.choice = none := by
  cases hc : s.choice with
  | none => rfl
  | some z => exact absurd (s.choice_calling hc) (by simp [h z])

/-! ### The ends of a slot (R53 to R56) -/

/-- R155: the state in which the expiry of SLOT takes effect. -/
def State.slotExpired (s : State) : State :=
  s.setCounter .slot { s.counter .slot with run := false, count := 0, part := 0 }

/-- R53, R54, R55: the expiry of SLOT ends the slot of `r`, at full length or not. -/
def SlotEndsFull (r : Slot) (full : Bool) (s : State) : Prop :=
  full = true ∧
      (r.phase = .extend ∨ r.fixed = true ∨ (s.zone r.zone).calling = true ∧ s.eff (.slotMax r.zone) ≤ s.eff .slotMin) ∨
    full = false ∧ r.phase = .min ∧ r.fixed = false ∧ (s.zone r.zone).calling = false

/-- R53, R54, R55: which expiries of SLOT end the slot, and how. -/
theorem onSlotExpiry_ends {r : Slot} {full : Bool} (hr : s.arb.holder = .slot r) (h : SlotEndsFull r full s) :
    onSlotExpiry s = report (endHeldSlot r.zone full s) := by
  unfold onSlotExpiry
  rw [hr]
  rcases h with ⟨rfl, h⟩ | ⟨rfl, hp, hf, hc⟩
  · rcases hp : r.phase with _ | _
    · rcases hf : r.fixed with _ | _
      · obtain ⟨hc, hle⟩ : (s.zone r.zone).calling = true ∧ s.eff (.slotMax r.zone) ≤ s.eff .slotMin := by
          simpa [hp, hf] using h
        have hext : s.extendLength r.zone = 0 := by simp only [State.extendLength]; omega
        simp [hp, hc, hext]
      · simp [hp, hf]
    · simp [hp]
  · simp [hp, hf, hc]

/-- R56: the end of a slot leaves the state `w`, in which arbitration runs. -/
theorem endHeldSlot_eq (z : Zone) (full : Bool) :
    endHeldSlot z full s = arbitrate (State.slotGone z (if full then some z else none) s) := by
  rw [endHeldSlot, endSlot_eq_slotGone]

theorem exec_slotExpiry (h : (s.counter .slot).run = true) :
    exec .slotExpiry s = .next (finish (onSlotExpiry s.slotExpired)) := by
  show Host.Outcome.next (finish (fireOneShot .slot onSlotExpiry s)) = _
  rw [fireOneShot_of_run _ _ _ h]
  rfl

/-- R21, R53 to R56: the state that arbitration reads after the expiry of SLOT has ended the slot. -/
def State.slotEnded (r : Slot) (full : Bool) (s : State) : State :=
  State.slotGone r.zone (if full then some r.zone else none) s.slotExpired

theorem slotExpired_ends {r : Slot} {full : Bool} (hr : s.arb.holder = .slot r) (h : SlotEndsFull r full s) :
    onSlotExpiry s.slotExpired = report (arbitrate (s.slotEnded r full)) := by
  have hends : SlotEndsFull r full s.slotExpired := h
  rw [onSlotExpiry_ends s.slotExpired hr hends, endHeldSlot_eq]
  rfl

theorem slotEnded_eq (r : Slot) (full : Bool) :
    s.slotEnded r full =
      { s with
        arb := { s.arb with holder := .nobody, fullEnd := if full then some r.zone else none }
        zones :=
          if (s.zone r.zone).subst = .timed then s.zones.set r.zone { s.zone r.zone with calling := false } else s.zones
        bank :=
          (s.bank.set .slot { s.counter .slot with run := false, count := 0, part := 0 }).set (.wait r.zone)
            { s.counter (.wait r.zone) with run := true, count := 0, saturated := false, part := 0 } } := by
  have hw : s.slotExpired.counter (.wait r.zone) = s.counter (.wait r.zone) :=
    State.counter_setCounter_of_ne _ _ _ _ (by simp)
  have hs : s.slotExpired.counter .slot = { s.counter .slot with run := false, count := 0, part := 0 } :=
    State.counter_setCounter_self _ _ _
  unfold State.slotEnded State.slotGone
  rw [hw, hs]
  simp only [State.slotExpired, Counter.stop, State.setCounter_bank, Bank.set_set]
  rfl

section

variable (r : Slot) (full : Bool)

theorem slotEnded_zone_of_ne (y : Zone) (h : y ≠ r.zone) : (s.slotEnded r full).zone y = s.zone y := by
  rw [slotEnded_eq]
  unfold State.zone
  dsimp only
  split
  · rw [PerZone.get_set_of_ne _ _ _ _ h]
  · rfl

theorem slotEnded_calling :
    ((s.slotEnded r full).zone r.zone).calling =
      ((s.zone r.zone).calling && decide ((s.zone r.zone).subst ≠ .timed)) := by
  rw [slotEnded_eq]
  unfold State.zone
  dsimp only
  split
  · next h => simp [h]
  · next h => simp [h]

theorem slotEnded_counter (j : CounterId) (hs : j ≠ .slot) (hw : j ≠ .wait r.zone) :
    (s.slotEnded r full).counter j = s.counter j := by
  rw [slotEnded_eq]
  simp [State.counter, Bank.get_set_of_ne _ _ _ _ hs, Bank.get_set_of_ne _ _ _ _ hw]

theorem slotEnded_wait : (s.slotEnded r full).counter (.wait r.zone) =
    { s.counter (.wait r.zone) with run := true, count := 0, saturated := false, part := 0 } := by
  rw [slotEnded_eq]
  simp [State.counter]

theorem slotEnded_slot : (s.slotEnded r full).counter .slot = { s.counter .slot with run := false, count := 0, part := 0 } := by
  rw [slotEnded_eq]
  simp [State.counter, Bank.get_set_of_ne]

end

end

end Sys2Proof.Machine

/-! The expiry of SLOT (R53 to R58), the four parts of it that are claimed. -/

namespace Sys2Proof.Machine

section

variable (s : State)

theorem Fan.asked_requested (duty : Nat) (f : Fan) : (f.asked duty).requested = duty := by
  unfold Fan.asked
  cases f.state <;> simp only <;> split <;> simp_all

/-- R81: a damper that takes a target has it. -/
theorem DamperRec.Takes.target {v : Nat} {r t : DamperRec} (h : DamperRec.Takes v r t) : t.target = v := by
  obtain ⟨hsame, hnew⟩ := h
  by_cases hv : v = r.target
  · rw [hsame hv, hv]
  · obtain ⟨hstored, hthere, hhome, hmove, hretarget, hend⟩ := hnew hv
    cases hst : r.state with
    | unhomed => rw [hstored (.inl hst)]
    | homing => rw [hstored (.inr hst)]
    | ready =>
      by_cases hp : r.position = some v
      · rw [hthere hst hp]
      · cases hdue : r.homeDue with
        | true => exact (hhome hst hp hdue).2.2.2.2.1
        | false => exact (hmove hst hp hdue).2.1
    | moving =>
      by_cases hp : r.position = some v
      · exact (hend hst hp).2.1
      · rw [hretarget hst hp]

/-- R56, R58: the step in which the expiry of SLOT ends a slot with no claim waiting. -/
theorem exec_slotExpiry_settled {r : Slot} {full : Bool} (hst : Settled s) (hs : SettingsLaw s) (hn : NoClaimWaits s)
    (hr : s.arb.holder = .slot r) (hrun : (s.counter .slot).run = true) (h : SlotEndsFull r full s) :
    exec .slotExpiry s = .next (startNote (s.slotEnded r full).settledPath) := by
  have hset : SettingsLaw (s.slotEnded r full) := hs
  obtain ⟨-, -, -, hl, -⟩ := settledPath_pathOnly (s.slotEnded r full)
  rw [exec_slotExpiry s hrun, slotExpired_ends s hr h, report_arbitrate (s.slotEnded r full) hn,
    finish_of_settled _ (hst.of_eq hl (by rw [settledPath_own _ hset]; rfl))]

/-- R53: the expiry of SLOT in MIN that begins EXTEND. -/
theorem slotExpiry_extends (r : Slot) (hst : Settled s) (hr : s.arb.holder = .slot r) (hp : r.phase = .min)
    (hf : r.fixed = false) (hc : (s.zone r.zone).calling = true) (hlt : s.eff .slotMin < s.eff (.slotMax r.zone))
    (hrun : (s.counter .slot).run = true) :
    exec .slotExpiry s =
      .next (startNote
        { s with
          arb := { s.arb with holder := .slot { r with phase := .extend } }
          bank := s.bank.set .slot ((s.counter .slot).timing (s.eff (.slotMax r.zone) - s.eff .slotMin).toNat) }) := by
  have hlen : s.slotExpired.extendLength r.zone = (s.eff (.slotMax r.zone) - s.eff .slotMin).toNat := rfl
  have hne : s.slotExpired.extendLength r.zone ≠ 0 := by rw [hlen]; omega
  have hstep : onSlotExpiry s.slotExpired =
      (setHolder (.slot { r with phase := .extend }) s.slotExpired).restartC .slot (s.slotExpired.extendLength r.zone) := by
    have hc' : (s.slotExpired.zone r.zone).calling = true := hc
    have hr' : s.slotExpired.arb.holder = .slot r := hr
    unfold onSlotExpiry
    simp [hr', hp, hf, hc', hne]
  have hcount : (setHolder (.slot { r with phase := .extend }) s.slotExpired).counter .slot =
      { s.counter .slot with run := false, count := 0, part := 0 }  := by
    show s.slotExpired.counter .slot = _
    simp [State.slotExpired]
  rw [exec_slotExpiry s hrun, hstep, State.restartC_eq _ _ _ hne (by decide), hcount, hlen, finish_of_settled]
  · simp only [State.setCounter, State.slotExpired, setHolder, State.onArb, Bank.set_set]
    rfl
  · exact hst.of_eq rfl rfl

/-! ### The choice after the end of a slot (R56, R59) -/

section

variable (r : Slot) (full : Bool)

theorem slotEnded_zones_of_not_calling (h : (s.zone r.zone).calling = false) :
    (s.slotEnded r full).zones = s.zones := by
  have hsame : ({ s.zone r.zone with calling := false } : ZoneRec) = s.zone r.zone := by rw [← h]
  rw [slotEnded_eq]
  simp only [hsame]
  split
  · exact PerZone.set_get _ _
  · rfl

theorem slotEnded_calling_of_ne (y : Zone) (h : y ≠ r.zone) :
    ((s.slotEnded r full).zone y).calling = (s.zone y).calling := by
  rw [slotEnded_zone_of_ne _ _ _ _ h]

/-- R56, R59: after a full length another calling zone is chosen. -/
theorem slotEnded_choice_other {y : Zone} (hy : y ≠ r.zone) (hc : (s.zone y).calling = true) :
    ∃ z, (s.slotEnded r true).choice = some z ∧ z ≠ r.zone ∧ (s.zone z).calling = true := by
  have hcall := slotEnded_calling_of_ne s r true
  obtain ⟨z, hz⟩ := choice_of_calling (s.slotEnded r true) (y := y) (by rw [hcall y hy, hc])
  obtain ⟨hzcall, hzfull⟩ := (mem_candidates _ z).mp (choice_mem _ hz)
  have hne : z ≠ r.zone := by
    rintro rfl
    exact hy (hzfull rfl y (by rw [hcall y hy, hc]))
  exact ⟨z, hz, hne, by rwa [hcall z hne] at hzcall⟩

variable (hothers : ∀ y, y ≠ r.zone → (s.zone y).calling = false)

include hothers

/-- R56, R59: a zone that calls alone is chosen again. -/
theorem slotEnded_choice_self (hc : (s.zone r.zone).calling = true) (ht : (s.zone r.zone).subst ≠ .timed) :
    (s.slotEnded r full).choice = some r.zone := by
  obtain ⟨z, hz⟩ := choice_of_calling (s.slotEnded r full) (y := r.zone) (by simp [slotEnded_calling, hc, ht])
  have hzr : z = r.zone := by
    by_contra hne
    have hcall := State.choice_calling _ hz
    rw [slotEnded_calling_of_ne s r full z hne, hothers z hne] at hcall
    cases hcall
  rw [hz, hzr]

/-- R21, R58: nobody is chosen where the zone has stopped calling, too. -/
theorem slotEnded_choice_none (h : (s.zone r.zone).calling = false ∨ (s.zone r.zone).subst = .timed) :
    (s.slotEnded r full).choice = none :=
  choice_of_none_calling _ fun y => by
    by_cases hy : y = r.zone
    · subst hy
      rw [slotEnded_calling]
      rcases h with h | h <;> simp [h]
    · rw [slotEnded_calling_of_ne s r full y hy, hothers y hy]

end

/-! ### The expiry -/

/-- R53, R54, R55: where no zone calls, every expiry of SLOT ends the slot. -/
theorem exists_slotEndsFull (r : Slot) (hc : (s.zone r.zone).calling = false) : ∃ full, SlotEndsFull r full s := by
  by_cases h : r.phase = .extend ∨ r.fixed = true
  · exact ⟨true, .inl ⟨rfl, h.elim .inl fun h => .inr (.inl h)⟩⟩
  · rw [not_or] at h
    refine ⟨false, .inr ⟨rfl, ?_, Bool.eq_false_of_not_eq_true h.2, hc⟩⟩
    cases hp : r.phase with
    | min => rfl
    | extend => exact absurd hp h.1

/-- R58, R60: the expiry of SLOT where no zone calls any more. -/
theorem slotExpiry_idle (r : Slot) (hst : Settled s) (hs : SettingsLaw s) (hn : NoClaimWaits s)
    (hr : s.arb.holder = .slot r) (hrun : (s.counter .slot).run = true) (hc : ∀ z, (s.zone z).calling = false)
    (hcommit : s.arb.commitPending = false) :
    ∃ t, exec .slotExpiry s = .next (startNote t) ∧
      t.arb = { s.arb with holder := .nobody, fullEnd := none } ∧
      (t.counter .slot).run = false ∧ (t.counter (.wait r.zone)).run = true ∧ (t.counter (.wait r.zone)).count = 0 ∧
      (∀ z, z ≠ r.zone → t.counter (.wait z) = s.counter (.wait z)) ∧
      t.air.fan.requested = s.arb.active.idle.fanDuty ∧
      (t.damper .fresh).target = (s.arb.active.idle.freshOpen * 480 + 50) / 100 ∧
      (t.damper .chill).target = (s.arb.active.idle.chillOpen * 480 + 50) / 100 ∧ t.comp.demand = .auto none ∧
      t.settings = s.settings ∧ t.zones = s.zones ∧ t.scanner = s.scanner ∧ t.doors = s.doors ∧ t.link = s.link := by
  obtain ⟨full, hends⟩ := exists_slotEndsFull s r (hc _)
  set w := s.slotEnded r full with hw
  have hzones : w.zones = s.zones := slotEnded_zones_of_not_calling s r full (hc _)
  have hchoice : w.choice = none := slotEnded_choice_none s r full (fun y _ => hc y) (.inl (hc _))
  have hplan : w.fullEndGone.arb.nextPlan = s.arb.active := by
    show (if s.arb.commitPending then s.arb.staged else s.arb.active) = _
    simp [hcommit]
  have hidle : w.settledPath = tellHolder (enterIdle w.fullEndGone) := by
    rw [State.settledPath, arbitrate_of_none w hchoice]
  have hcount := settledPath_counter w
  have heq := enterIdle_eq w.fullEndGone
  rw [hplan] at heq
  obtain ⟨-, -, ⟨hfresh, hchill⟩, hfan, -⟩ := (settledPath_arbitrated w hs).1 hchoice s.arb.active hplan.symm
  obtain ⟨hset, hz, hsc, hl, hdo, -⟩ := settledPath_pathOnly w
  refine ⟨w.settledPath, exec_slotExpiry_settled s hst hs hn hr hrun hends, ?_, ?_, ?_, ?_, fun z hz => ?_, ?_, ?_, ?_, ?_,
    hset, hz.trans hzones, hsc, hdo, hl⟩
  · rw [settledPath_arb, arbitrate_arb_of_none w hchoice]
    show ({ s.arb with holder := _, fullEnd := _, active := _, commitPending := _ } : Arbiter) = _
    rw [show w.arb.nextPlan = s.arb.active from hplan, ← hcommit]
  · rw [hidle, tellHolder_counter _ _ (by simp), enterIdle_slotCounter]
    exact congrArg Counter.run (slotEnded_slot s r full)
  · rw [hcount _ (by simp [hchoice]) rfl (by simp), hw, slotEnded_wait]
  · rw [hcount _ (by simp [hchoice]) rfl (by simp), hw, slotEnded_wait]
  · rw [hcount _ (by simp [hchoice]) rfl (by simp), hw, slotEnded_counter _ _ _ _ (by simp) (by simpa using hz)]
  · rw [hfan.1, Fan.asked_requested]
  · exact hfresh.target
  · exact hchill.target
  · rw [hidle, (tellHolder_same _).drive.comp, heq, giveDemand_demand]

/-- R56, R58, R59: the expiry of SLOT that ends the slot, with no claim waiting. -/
theorem slotExpiry_arbitrates (r : Slot) (full : Bool) (hst : Settled s) (hs : SettingsLaw s) (hn : NoClaimWaits s)
    (hr : s.arb.holder = .slot r) (hrun : (s.counter .slot).run = true) (hends : SlotEndsFull r full s) :
    ∃ t, exec .slotExpiry s = .next (startNote t) ∧
      ((s.slotEnded r full).choice = none → IdleEntered (s.slotEnded r full) t) ∧
      (∀ z, (s.slotEnded r full).choice = some z → SlotGranted z (s.slotEnded r full) t) ∧
      (full = true → (∃ y, y ≠ r.zone ∧ (s.zone y).calling = true) →
        ∃ q, t.arb.holder = .slot q ∧ q.zone ≠ r.zone ∧ (s.zone q.zone).calling = true ∧
          (t.counter (.wait r.zone)).run = true ∧ (t.counter (.wait r.zone)).count = 0) ∧
      ((∀ y, y ≠ r.zone → (s.zone y).calling = false) →
        ((s.zone r.zone).calling = true → (s.zone r.zone).subst ≠ .timed →
          ∃ q, t.arb.holder = .slot q ∧ q.zone = r.zone ∧ q.phase = .min) ∧
        (((s.zone r.zone).calling = false ∨ (s.zone r.zone).subst = .timed) → t.arb.holder = .nobody)) ∧
      (∀ z, z ≠ r.zone → (∀ q, t.arb.holder = .slot q → q.zone ≠ z) → t.counter (.wait z) = s.counter (.wait z)) ∧
      t.zones = (s.slotEnded r full).zones ∧ t.settings = s.settings ∧ t.scanner = s.scanner ∧ t.doors = s.doors ∧
      t.link = s.link := by
  set w := s.slotEnded r full with hw
  have hgrant : ∀ z, w.choice = some z → ∃ q, w.settledPath.arb.holder = .slot q ∧ q.zone = z ∧ q.phase = .min :=
    fun z hz => ⟨_, by rw [settledPath_arb, arbitrate_arb_of_some w hz], rfl, rfl⟩
  have hwait : ∀ z, (∀ x, w.choice = some x → z ≠ x) → w.settledPath.counter (.wait z) = w.counter (.wait z) :=
    fun z hz => settledPath_counter w _ (fun x hx => by simpa using hz x hx) rfl (by simp)
  obtain ⟨hidle, hslot⟩ := settledPath_arbitrated w hs
  obtain ⟨hset, hzones, hsc, hl, hdo, -⟩ := settledPath_pathOnly w
  refine ⟨w.settledPath, exec_slotExpiry_settled s hst hs hn hr hrun hends, hidle, hslot, ?_, fun hothers => ⟨?_, ?_⟩,
    fun z hz hq => ?_, hzones, hset, hsc, hdo, hl⟩
  · rintro rfl ⟨y, hy, hcall⟩
    obtain ⟨z, hz, hne, hzcall⟩ := slotEnded_choice_other s r hy hcall
    obtain ⟨q, hq, rfl, -⟩ := hgrant z hz
    have hcount := hwait r.zone fun x hx => by
      rw [hz] at hx
      exact Option.some.inj hx ▸ hne.symm
    rw [hcount, hw, slotEnded_wait]
    exact ⟨q, hq, hne, hzcall, rfl, rfl⟩
  · exact fun hcall hsub => hgrant r.zone (slotEnded_choice_self s r full hothers hcall hsub)
  · intro hrest
    rw [settledPath_arb, arbitrate_arb_of_none w (slotEnded_choice_none s r full hothers hrest)]
  · rw [hwait z fun x hx => ?_, hw, slotEnded_counter s r full _ (by simp) (by simpa using hz)]
    obtain ⟨q, hqh, rfl, -⟩ := hgrant x hx
    exact (hq q hqh).symm

/-- R50, R56, R58: the expiry of SLOT that ends the slot, whatever waits. -/
theorem slotExpiry_claims (r : Slot) (full : Bool) (hst : Settled s) (hs : SettingsLaw s) (hh : HeaterLaw s)
    (hres : ResumeLaw s) (hr : s.arb.holder = .slot r) (hrun : (s.counter .slot).run = true)
    (hends : SlotEndsFull r full s) :
    ∃ u t, exec .slotExpiry s = .next (startNote t) ∧ Arbitrated (s.slotEnded r full) u ∧
      PathOnly (s.slotEnded r full) u ∧ ClaimsMade u t := by
  set w := s.slotEnded r full with hw
  have hset : SettingsLaw (arbitrate w) := SettingsLaw.congr (s := w) hs (by simp)
  have hknown : (arbitrate w).defr.compState = (arbitrate w).comp.state := arbitrate_known w hh.1
  obtain ⟨-, -, -, hl, -, hp, -, hrs, -⟩ := arbitrate_pathOnly w
  have hresume : (arbitrate w).defr.phase = .pending → (arbitrate w).defr.resumeHeat = false := fun h => by
    rw [hrs]
    rw [hp] at h
    by_contra hyes
    have : w.defr.phase = .stopWait := hres (Bool.eq_true_of_not_eq_false hyes)
    rw [this] at h
    cases h
  refine ⟨w.settledPath, report (arbitrate w), ?_, settledPath_arbitrated w hs, settledPath_pathOnly w,
    report_claims _ hset hknown (arbitrate_isFree w)⟩
  rw [exec_slotExpiry s hrun, slotExpired_ends s hr hends, finish_of_settled]
  refine hst.of_eq ?_ ?_
  · rw [(report_keeps _).2.2.2.2, hl]
    rfl
  · rw [report_own _ hset hresume, arbitrate_own w hs]
    rfl

end

/-- Settles O36, part by part: EXTEND, the entry to IDLE, the arbitration after an end, and the claims that follow it. -/
theorem slotExpiryExtendsOrEnds : Obligations.SlotExpiryExtendsOrEnds := by
  unfold Obligations.SlotExpiryExtendsOrEnds
  refine ⟨fun r s => slotExpiry_extends s r, fun r s hst hs _ hn => slotExpiry_idle s r hst hs hn,
    fun r full w s hst hs hn hr hrun hends hw => ?_, fun r full w s hst hs hh hres hr hrun hends hw => ?_⟩
  · have hw : w = s.slotEnded r full := hw.trans (slotEnded_eq s r full).symm
    subst hw
    exact slotExpiry_arbitrates s r full hst hs hn hr hrun hends
  · subst hw
    exact slotExpiry_claims s r full hst hs hh hres hr hrun hends

end Sys2Proof.Machine

/-! Sample events of a zone (R12 to R23) and what a change of calling leads to (R17, R54, R58). -/

namespace Sys2Proof.Machine

section

variable (s : State) (z : Zone)

/-! ### Urgency after a change of the zone's record (R15) -/

/-- R15: the urgency that a record has in this state. -/
def State.urgencyFor (s : State) (z : Zone) (r : ZoneRec) : Nat :=
  if (r.subst = .forceCall ∨ r.subst = .timed) ∧ s.mode z ≠ .off then s.effN .uLost else urgencyOf r.debt (s.wEff z)

theorem urgencyOf_eq (debt w : Nat) : urgencyOf debt w = min 65535 (debt * w / 16) := by
  rw [urgencyOf, limitedN_eq _ _ _ (by decide), Nat.max_eq_right (Nat.zero_le _)]

/-- R15: a change of the record, and the urgency after it. -/
theorem onZone_recomputeU (f : ZoneRec → ZoneRec) :
    (s.onZone z f).recomputeU z =
      { s with zones := s.zones.set z { f (s.zone z) with urgency := s.urgencyFor z (f (s.zone z)) } } := by
  have hu : (s.onZone z f).urgencyNow z = s.urgencyFor z (f (s.zone z)) := by
    simp only [State.urgencyNow, State.zone_onZone_self]
    rfl
  unfold State.recomputeU
  rw [hu, State.onZone, State.zone_onZone_self]
  simp [State.onZone]

/-- Writing back the record that stands changes nothing. -/
theorem zones_set_same (r : ZoneRec) (h : r = s.zone z) : ({ s with zones := s.zones.set z r } : State) = s := by
  subst h
  simp [State.zone]

/-- R13: the new debt. -/
theorem debtAfter_eq (debt : Nat) (tf sEff : Int) :
    debtAfter debt tf sEff = (max 0 (min 60000 ((debt : Int) + max (-100) (min 100 (tf - sEff))))).toNat := by
  rw [debtAfter, limited_eq _ _ _ (by decide), limited_eq _ _ _ (by decide)]

/-! ### Trusted samples (R13, R14) -/

/-- R13, R14, R15: inside the band a sample changes the debt and the urgency. -/
theorem trustedSample_keep (tf : Int) (hsub : (s.zone z).subst ≠ .forceCall ∧ (s.zone z).subst ≠ .timed)
    (hstop : (s.zone z).calling = true → s.sEff z - s.eff (.hOff z) < tf)
    (hbegin : (s.zone z).calling = false → tf < s.sEff z + s.eff (.hOn z)) :
    trustedSample z tf s =
      { s with
        zones := s.zones.set z
          { s.zone z with
            debt := debtAfter (s.zone z).debt tf (s.sEff z)
            urgency := min 65535 (debtAfter (s.zone z).debt tf (s.sEff z) * s.wEff z / 16) } } := by
  have hband : bandOf (s.zone z).calling tf (s.sEff z) (s.eff (.hOn z)) (s.eff (.hOff z)) = .keep := by
    unfold bandOf
    cases hc : (s.zone z).calling
    · simp [hbegin hc]
    · simp [hstop hc]
  unfold trustedSample
  simp only [hband, onZone_recomputeU]
  simp [State.urgencyFor, hsub.1, hsub.2, urgencyOf_eq]

/-- R14, R26: at S_eff + H_ON and above a zone that does not call begins to. -/
theorem trustedSample_begins (tf : Int) (hsub : (s.zone z).subst = .absent) (hc : (s.zone z).calling = false)
    (hle : s.sEff z + s.eff (.hOn z) ≤ tf) :
    trustedSample z tf s =
      setCalling z true
        { s with
          zones := s.zones.set z
            { s.zone z with
              debt := debtAfter (s.zone z).debt tf (s.sEff z)
              urgency := min 65535 (debtAfter (s.zone z).debt tf (s.sEff z) * s.wEff z / 16) } } := by
  have hband : bandOf (s.zone z).calling tf (s.sEff z) (s.eff (.hOn z)) (s.eff (.hOff z)) = .begin_ := by
    simp [bandOf, hc, hle]
  unfold trustedSample
  simp only [hband, onZone_recomputeU]
  simp [State.urgencyFor, hsub, urgencyOf_eq]

/-- R14, R26: at S_eff − H_OFF and below a calling zone stops, with D 0 and the warm alarm armed. -/
theorem trustedSample_stops (tf : Int) (hsub : (s.zone z).subst = .absent) (hc : (s.zone z).calling = true)
    (hle : tf ≤ s.sEff z - s.eff (.hOff z)) :
    trustedSample z tf s =
      setCalling z false
        { s with zones := s.zones.set z { s.zone z with debt := 0, warmArmed := true, urgency := 0 } } := by
  have hband : bandOf (s.zone z).calling tf (s.sEff z) (s.eff (.hOn z)) (s.eff (.hOff z)) = .stop := by
    simp [bandOf, hc, hle]
  unfold trustedSample
  simp only [hband, onZone_recomputeU]
  simp [State.urgencyFor, hsub, urgencyOf_zero]

/-! ### Sample events without a trusted temperature (R12, R18 to R23) -/

/-- R12: the sample event of a zone that is not in OFF, by the channel's state. -/
theorem zoneSample_of_on (hm : s.mode z ≠ .off) :
    ((s.channel (zoneChannel z)).state = .valid →
        zoneSample z s = alarmSample z (validSample z (s.channel (zoneChannel z)).tf s)) ∧
      ((s.channel (zoneChannel z)).state = .suspect → zoneSample z s = alarmSample z s) ∧
      ((s.channel (zoneChannel z)).state = .lost →
        zoneSample z s = alarmSample z (lostSample z (s.channel (zoneChannel z)).lost s)) := by
  refine ⟨fun h => ?_, fun h => ?_, fun h => ?_⟩ <;> simp only [zoneSample, if_neg hm, h]

/-- R12, R13: a VALID sample with a temperature, of a zone that is not under a policy. -/
theorem validSample_trusted (t : Int) (h : (s.zone z).subst = .absent ∨ (s.zone z).subst = .holdWindow) :
    validSample z (some t) s =
      trustedSample z t { s with zones := s.zones.set z { s.zone z with subst := .absent } } := by
  rcases h with h | h
  · rw [zones_set_same s z _ (by rw [← h])]
    simp [validSample, h]
  · simp [validSample, h, State.onZone]

/-- R37: a VALID sample without a temperature makes no comparison. -/
theorem validSample_blank (h : (s.zone z).subst = .absent ∨ (s.zone z).subst = .holdWindow) :
    validSample z none s = { s with zones := s.zones.set z { s.zone z with subst := .absent } } := by
  rcases h with h | h
  · rw [zones_set_same s z _ (by rw [← h])]
    simp [validSample, h]
  · simp [validSample, h, State.onZone]

/-- R23: a VALID sample ends a substitution with D 0. -/
theorem validSample_ends (tf : Option Int)
    (h : (s.zone z).subst = .forceCall ∨ (s.zone z).subst = .timed ∨ (s.zone z).subst = .ignore) :
    validSample z tf s =
      { s with zones := s.zones.set z { s.zone z with subst := .absent, debt := 0, urgency := 0 } } := by
  have he : validSample z tf s = (s.onZone z fun r => { r with subst := .absent, debt := 0 }).recomputeU z := by
    rcases h with h | h | h <;> simp [validSample, h]
  rw [he, onZone_recomputeU]
  simp [State.urgencyFor, urgencyOf_zero]

/-- R18: the hold window. -/
theorem lostSample_holds (lost : Nat) (h : (s.zone z).subst = .absent ∨ (s.zone z).subst = .holdWindow)
    (hl : lost < s.effN .lossHold) :
    lostSample z lost s = { s with zones := s.zones.set z { s.zone z with subst := .holdWindow } } := by
  rcases h with h | h <;> simp [lostSample, h, hl, State.onZone]

/-- R19: the policy in force is no phase of a zone without one. -/
theorem policyOf_ne (v : Int) : policyOf v ≠ .absent ∧ policyOf v ≠ .holdWindow := by
  unfold policyOf
  split_ifs <;> simp

/-- R19: the hold is over, or the policy has changed. -/
theorem lostSample_enters (lost : Nat)
    (hl : ((s.zone z).subst = .absent ∨ (s.zone z).subst = .holdWindow) → s.effN .lossHold ≤ lost)
    (hp : (s.zone z).subst ≠ policyOf (s.eff (.lossPolicy z))) :
    lostSample z lost s = enterPolicy z (policyOf (s.eff (.lossPolicy z))) s := by
  unfold lostSample
  cases h : (s.zone z).subst with
  | absent => simp [Nat.not_lt.mpr (hl (.inl h))]
  | holdWindow => simp [Nat.not_lt.mpr (hl (.inr h))]
  | _ => simp [← h, hp]

/-- R20 to R22: the policy in force goes on. -/
theorem lostSample_same (lost : Nat) (hp : (s.zone z).subst = policyOf (s.eff (.lossPolicy z))) :
    lostSample z lost s = policySample z s := by
  obtain ⟨h1, h2⟩ := policyOf_ne (s.eff (.lossPolicy z))
  rw [← hp] at h1 h2
  unfold lostSample
  cases h : (s.zone z).subst with
  | absent => exact absurd h h1
  | holdWindow => exact absurd h h2
  | _ => simp [← hp, h]

/-- R20: FORCE_CALL is entered. -/
theorem enterPolicy_forceCall (hm : s.mode z ≠ .off) :
    enterPolicy z .forceCall s =
      setCalling z true
        { s with zones := s.zones.set z { s.zone z with subst := .forceCall, urgency := s.effN .uLost } } := by
  simp [enterPolicy, onZone_recomputeU, State.urgencyFor, hm]

/-- R21: TIMED is entered. -/
theorem enterPolicy_timed (hm : s.mode z ≠ .off) (u : State)
    (hu : u = { s with zones := s.zones.set z { s.zone z with subst := .timed, urgency := s.effN .uLost } }) :
    enterPolicy z .timed s = if s.slotOpen z then u else setCalling z (s.timedWaited z) u := by
  have he : (s.onZone z fun r => { r with subst := .timed }).recomputeU z = u := by
    rw [onZone_recomputeU, hu]
    simp [State.urgencyFor, hm]
  rw [← he]
  rfl

/-- R22: IGNORE is entered. -/
theorem enterPolicy_ignore :
    enterPolicy z .ignore s =
      setCalling z false
        { s with zones := s.zones.set z { s.zone z with subst := .ignore, debt := 0, urgency := 0 } } := rfl

/-! ### A change of calling (R17, R54, R58) -/

/-- The zone's calling put to `b`, before the Arbiter is told. -/
def State.putCalling (s : State) (z : Zone) (b : Bool) : State := s.onZone z fun r => { r with calling := b }

theorem setCalling_same (b : Bool) (h : (s.zone z).calling = b) : setCalling z b s = s := by simp [setCalling, h]

/-- R17, R52, R54: a change of calling that the Arbiter does nothing about. -/
theorem setCalling_apart (b : Bool) (h : (s.zone z).calling ≠ b) (ht : b = true → s.arb.holder ≠ .nobody)
    (hf : b = false → ∀ q, s.arb.holder = .slot q → ¬ (q.zone = z ∧ q.phase = .extend ∧ q.serving = true)) :
    setCalling z b s = s.putCalling z b := by
  have hset : setCalling z b s = if b then callingBegan (s.putCalling z b) else callingStopped z (s.putCalling z b) := by
    simp only [setCalling, if_neg h]
    rfl
  have harb : (s.putCalling z b).arb.holder = s.arb.holder := rfl
  rw [hset]
  cases b with
  | true =>
    cases hh : s.arb.holder with
    | nobody => exact absurd hh (ht rfl)
    | _ => simp [callingBegan, harb, hh]
  | false =>
    cases hh : s.arb.holder with
    | slot q => simp [callingStopped, harb, hh, hf rfl q hh]
    | _ => simp [callingStopped, harb, hh]

/-- R17, R58: a zone that begins to call while nobody holds the path. -/
theorem setCalling_begins (h : (s.zone z).calling = false) (hh : s.arb.holder = .nobody) (hn : NoClaimWaits s) :
    setCalling z true s = (s.putCalling z true).settledPath := by
  have harb : (s.putCalling z true).arb.holder = .nobody := hh
  have hset : setCalling z true s = callingBegan (s.putCalling z true) := by
    simp only [setCalling, h]
    rfl
  rw [hset, callingBegan, harb]
  exact report_arbitrate _ hn

/-- R17, R54: a zone that stops calling in EXTEND ends its own slot. -/
theorem setCalling_ends {q : Slot} (h : (s.zone z).calling = true) (hh : s.arb.holder = .slot q) (hz : q.zone = z)
    (hp : q.phase = .extend) (hq : q.serving = true) (hn : NoClaimWaits s) :
    setCalling z false s = (State.slotGone z none (s.putCalling z false)).settledPath := by
  have harb : (s.putCalling z false).arb.holder = .slot q := hh
  have hset : setCalling z false s = callingStopped z (s.putCalling z false) := by
    simp only [setCalling, h]
    rfl
  rw [hset, callingStopped, harb]
  simp only [hz, hp, hq, and_self, if_true, endHeldSlot_eq]
  exact report_arbitrate (State.slotGone z none (s.putCalling z false)) hn

theorem putCalling_zone_of_ne (b : Bool) (y : Zone) (h : y ≠ z) : (s.putCalling z b).zone y = s.zone y :=
  s.zone_onZone_of_ne z y _ h

theorem putCalling_zone_self (b : Bool) : (s.putCalling z b).zone z = { s.zone z with calling := b } :=
  s.zone_onZone_self z _

/-- R58: a zone that begins to call while nobody holds the path finds a slot granted, to itself or to another. -/
theorem setCalling_grants (h : (s.zone z).calling = false) (hh : s.arb.holder = .nobody) (hn : NoClaimWaits s) :
    ∃ q, (setCalling z true s).arb.holder = .slot q ∧ ((s.zone q.zone).calling = true ∨ q.zone = z) := by
  obtain ⟨y, hy⟩ := choice_of_calling (s.putCalling z true) (y := z) (by simp [putCalling_zone_self])
  refine ⟨_, by rw [setCalling_begins s z h hh hn, settledPath_arb, arbitrate_arb_of_some _ hy], ?_⟩
  have hcall := State.choice_calling _ hy
  by_cases hyz : y = z
  · exact .inr hyz
  · rw [putCalling_zone_of_ne _ _ _ _ hyz] at hcall
    exact .inl hcall

/-- R54, R60: the zone that stops calling in EXTEND, alone, leaves IDLE. -/
theorem setCalling_idle {q : Slot} (h : (s.zone z).calling = true) (hh : s.arb.holder = .slot q) (hz : q.zone = z)
    (hp : q.phase = .extend) (hq : q.serving = true) (hn : NoClaimWaits s)
    (ho : ∀ y, y ≠ z → (s.zone y).calling = false) :
    (setCalling z false s).zones = s.zones.set z { s.zone z with calling := false } ∧
      (setCalling z false s).arb.holder = .nobody ∧ ((setCalling z false s).counter .slot).run = false ∧
      ((setCalling z false s).counter (.wait z)).run = true ∧ ((setCalling z false s).counter (.wait z)).count = 0 := by
  set w := State.slotGone z none (s.putCalling z false) with hw
  have hzones : w.zones = s.zones.set z { s.zone z with calling := false } := by
    show (if _ then (s.putCalling z false).zones.set z _ else (s.putCalling z false).zones) = _
    rw [putCalling_zone_self]
    split <;> simp [State.putCalling, State.zone]
  have hchoice : w.choice = none := choice_of_none_calling w fun y => by
    rw [State.zone, hzones]
    by_cases hy : y = z
    · simp [hy]
    · rw [PerZone.get_set_of_ne _ _ _ _ hy]
      exact ho y hy
  have hslot : w.counter .slot = (s.counter .slot).stop := by
    simp only [hw, State.slotGone, State.counter]
    rw [Bank.get_set_of_ne _ _ _ _ (by simp), Bank.get_set_self]
    rfl
  have hwait : w.counter (.wait z) =
      { s.counter (.wait z) with run := true, count := 0, saturated := false, part := 0 } := by
    simp only [hw, State.slotGone, State.counter, Bank.get_set_self]
    rfl
  obtain ⟨-, hzs, -⟩ := settledPath_pathOnly w
  rw [setCalling_ends s z h hh hz hp hq hn, ← hw]
  refine ⟨hzs.trans hzones, by rw [settledPath_arb, arbitrate_arb_of_none w hchoice], ?_, ?_, ?_⟩
  · rw [State.settledPath, tellHolder_counter _ _ (by simp), arbitrate_of_none w hchoice, enterIdle_slotCounter]
    exact (congrArg Counter.run hslot).trans (Counter.stop_run _)
  · rw [settledPath_counter w _ (by simp [hchoice]) rfl (by simp), hwait]
  · rw [settledPath_counter w _ (by simp [hchoice]) rfl (by simp), hwait]

/-! ### The sample event by the channel and the substitution -/

/-- R12, R18 to R23: what a sample event does to a zone that is not in OFF. -/
theorem zoneSample_on {c : ChannelRec} {r : ZoneRec} (hc : c = s.channel (zoneChannel z)) (hr : r = s.zone z)
    (hm : s.mode z ≠ .off) :
    (∀ t, c.state = .valid → c.tf = some t → (r.subst = .absent ∨ r.subst = .holdWindow) →
        zoneSample z s = alarmSample z (trustedSample z t { s with zones := s.zones.set z { r with subst := .absent } })) ∧
      (c.state = .valid → c.tf = none → (r.subst = .absent ∨ r.subst = .holdWindow) →
        zoneSample z s = alarmSample z { s with zones := s.zones.set z { r with subst := .absent } }) ∧
      (c.state = .valid → (r.subst = .forceCall ∨ r.subst = .timed ∨ r.subst = .ignore) →
        zoneSample z s =
          alarmSample z { s with zones := s.zones.set z { r with subst := .absent, debt := 0, urgency := 0 } }) ∧
      (c.state = .suspect → zoneSample z s = alarmSample z s) ∧
      (c.state = .lost → (r.subst = .absent ∨ r.subst = .holdWindow) → c.lost < s.effN .lossHold →
        zoneSample z s = alarmSample z { s with zones := s.zones.set z { r with subst := .holdWindow } }) := by
  subst hc hr
  obtain ⟨hvalid, hsuspect, hlost⟩ := zoneSample_of_on s z hm
  refine ⟨fun t h ht hs => ?_, fun h ht hs => ?_, fun h hs => ?_, hsuspect, fun h hs hl => ?_⟩
  · rw [hvalid h, ht, validSample_trusted s z t hs]
  · rw [hvalid h, ht, validSample_blank s z hs]
  · rw [hvalid h, validSample_ends s z _ hs]
  · rw [hlost h, lostSample_holds s z _ hs hl]

/-- R19 to R22: what a LOST sample event does to a zone that is not in OFF, its hold being over. -/
theorem zoneSample_lost {c : ChannelRec} {r : ZoneRec} (hc : c = s.channel (zoneChannel z)) (hr : r = s.zone z)
    (hm : s.mode z ≠ .off) (hl : c.state = .lost)
    (hh : (r.subst = .absent ∨ r.subst = .holdWindow) → s.effN .lossHold ≤ c.lost) :
    (s.eff (.lossPolicy z) = 0 → r.subst ≠ .forceCall →
        zoneSample z s =
          alarmSample z (setCalling z true
            { s with zones := s.zones.set z { r with subst := .forceCall, urgency := s.effN .uLost } })) ∧
      (s.eff (.lossPolicy z) = 1 → r.subst ≠ .timed →
        (s.slotOpen z = true →
          zoneSample z s =
            alarmSample z { s with zones := s.zones.set z { r with subst := .timed, urgency := s.effN .uLost } }) ∧
        (s.slotOpen z = false →
          zoneSample z s =
            alarmSample z (setCalling z (decide (s.effN .lostPeriod ≤ (s.counter (.wait z)).count))
              { s with zones := s.zones.set z { r with subst := .timed, urgency := s.effN .uLost } }))) ∧
      (s.eff (.lossPolicy z) = 2 → r.subst ≠ .ignore →
        zoneSample z s =
          alarmSample z (setCalling z false
            { s with zones := s.zones.set z { r with subst := .ignore, debt := 0, urgency := 0 } })) ∧
      ((s.eff (.lossPolicy z) = 0 ∧ r.subst = .forceCall ∨ s.eff (.lossPolicy z) = 2 ∧ r.subst = .ignore) →
        zoneSample z s = alarmSample z s) ∧
      (s.eff (.lossPolicy z) = 1 → r.subst = .timed →
        zoneSample z s =
          alarmSample z
            (if r.calling = false ∧ s.slotOpen z = false ∧ s.effN .lostPeriod ≤ (s.counter (.wait z)).count then
              setCalling z true s
            else s)) := by
  subst hc hr
  have hzone : zoneSample z s = alarmSample z (lostSample z (s.channel (zoneChannel z)).lost s) :=
    (zoneSample_of_on s z hm).2.2 hl
  have henter : ∀ p, policyOf (s.eff (.lossPolicy z)) = p → (s.zone z).subst ≠ p →
      zoneSample z s = alarmSample z (enterPolicy z p s) := fun p hp hne => by
    subst hp
    rw [hzone, lostSample_enters s z _ hh hne]
  have hsame : policyOf (s.eff (.lossPolicy z)) = (s.zone z).subst → zoneSample z s = alarmSample z (policySample z s) :=
    fun hp => by rw [hzone, lostSample_same s z _ hp.symm]
  refine ⟨fun hp hne => ?_, fun hp hne => ⟨fun ho => ?_, fun ho => ?_⟩, fun hp hne => ?_, fun h => ?_, fun hp hsub => ?_⟩
  · rw [henter .forceCall (by simp [policyOf, hp]) hne, enterPolicy_forceCall s z hm]
  · rw [henter .timed (by simp [policyOf, hp]) hne, enterPolicy_timed s z hm _ rfl, if_pos ho]
  · rw [henter .timed (by simp [policyOf, hp]) hne, enterPolicy_timed s z hm _ rfl, if_neg (by simp [ho])]
    rfl
  · rw [henter .ignore (by simp [policyOf, hp]) hne, enterPolicy_ignore]
  · have hp : policyOf (s.eff (.lossPolicy z)) = (s.zone z).subst := by
      rcases h with ⟨hp, hsub⟩ | ⟨hp, hsub⟩ <;> simp [policyOf, hp, hsub]
    have hno : (s.zone z).subst ≠ .timed := by rcases h with ⟨-, hsub⟩ | ⟨-, hsub⟩ <;> simp [hsub]
    rw [hsame hp]
    simp [policySample, hno]
  · have hw : s.timedWaited z = true ↔ s.effN .lostPeriod ≤ (s.counter (.wait z)).count := decide_eq_true_iff
    rw [hsame (by simp [policyOf, hp, hsub])]
    simp only [policySample, hsub, true_and, hw]

/-- R9, R12: in OFF only the substitution follows the channel. -/
theorem zoneSample_off {c : ChannelRec} {r : ZoneRec} (hc : c = s.channel (zoneChannel z)) (hr : r = s.zone z)
    (hm : s.mode z = .off) :
    ∃ p, zoneSample z s = alarmSample z { s with zones := s.zones.set z { r with subst := p } } ∧
      (c.state = .valid → p = .absent) ∧ (c.state = .suspect → p = r.subst) ∧
      (c.state = .lost → (r.subst = .absent ∨ r.subst = .holdWindow) → c.lost < s.effN .lossHold → p = .holdWindow) ∧
      (c.state = .lost → ((r.subst = .absent ∨ r.subst = .holdWindow) → s.effN .lossHold ≤ c.lost) →
        (s.eff (.lossPolicy z) = 0 → p = .forceCall) ∧ (s.eff (.lossPolicy z) = 1 → p = .timed) ∧
          (s.eff (.lossPolicy z) = 2 → p = .ignore)) := by
  subst hc hr
  refine ⟨offSubst (s.zone z).subst (s.channel (zoneChannel z)).state (s.channel (zoneChannel z)).lost
    (s.effN .lossHold) (policyOf (s.eff (.lossPolicy z))), ?_, ?_, ?_, ?_, ?_⟩
  · simp only [zoneSample, if_pos hm]
    rfl
  · intro h
    simp [offSubst, h]
  · intro h
    simp [offSubst, h]
  · rintro h (hs | hs) hl <;> simp [offSubst, h, hs, hl]
  · intro h hl
    have hp : offSubst (s.zone z).subst .lost (s.channel (zoneChannel z)).lost (s.effN .lossHold)
        (policyOf (s.eff (.lossPolicy z))) = policyOf (s.eff (.lossPolicy z)) := by
      cases hs : (s.zone z).subst with
      | absent => simp [offSubst, Nat.not_lt.mpr (hl (.inl hs))]
      | holdWindow => simp [offSubst, Nat.not_lt.mpr (hl (.inr hs))]
      | _ => rfl
    rw [h, hp]
    exact ⟨fun hv => by simp [policyOf, hv], fun hv => by simp [policyOf, hv], fun hv => by simp [policyOf, hv]⟩

end

/-- Settles O34: the sample inside the band, the sample event by channel and substitution, and the hysteresis with what
a change of calling leads to. -/
theorem trustedSampleAddsTheError : Obligations.TrustedSampleAddsTheError := by
  unfold Obligations.TrustedSampleAddsTheError
  refine ⟨fun z tf s _ hsub hstop hbegin => ?_, fun z c r s hc hr => ⟨fun hm => ?_, fun hm => zoneSample_off s z hc hr hm⟩,
    fun z tf debt r s hr _ hdebt => ?_⟩
  · have hno : (s.zone z).subst ≠ .forceCall ∧ (s.zone z).subst ≠ .timed := by rcases hsub with h | h | h <;> simp [h]
    rw [trustedSample_keep s z tf hno hstop hbegin, debtAfter_eq]
  · obtain ⟨h1, h2, h3, h4, h5⟩ := zoneSample_on s z hc hr hm
    exact ⟨h1, h2, h3, h4, h5, fun hl hh => zoneSample_lost s z hc hr hm hl hh⟩
  · subst hr
    have hd : debtAfter (s.zone z).debt tf (s.sEff z) = debt := by rw [debtAfter_eq]; omega
    refine ⟨fun hsub hc hle => ?_, fun hsub hc hle => trustedSample_stops s z tf hsub hc hle, fun b => ⟨?_, ?_, ?_, ?_⟩⟩
    · rw [trustedSample_begins s z tf hsub hc hle, hd]
    · exact setCalling_same s z b
    · exact setCalling_apart s z b
    · rintro hc rfl hh hn
      refine ⟨?_, setCalling_grants s z hc hh hn⟩
      obtain ⟨-, hzones, -⟩ := settledPath_pathOnly (s.putCalling z true)
      rw [setCalling_begins s z hc hh hn, hzones]
      rfl
    · rintro q hc rfl hh hz hp hq hn ho
      exact setCalling_idle s z hc hh hz hp hq hn ho

end Sys2Proof.Machine

/-! Changes of a zone's mode (R6, R7, R8): the marks that every change leaves, and the expiry of BOOST. -/

namespace Sys2Proof.Machine

section

variable (s : State) (z : Zone) (old : Mode)

/-! ### The marks of a change of mode (R6, R16) -/

/-- R6, R16: the warm alarm disarmed and the urgency recomputed under the new mode. -/
def State.disarmed (s : State) (z : Zone) : State :=
  { s with zones := s.zones.set z { s.zone z with warmArmed := false, urgency := s.urgencyFor z (s.zone z) } }

theorem modeMarks_eq :
    modeMarks z old s =
      evalAlarm z .change (if old = .boost then (s.disarmed z).stopC (.boost z) else s.disarmed z) := by
  simp only [modeMarks, onZone_recomputeU]
  rfl

theorem modeMarks_kept :
    (modeMarks z old s).scanner = s.scanner ∧ (modeMarks z old s).arb = s.arb ∧ (modeMarks z old s).air = s.air ∧
      (modeMarks z old s).comp = s.comp ∧ (modeMarks z old s).defr = s.defr ∧ (modeMarks z old s).doors = s.doors ∧
      (modeMarks z old s).link = s.link ∧ (modeMarks z old s).settings = s.settings := by
  rw [modeMarks_eq]
  split <;> simp [State.disarmed]

theorem modeMarks_zones :
    (modeMarks z old s).zones =
      s.zones.set z { s.zone z with warmArmed := false, urgency := s.urgencyFor z (s.zone z) } := by
  rw [modeMarks_eq]
  split <;> simp [State.disarmed]

theorem modeMarks_zone_self :
    (modeMarks z old s).zone z = { s.zone z with warmArmed := false, urgency := s.urgencyFor z (s.zone z) } := by
  simp [State.zone, modeMarks_zones]

theorem modeMarks_counter (j : CounterId) (hb : j ≠ .boost z) (ha : j ≠ .alm z) :
    (modeMarks z old s).counter j = s.counter j := by
  rw [modeMarks_eq, evalAlarm_counter _ _ _ _ ha]
  split
  · rw [State.counter_stopC_of_ne _ _ _ hb]; rfl
  · rfl

/-- R8: BOOST stops where the zone leaves it. -/
theorem modeMarks_boost :
    (modeMarks z old s).counter (.boost z) = if old = .boost then (s.counter (.boost z)).stop else s.counter (.boost z) := by
  rw [modeMarks_eq, evalAlarm_counter _ _ _ _ (by simp)]
  split
  · rw [State.counter_stopC_self]; rfl
  · rfl

theorem modeMarks_own (hs : SettingsLaw s) : (modeMarks z old s).own = s.own := by
  rw [modeMarks_eq, evalAlarm_own]
  · split <;> simp [State.disarmed]
  · refine hs.congr ?_
    split <;> simp [State.disarmed]

/-- R15: the urgency that the marks leave is the zone's urgency. -/
theorem modeMarks_urgencyNow : (modeMarks z old s).urgencyNow z = s.urgencyFor z (s.zone z) := by
  have hset : (modeMarks z old s).settings = s.settings := (modeMarks_kept s z old).2.2.2.2.2.2.2
  simp only [State.urgencyNow, State.urgencyFor, modeMarks_zone_self, State.mode_congr hset, State.effN_congr hset,
    State.wEff]

/-! ### MODE items (R4, R183) -/

/-- The state with the MODE item of `z` written or dropped, before any effect. -/
def State.modeWritten (s : State) (z : Zone) (v : Option Int) : State :=
  { s with settings := s.settings.write (.mode z) v }

theorem modeWritten_eff_of_ne (i : Item) (v : Option Int) (h : i ≠ .mode z) :
    (s.modeWritten z v).eff i = s.eff i := Settings.eff_write_of_ne _ _ h

theorem modeWritten_mode (v : Option Int) :
    (s.modeWritten z v).mode z = Mode.ofCode (v.getD 0) := by
  have hdef : (Item.mode z).default s.settings.profile = 0 := by
    rw [Item.default_of_not_profiled (by simp [Item.profiled])]
    rfl
  simp [State.mode, State.modeWritten, State.eff, Settings.eff_write, hdef]

/-- R183: a MODE item that is dropped, or written with a code, leaves the settings in their ranges. -/
theorem SettingsLaw.modeWritten {s : State} (hs : SettingsLaw s) (z : Zone) (v : Option Int)
    (hv : ∀ w, v = some w → 0 ≤ w ∧ w ≤ 3) : SettingsLaw (s.modeWritten z v) := by
  have h := hs.stored (.mode z) (v.getD (-32768))
  have he : (Item.mode z).settled (v.getD (-32768)) = v := by
    cases v with
    | none => rfl
    | some w =>
      obtain ⟨h0, h3⟩ := hv w rfl
      have hne : w ≠ -32768 := by omega
      have hlim : max (0 : Int) (min 3 w) = w := by omega
      simp [Item.settled, Item.range, hne, hlim]
  rwa [State.stored, he] at h

end

/-- Settles O35: the expiry drops the MODE item, and the change from BOOST to NORMAL leaves its marks alone. -/
theorem boostExpiryReturnsToNormal : Obligations.BoostExpiryReturnsToNormal := by
  unfold Obligations.BoostExpiryReturnsToNormal
  intro z s hst hs hrun hm
  set u : State := s.setCounter (.boost z) { s.counter (.boost z) with run := false, count := 0, part := 0 } with hu
  set w := u.modeWritten z none with hw
  have hnormal : w.mode z = .normal := modeWritten_mode u z none
  have hold : u.mode z = .boost := hm
  have hstep : onBoostExpiry z u = modeMarks z .boost w := by
    have hne : ¬ u.mode z = w.mode z := by rw [hold, hnormal]; decide
    show (if u.mode z = w.mode z then w else onModeChange z (u.mode z) (w.mode z) w) = _
    rw [if_neg hne, hold, hnormal, onModeChange_eq]
    simp
  have hlaw : SettingsLaw w := SettingsLaw.modeWritten (s := u) hs z none (by simp)
  obtain ⟨hsc, harb, hair, hcomp, hdefr, hdoors, hlink, hset⟩ := modeMarks_kept w z .boost
  have hcount : w.counter (.boost z) = { s.counter (.boost z) with run := false, count := 0, part := 0 } := by
    show u.counter (.boost z) = _
    rw [hu, State.counter_setCounter_self]
  have hboost : (modeMarks z .boost w).counter (.boost z) = (w.counter (.boost z)).stop := by rw [modeMarks_boost, if_pos rfl]
  refine ⟨modeMarks z .boost w, ?_, hset, ?_, ?_, ?_, ?_, fun i hb ha => ?_, hsc, harb, hair, hcomp, hdefr, hdoors, hlink⟩
  · show Host.Outcome.next (finish (fireOneShot (.boost z) (onBoostExpiry z) s)) = _
    rw [fireOneShot_of_run _ _ _ hrun, ← hu, hstep, finish_of_settled]
    exact hst.of_eq hlink (by rw [modeMarks_own w z .boost hlaw]; rfl)
  · rw [State.mode_congr hset, hnormal]
  · rw [hboost, Counter.stop_run]
  · rw [hboost, Counter.stop_count, hcount]
  · rw [modeMarks_urgencyNow, modeMarks_zones]
    rfl
  · rw [modeMarks_counter _ _ _ _ hb ha]
    exact State.counter_setCounter_of_ne s _ _ _ hb

end Sys2Proof.Machine

/-! Writes of MODE (R6 to R11): into HOLIDAY and back, into and out of BOOST, and into and out of OFF. -/

namespace Sys2Proof.Machine

section

variable (s : State) (z : Zone)

/-! ### A SET of MODE (R6, R183) -/

/-- The state that an accepted write of MODE leaves before its reply. -/
def State.modeSet (s : State) (z : Zone) (v : Int) : State :=
  storeItem (.mode z) (some v) (repeatBoost (.mode z) v s)

/-- R4, R183: a mode that the zone has. -/
def ModeAllowed (z : Zone) (v : Int) : Prop := 0 ≤ v ∧ v ≤ 3 ∧ (v = 3 → z = .chill) ∧ (v = 2 → z = .fresh)

theorem mode_settled {v : Int} (h0 : 0 ≤ v) (h3 : v ≤ 3) : (Item.mode z).settled v = some v := by
  have hne : v ≠ -32768 := by omega
  have hlim : max (0 : Int) (min 3 v) = v := by omega
  simp [Item.settled, Item.range, hne, hlim]

/-- R181, R183: an allowed write of MODE is answered OK with its value. -/
theorem setMode_replies (tag : Byte) (value : Half) (ha : Accepting s) (hs : SettingsLaw s)
    (hv : ModeAllowed z value.toInt) (hq : (s.modeSet z value.toInt).own = s.own) :
    exec (.setMode tag z value) s =
      .next (replied ⟨0x03#8, tag, byteOf (0x13 + zoneCode z) :: halfBytes value⟩
        (.ok ([byteOf (0x13 + zoneCode z)] ++ intBytes value.toInt ++ [0x00#8])) (s.modeSet z value.toInt)) := by
  obtain ⟨h0, h3, hchill, hfresh⟩ := hv
  have hset := mode_settled z h0 h3
  have hsettle : settleValue s (.mode z) value.toInt = some ((Item.mode z).settled value.toInt) := by
    refine settleValue_eq s _ _ hs ?_ (by simp)
    intro y hy
    cases hy
    exact .inr ⟨h0, h3, hchill, hfresh⟩
  have hleaves := setLeaves_store s tag (.mode z) value ha hsettle (by
    rw [hset]
    exact (congrArg Own.signalled hq).trans ha.1)
  have hreply : setReply (.mode z) value.toInt s =
      .ok ([byteOf (0x13 + zoneCode z)] ++ intBytes value.toInt ++ [0x00#8]) := by
    have heff : (s.stored (.mode z) value.toInt).eff (.mode z) = value.toInt := by simp [stored_eff, hset]
    have hfol : (s.stored (.mode z) value.toInt).settings.follows (.mode z) = false := by
      simp [State.stored, Settings.follows_write, hset]
    simp [setReply, heff, hfol, hset, Answer.ok, Item.id]
  unfold SetLeaves at hleaves
  rw [hreply, hset] at hleaves
  exact hleaves

/-- R6: a write of another mode. -/
theorem modeSet_of_change {v : Int} (h : Mode.ofCode v ≠ s.mode z) :
    s.modeSet z v = onModeChange z (s.mode z) (Mode.ofCode v) (s.modeWritten z (some v)) := by
  have hrep : repeatBoost (.mode z) v s = s := by
    have hno : ¬ (v = 1 ∧ s.mode z = .boost) := by
      rintro ⟨rfl, hb⟩
      exact h (by rw [hb]; rfl)
    simp [repeatBoost, hno]
  have hmode : (s.modeWritten z (some v)).mode z = Mode.ofCode v := modeWritten_mode s z (some v)
  have hne : ¬ (s.modeWritten z (some v)).eff (.mode z) = s.eff (.mode z) := fun he =>
    h (by rw [← hmode, State.mode, he]; rfl)
  unfold State.modeSet
  rw [hrep]
  show (if (s.modeWritten z (some v)).eff (.mode z) = s.eff (.mode z) then s.modeWritten z (some v)
    else onModeChange z (s.mode z) ((s.modeWritten z (some v)).mode z) (s.modeWritten z (some v))) = _
  rw [if_neg hne, hmode]

theorem modeWritten_law {v : Int} (hs : SettingsLaw s) (h0 : 0 ≤ v) (h3 : v ≤ 3) :
    SettingsLaw (s.modeWritten z (some v)) :=
  hs.modeWritten z (some v) fun w hw => by cases hw; exact ⟨h0, h3⟩

theorem modeWritten_effN (i : Item) (v : Option Int) (h : ∀ y, i ≠ .mode y) :
    (s.modeWritten z v).effN i = s.effN i := congrArg Int.toNat (modeWritten_eff_of_ne s z i v (h z))

/-- R15: the urgency that a zone has under the mode just written. -/
theorem modeWritten_urgencyFor (v : Int) (r : ZoneRec) (hv : Mode.ofCode v ≠ .off) :
    (s.modeWritten z (some v)).urgencyFor z r =
      if r.subst = .forceCall ∨ r.subst = .timed then s.effN .uLost
      else min 65535 (r.debt * weightFor (Mode.ofCode v) (s.effN (.weight z)) / 16) := by
  have hmode : (s.modeWritten z (some v)).mode z = Mode.ofCode v := modeWritten_mode s z (some v)
  simp only [State.urgencyFor, State.wEff, hmode, ne_eq, hv, not_false_eq_true, and_true, urgencyOf_eq,
    modeWritten_effN s z .uLost (some v) (by simp), modeWritten_effN s z (.weight z) (some v) (by simp)]

/-! ### NORMAL and HOLIDAY (R8, R11) -/

/-- R8, R11: a change between NORMAL and HOLIDAY, or out of BOOST into either, leaves its marks alone. -/
theorem modeSet_marks {v : Int} (h : Mode.ofCode v ≠ s.mode z) (hoff : s.mode z ≠ .off)
    (hv : Mode.ofCode v = .normal ∨ Mode.ofCode v = .holiday) :
    s.modeSet z v = modeMarks z (s.mode z) (s.modeWritten z (some v)) := by
  rw [modeSet_of_change s z h, onModeChange_eq]
  rcases hv with hv | hv <;> simp [hv, hoff]

/-! ### BOOST (R7) -/

theorem startBoost_eq (hs : SettingsLaw s) :
    startBoost z s = s.setCounter (.boost z) ((s.counter (.boost z)).timing (s.effN .boostLen)) :=
  State.restartC_eq _ _ _ hs.lengths.2.2.2.2.2.2.2 (.inl rfl)

/-- R7: a repeated BOOST restarts the counter alone. -/
theorem modeSet_repeats (hs : SettingsLaw s) (hb : s.mode z = .boost) :
    s.modeSet z 1 =
      { s with
        settings := { s.settings with written := putWritten s.settings.written (0x13 + zoneCode z) 1 }
        bank := s.bank.set (.boost z) ((s.counter (.boost z)).timing (s.effN .boostLen)) } := by
  have hold : s.eff (.mode z) = 1 := by
    unfold State.mode Mode.ofCode at hb
    split_ifs at hb
    assumption
  have hrep : repeatBoost (.mode z) 1 s = startBoost z s := by simp [repeatBoost, hb]
  have hnew : ((startBoost z s).modeWritten z (some 1)).eff (.mode z) = 1 := by
    simp [State.modeWritten, State.eff, Settings.eff_write]
  have hkept : (startBoost z s).eff (.mode z) = 1 := by rw [startBoost_eq s z hs]; exact hold
  have he : s.modeSet z 1 = (startBoost z s).modeWritten z (some 1) := by
    unfold State.modeSet
    rw [hrep]
    show (if ((startBoost z s).modeWritten z (some 1)).eff (.mode z) = (startBoost z s).eff (.mode z) then
      (startBoost z s).modeWritten z (some 1) else _) = _
    rw [hnew, hkept, if_pos rfl]
  rw [he, startBoost_eq s z hs]
  rfl

theorem modeSet_kept (v : Int) :
    (s.modeSet z v).settings = { s.settings with written := putWritten s.settings.written (0x13 + zoneCode z) v } ∧
      (s.modeSet z v).scanner = s.scanner ∧ (s.modeSet z v).link = s.link := by
  unfold State.modeSet
  refine ⟨?_, by simp, by simp⟩
  rw [storeItem_settings, (repeatBoost_keeps s (.mode z) v).2.1]
  rfl

theorem modeSet_mode (v : Int) : (s.modeSet z v).mode z = Mode.ofCode v := by
  rw [State.mode_congr (t := s.modeSet z v) (s := s.modeWritten z (some v)) (modeSet_kept s z v).1]
  exact modeWritten_mode s z (some v)

/-! ### A zone that is made to call (R7, R10, R17) -/

/-- R17: a zone that calls already, or that begins to while the path is held. -/
theorem setCalling_true_of_held (h : (s.zone z).calling = true ∨ s.arb.holder ≠ .nobody) :
    setCalling z true s = s.putCalling z true := by
  cases hc : (s.zone z).calling with
  | true =>
    rw [setCalling_same s z true hc]
    exact (zones_set_same s z _ (by rw [← hc])).symm
  | false =>
    refine setCalling_apart s z true (by simp [hc]) (fun _ => h.resolve_left (by simp [hc])) (by simp)

/-- R17, R58: what a zone that is made to call finds done, whoever holds the path. -/
theorem setCalling_true_leaves (hs : SettingsLaw s) (hn : s.arb.holder = .nobody → NoClaimWaits s) :
    (setCalling z true s).zones = s.zones.set z { s.zone z with calling := true } ∧
      (setCalling z true s).own = s.own ∧
      ∀ y, (setCalling z true s).counter (.boost y) = s.counter (.boost y) := by
  by_cases h : (s.zone z).calling = true ∨ s.arb.holder ≠ .nobody
  · rw [setCalling_true_of_held s z h]
    exact ⟨rfl, rfl, fun _ => rfl⟩
  · rw [not_or, not_not] at h
    obtain ⟨hc, hh⟩ := h
    have hlaw : SettingsLaw (s.putCalling z true) := hs
    obtain ⟨-, hzones, -⟩ := settledPath_pathOnly (s.putCalling z true)
    rw [setCalling_begins s z (Bool.eq_false_of_not_eq_true hc) hh (hn hh)]
    exact ⟨hzones, settledPath_own _ hlaw, fun y => settledPath_counter _ _ (by simp) rfl (by simp)⟩

/-! ### Into BOOST (R7) -/

/-- R7: the marks of the change and BOOST started, before the zone is made to call. -/
def State.boosted (s : State) (z : Zone) : State :=
  startBoost z (modeMarks z (s.mode z) (s.modeWritten z (some 1)))

/-- R7: whether a zone that enters BOOST calls by that. -/
def Subst.boostCalls (p : Subst) : Bool := decide (p ≠ .ignore) && decide (p ≠ .timed)

theorem boosted_eq (hs : SettingsLaw s) :
    s.boosted z = (modeMarks z (s.mode z) (s.modeWritten z (some 1))).setCounter (.boost z)
      (((modeMarks z (s.mode z) (s.modeWritten z (some 1))).counter (.boost z)).timing (s.effN .boostLen)) := by
  have hset := (modeMarks_kept (s.modeWritten z (some 1)) z (s.mode z)).2.2.2.2.2.2.2
  have hlaw : SettingsLaw (modeMarks z (s.mode z) (s.modeWritten z (some 1))) :=
    (modeWritten_law s z hs (by decide) (by decide)).congr hset
  rw [State.boosted, startBoost_eq _ z hlaw, State.effN_congr hset, modeWritten_effN s z .boostLen (some 1) (by simp)]

theorem boosted_kept :
    (s.boosted z).arb = s.arb ∧ (s.boosted z).air = s.air ∧ (s.boosted z).comp = s.comp ∧ (s.boosted z).defr = s.defr ∧
      (s.boosted z).doors = s.doors ∧ (s.boosted z).settings = (s.modeWritten z (some 1)).settings := by
  obtain ⟨-, harb, hair, hcomp, hdefr, hdoors, -, hset⟩ := modeMarks_kept (s.modeWritten z (some 1)) z (s.mode z)
  unfold State.boosted
  simp [harb, hair, hcomp, hdefr, hdoors, hset]
  simp [State.modeWritten]

theorem boosted_own (hs : SettingsLaw s) : (s.boosted z).own = s.own := by
  rw [boosted_eq s z hs]
  exact modeMarks_own _ z _ (modeWritten_law s z hs (by decide) (by decide))

theorem boosted_counter (hs : SettingsLaw s) (i : CounterId) (hb : i ≠ .boost z) (ha : i ≠ .alm z) :
    (s.boosted z).counter i = s.counter i := by
  rw [boosted_eq s z hs, State.counter_setCounter_of_ne _ _ _ _ hb, modeMarks_counter _ _ _ _ hb ha]
  rfl

theorem boosted_boost (hs : SettingsLaw s) (h : s.mode z ≠ .boost) :
    (s.boosted z).counter (.boost z) = (s.counter (.boost z)).timing (s.effN .boostLen) := by
  rw [boosted_eq s z hs, State.counter_setCounter_self, modeMarks_boost, if_neg h]
  rfl

theorem boosted_zones :
    (s.boosted z).zones = s.zones.set z
      { s.zone z with
        warmArmed := false
        urgency :=
          if (s.zone z).subst = .forceCall ∨ (s.zone z).subst = .timed then s.effN .uLost
          else min 65535 ((s.zone z).debt * min 64 (2 * s.effN (.weight z)) / 16) } := by
  have hu := modeWritten_urgencyFor s z 1 (s.zone z) (by decide)
  have hz : (s.modeWritten z (some 1)).zone z = s.zone z := rfl
  unfold State.boosted
  rw [(startBoost_keeps _ z).2.2.1, modeMarks_zones, hz, hu]
  rfl

theorem boosted_zone : (s.boosted z).zone z =
    { s.zone z with
      warmArmed := false
      urgency :=
        if (s.zone z).subst = .forceCall ∨ (s.zone z).subst = .timed then s.effN .uLost
        else min 65535 ((s.zone z).debt * min 64 (2 * s.effN (.weight z)) / 16) } := by
  rw [State.zone, boosted_zones, PerZone.get_set_self]

/-- R7: entering BOOST from NORMAL or HOLIDAY. -/
theorem modeSet_boost (hb : s.mode z ≠ .boost) (ho : s.mode z ≠ .off) :
    s.modeSet z 1 = if (s.zone z).subst.boostCalls then setCalling z true (s.boosted z) else s.boosted z := by
  have hsub : ((s.boosted z).zone z).subst = (s.zone z).subst := by rw [boosted_zone]
  have he : s.modeSet z 1 = enterBoost z (modeMarks z (s.mode z) (s.modeWritten z (some 1))) := by
    rw [modeSet_of_change s z (v := 1) (by rw [show Mode.ofCode 1 = .boost from rfl]; exact hb.symm), onModeChange_eq]
    simp [show Mode.ofCode 1 = .boost from rfl, ho]
  rw [he]
  unfold enterBoost
  simp only [show startBoost z (modeMarks z (s.mode z) (s.modeWritten z (some 1))) = s.boosted z from rfl, hsub]
  cases (s.zone z).subst <;> rfl

/-- R7, R15, R17: the whole of an entry into BOOST. -/
theorem modeSet_boost_leaves (hs : SettingsLaw s) (hb : s.mode z ≠ .boost) (ho : s.mode z ≠ .off)
    (hn : s.arb.holder = .nobody → NoClaimWaits s) :
    (s.modeSet z 1).own = s.own ∧
      (s.modeSet z 1).counter (.boost z) = (s.counter (.boost z)).timing (s.effN .boostLen) ∧
      (s.modeSet z 1).zones = s.zones.set z
        { s.zone z with
          warmArmed := false
          calling := (s.zone z).calling || (s.zone z).subst.boostCalls
          urgency :=
            if (s.zone z).subst = .forceCall ∨ (s.zone z).subst = .timed then s.effN .uLost
            else min 65535 ((s.zone z).debt * min 64 (2 * s.effN (.weight z)) / 16) } := by
  obtain ⟨harb, -, -, hdefr, hdoors, hset⟩ := boosted_kept s z
  have hlaw : SettingsLaw (s.boosted z) := (modeWritten_law s z hs (by decide) (by decide)).congr hset
  have hclaims : (s.boosted z).arb.holder = .nobody → NoClaimWaits (s.boosted z) := by
    rw [harb, NoClaimWaits, hdefr, hdoors]
    exact hn
  obtain ⟨hzones, hown, hcount⟩ := setCalling_true_leaves (s.boosted z) z hlaw hclaims
  rw [modeSet_boost s z hb ho]
  cases hcalls : (s.zone z).subst.boostCalls with
  | false =>
    refine ⟨boosted_own s z hs, boosted_boost s z hs hb, ?_⟩
    rw [Bool.or_false]
    exact boosted_zones s z
  | true =>
    refine ⟨hown.trans (boosted_own s z hs), (hcount z).trans (boosted_boost s z hs hb), ?_⟩
    rw [Bool.or_true]
    refine hzones.trans ?_
    rw [boosted_zone, boosted_zones, PerZone.set_set]

/-- R7: an entry into BOOST that makes no call, or that finds the path held. -/
theorem modeSet_boost_apart (hs : SettingsLaw s) (hb : s.mode z ≠ .boost) (ho : s.mode z ≠ .off)
    (h : (s.zone z).calling = true ∨ (s.zone z).subst = .ignore ∨ (s.zone z).subst = .timed ∨ s.arb.holder ≠ .nobody) :
    (s.modeSet z 1).arb = s.arb ∧ (s.modeSet z 1).air = s.air ∧ (s.modeSet z 1).comp = s.comp ∧
      (s.modeSet z 1).defr = s.defr ∧ (s.modeSet z 1).doors = s.doors ∧
      ∀ i, i ≠ .boost z → i ≠ .alm z → (s.modeSet z 1).counter i = s.counter i := by
  obtain ⟨harb, hair, hcomp, hdefr, hdoors, -⟩ := boosted_kept s z
  have hcount := boosted_counter s z hs
  rw [modeSet_boost s z hb ho]
  cases hcalls : (s.zone z).subst.boostCalls with
  | false => exact ⟨harb, hair, hcomp, hdefr, hdoors, hcount⟩
  | true =>
    have hheld : ((s.boosted z).zone z).calling = true ∨ (s.boosted z).arb.holder ≠ .nobody := by
      rw [boosted_zone, harb]
      rcases h with h | h | h | h
      · exact .inl h
      · simp [Subst.boostCalls, h] at hcalls
      · simp [Subst.boostCalls, h] at hcalls
      · exact .inr h
    simp only [if_true, setCalling_true_of_held _ z hheld]
    exact ⟨harb, hair, hcomp, hdefr, hdoors, hcount⟩

/-- R7, R58: an entry into BOOST that makes a call while nobody holds the path. -/
theorem modeSet_boost_grants (hb : s.mode z ≠ .boost) (ho : s.mode z ≠ .off) (hn : NoClaimWaits s)
    (hc : (s.zone z).calling = false) (hi : (s.zone z).subst ≠ .ignore) (ht : (s.zone z).subst ≠ .timed)
    (hh : s.arb.holder = .nobody) : ∃ r, (s.modeSet z 1).arb.holder = .slot r := by
  obtain ⟨harb, -, -, hdefr, hdoors, -⟩ := boosted_kept s z
  have hcalls : (s.zone z).subst.boostCalls = true := by simp [Subst.boostCalls, hi, ht]
  obtain ⟨q, hq, -⟩ := setCalling_grants (s.boosted z) z (by rw [boosted_zone]; exact hc) (by rw [harb]; exact hh)
    (by rw [NoClaimWaits, hdefr, hdoors]; exact hn)
  rw [modeSet_boost s z hb ho, hcalls]
  exact ⟨q, hq⟩

end

end Sys2Proof.Machine

/-! Writes of MODE into and out of OFF (R9, R10), and the obligation on MODE writes. -/

namespace Sys2Proof.Machine

section

variable (s : State) (z : Zone)

/-! ### The alarms of a zone in OFF (R167, R168) -/

theorem warmTiming_alm_of_off (cause : AlarmCause) (hm : s.mode z = .off) (hr : (s.counter (.alm z)).run = false) :
    ((warmTiming z cause s).counter (.alm z)).run = false := by
  have ht : s.warmTest z cause = false := by simp [State.warmTest, hm]
  unfold warmTiming stopAlarm
  simp only [ht, Bool.false_and, Bool.false_eq_true, if_false]
  split
  · simp [onAlarm_counter]
  · exact hr

theorem coldTiming_alm_of_off (cause : AlarmCause) (hm : s.mode z = .off) (hr : (s.counter (.alm z)).run = false) :
    ((coldTiming z cause s).counter (.alm z)).run = false := by
  have ht : s.coldTest z cause = false := by simp [State.coldTest, hm]
  unfold coldTiming stopAlarm
  simp only [ht, Bool.false_and, Bool.false_eq_true, if_false]
  split
  · simp [onAlarm_counter]
  · exact hr

/-- R167, R168: no evaluation starts the ALM counter of a zone in OFF. -/
theorem evalAlarm_alm_of_off (y : Zone) (cause : AlarmCause) (hm : s.mode z = .off)
    (hr : (s.counter (.alm z)).run = false) : ((evalAlarm y cause s).counter (.alm z)).run = false := by
  by_cases h : z = y
  · subst h
    have hmode : ∀ u, State.settings u = s.settings → u.mode z = .off := fun u hu => by rw [State.mode_congr hu, hm]
    unfold evalAlarm
    refine coldTiming_alm_of_off _ z cause (hmode _ (by simp)) ?_
    rw [coldDeassert_counter]
    refine warmTiming_alm_of_off _ z cause (hmode _ (by simp)) ?_
    rwa [warmDeassert_counter]
  · rwa [evalAlarm_counter _ _ _ _ (by simpa using h)]

theorem tellHolder_alm_of_off (hm : s.mode z = .off) (hr : (s.counter (.alm z)).run = false) :
    ((tellHolder s).counter (.alm z)).run = false := by
  have hd : (tellDoors (refreshHeater s)).counter (.alm z) = s.counter (.alm z) := by simp [State.counter]
  have hmode : ∀ u, State.settings u = s.settings → u.mode z = .off := fun u hu => by rw [State.mode_congr hu, hm]
  unfold tellHolder tellConditions
  dsimp only
  split
  · exact hd.symm ▸ hr
  · unfold evalAllAlarms
    refine evalAlarm_alm_of_off _ z _ _ (hmode _ (by simp)) ?_
    refine evalAlarm_alm_of_off _ z _ _ (hmode _ (by simp)) ?_
    refine evalAlarm_alm_of_off _ z _ _ (hmode _ (by simp)) ?_
    exact hd.symm ▸ hr

/-! ### Into OFF (R9) -/

/-- R9, R168: the zone at rest in OFF with its alarms cleared, before its slot is ended. -/
def State.offRested (s : State) (z : Zone) : State :=
  clearAlarms z ((modeMarks z (s.mode z) (s.modeWritten z (some 3))).onZone z ZoneRec.rested)

theorem modeSet_off (ho : s.mode z ≠ .off) : s.modeSet z 3 = endSlotAtOff z (s.offRested z) := by
  rw [modeSet_of_change s z (v := 3) (by rw [show Mode.ofCode 3 = .off from rfl]; exact ho.symm), onModeChange_eq,
    if_pos (show Mode.ofCode 3 = .off from rfl), enterOff_eq]
  rfl

theorem offRested_kept :
    (s.offRested z).arb = s.arb ∧ (s.offRested z).air = s.air ∧ (s.offRested z).comp = s.comp ∧
      (s.offRested z).defr = s.defr ∧ (s.offRested z).doors = s.doors ∧
      (s.offRested z).settings = (s.modeWritten z (some 3)).settings := by
  obtain ⟨-, harb, hair, hcomp, hdefr, hdoors, -, hset⟩ := modeMarks_kept (s.modeWritten z (some 3)) z (s.mode z)
  unfold State.offRested
  simp [harb, hair, hcomp, hdefr, hdoors, hset]
  simp [State.modeWritten]

theorem offRested_zone_self :
    ((s.offRested z).zone z).calling = false ∧ ((s.offRested z).zone z).debt = 0 ∧
      ((s.offRested z).zone z).urgency = 0 ∧ ((s.offRested z).zone z).subst = (s.zone z).subst := by
  have hz : (s.offRested z).zone z = ((modeMarks z (s.mode z) (s.modeWritten z (some 3))).zone z).rested := by
    simp [State.offRested, State.zone]
  rw [hz, modeMarks_zone_self]
  exact ⟨rfl, rfl, rfl, rfl⟩

theorem offRested_zone_of_ne (y : Zone) (h : y ≠ z) : (s.offRested z).zone y = s.zone y := by
  have hz : (s.offRested z).zone y = (modeMarks z (s.mode z) (s.modeWritten z (some 3))).zone y := by
    simp [State.offRested, State.zone, PerZone.get_set_of_ne _ _ _ _ h]
  rw [hz, modeMarks_zone_of_ne _ _ _ _ h]
  rfl

theorem offRested_own (hs : SettingsLaw s) : (s.offRested z).own = s.own := by
  have h := modeMarks_own (s.modeWritten z (some 3)) z (s.mode z) (modeWritten_law s z hs (by decide) (by decide))
  unfold State.offRested
  simp [h]
  rfl

theorem offRested_mode : (s.offRested z).mode z = .off := by
  rw [State.mode_congr (offRested_kept s z).2.2.2.2.2, modeWritten_mode]
  rfl

theorem offRested_levels :
    (s.offRested z).level (.zoneWarm z) = false ∧ (s.offRested z).level (.zoneCold z) = false := by
  have hne : (Cond.zoneWarm z) ≠ .zoneCold z := by simp
  have hlevel : ∀ i u, (stopAlarm z u).level i = State.level u i := fun i u => by
    simp [stopAlarm, State.level, Conditions.level]
  unfold State.offRested clearAlarms
  rw [hlevel, hlevel, State.level_setLevel_of_ne _ _ _ _ hne, State.level_setLevel_self, State.level_setLevel_self]
  exact ⟨rfl, rfl⟩

theorem offRested_alm : ((s.offRested z).counter (.alm z)).run = false := by
  unfold State.offRested clearAlarms stopAlarm
  rw [onAlarm_counter, State.counter_stopC_self, Counter.stop_run]

theorem offRested_boost (hb : s.mode z = .boost) : ((s.offRested z).counter (.boost z)).run = false := by
  have hstop : (s.offRested z).counter (.boost z) =
      (modeMarks z (s.mode z) (s.modeWritten z (some 3))).counter (.boost z) := by
    unfold State.offRested clearAlarms stopAlarm
    rw [onAlarm_counter, State.counter_stopC_of_ne _ _ _ (by simp)]
    rfl
  rw [hstop, modeMarks_boost, if_pos hb, Counter.stop_run]

/-! ### The end of the slot of a zone in OFF (R9, R56, R73) -/

/-- What the end of the slot of a resting zone in OFF leaves. -/
structure OffSlotEnded (z : Zone) (c t : State) : Prop where
  zones : t.zones = c.zones
  own : t.own = c.own
  closed : t.slotOpen z = false
  levels : ∀ i, i ≠ .serviceHold → t.level i = c.level i
  alm : (t.counter (.alm z)).run = false
  boost : t.counter (.boost z) = c.counter (.boost z)

/-- Writing calling no into a zone that does not call changes no zone. -/
theorem zones_set_not_calling (hc : (s.zone z).calling = false) :
    s.zones.set z { s.zone z with calling := false } = s.zones := by
  rw [← hc]
  exact PerZone.set_get _ _

theorem stack_not_own (hst : StackLaw s) (hh : s.arb.holder.slotZone? = some z) : s.arb.stack = [] := by
  unfold StackLaw stackAllowed at hst
  cases h : s.arb.holder with
  | slot r =>
    rw [h] at hst
    cases hs : s.arb.stack with
    | nil => rfl
    | cons f rest => simp [hs] at hst
  | _ => simp [h, Holder.slotZone?] at hh

/-- R9, R56: the slot that holds the path. -/
theorem endSlotAtOff_held (hs : SettingsLaw s) (hst : StackLaw s) (hn : NoClaimWaits s) (hm : s.mode z = .off)
    (hc : (s.zone z).calling = false) (ha : (s.counter (.alm z)).run = false)
    (hh : s.arb.holder.slotZone? = some z) : OffSlotEnded z s (endSlotAtOff z s) := by
  set w := State.slotGone z none s with hw
  have he : endSlotAtOff z s = w.settledPath := by
    rw [endSlotAtOff, if_pos hh, endHeldSlot_eq]
    exact report_arbitrate w hn
  have hzones : w.zones = s.zones := by
    show (if _ then _ else _) = _
    rw [zones_set_not_calling s z hc, ite_self]
  have hcount : ∀ j : CounterId, j ≠ .slot → j ≠ .wait z → w.counter j = s.counter j := fun j h1 h2 => by
    simp only [hw, State.slotGone, State.counter, Bank.get_set_of_ne _ _ _ _ h1, Bank.get_set_of_ne _ _ _ _ h2]
  obtain ⟨-, hz, -⟩ := settledPath_pathOnly w
  rw [he]
  refine ⟨hz.trans hzones, settledPath_own w hs, ?_, fun i hi => ?_, ?_, ?_⟩
  · have hstack : w.arb.stack = [] := stack_not_own s z hst hh
    have hholder : w.settledPath.arb.holder.slotZone? ≠ some z ∧ w.settledPath.arb.stack = [] := by
      rw [settledPath_arb]
      cases hch : w.choice with
      | none => rw [arbitrate_arb_of_none w hch]; exact ⟨by simp [Holder.slotZone?], hstack⟩
      | some y =>
        have hy := State.choice_calling w hch
        rw [State.zone_congr hzones] at hy
        rw [arbitrate_arb_of_some w hch]
        refine ⟨fun h => ?_, hstack⟩
        have hyz : y = z := Option.some.inj h
        rw [hyz, hc] at hy
        cases hy
    simp [State.slotOpen, hholder]
  · rw [State.settledPath, tellHolder_level_of_ne _ _ hi, State.level, Conditions.level, arbitrate_levels]
    rfl
  · refine tellHolder_alm_of_off _ z ?_ ?_
    · rw [State.mode_congr (s := s) (by simp [hw, State.slotGone]), hm]
    · rw [arbitrate_counter w _ (by simp) rfl, hcount _ (by simp) (by simp)]
      exact ha
  · rw [settledPath_counter w _ (by simp) rfl (by simp), hcount _ (by simp) (by simp)]

/-- R9, R73: a slot on the stack, or no slot at all. -/
theorem endSlotAtOff_unheld (hc : (s.zone z).calling = false) (ha : (s.counter (.alm z)).run = false)
    (hh : s.arb.holder.slotZone? ≠ some z) :
    OffSlotEnded z s (endSlotAtOff z s) ∧ (s.slotOpen z = false → endSlotAtOff z s = s) := by
  by_cases hstack : s.arb.stack.any (SuspFrame.isSlotOf z) = true
  · have he : endSlotAtOff z s = endSlot z false (removeFrames (SuspFrame.isSlotOf z) s) := by
      rw [endSlotAtOff, if_neg hh, if_pos hstack]
    have hend : endSlot z false (removeFrames (SuspFrame.isSlotOf z) s) =
        ((((removeFrames (SuspFrame.isSlotOf z) s).stopC .slot).clearC (.wait z)).startC (.wait z)).onArb
          fun a => { a with fullEnd := none } := by
      have hz : (((((removeFrames (SuspFrame.isSlotOf z) s).stopC .slot).clearC (.wait z)).startC (.wait z)).onArb
          fun a => { a with fullEnd := none }).zone z = s.zone z := State.zone_congr (by simp) z
      unfold endSlot
      simp only [Bool.false_eq_true, if_false, hz]
      split
      · exact zones_set_same _ z _ (by rw [hz, ← hc])
      · rfl
    rw [he, hend]
    refine ⟨⟨by simp, ?_, ?_, fun i _ => by simp [State.level], ?_, ?_⟩, fun h => ?_⟩
    · rw [State.onArb_own, State.startC_own _ _ (.inl (by simp [CounterId.mode]))]
      simp
    · simp [State.slotOpen, removeFrames, hh]
    · rw [show ∀ f u, (State.onArb f u).counter (.alm z) = u.counter (.alm z) from fun _ _ => rfl,
        State.counter_startC_of_ne _ _ _ (by simp), State.counter_clearC_of_ne _ _ _ (by simp),
        State.counter_stopC_of_ne _ _ _ (by simp)]
      exact ha
    · rw [show ∀ f u, (State.onArb f u).counter (.boost z) = u.counter (.boost z) from fun _ _ => rfl,
        State.counter_startC_of_ne _ _ _ (by simp), State.counter_clearC_of_ne _ _ _ (by simp),
        State.counter_stopC_of_ne _ _ _ (by simp)]
      rfl
    · simp [State.slotOpen, hstack] at h
  · have he : endSlotAtOff z s = s := by rw [endSlotAtOff, if_neg hh, if_neg hstack]
    rw [he]
    refine ⟨⟨rfl, rfl, ?_, fun _ _ => rfl, ha, rfl⟩, fun _ => rfl⟩
    simp [State.slotOpen, hh, Bool.eq_false_of_not_eq_true hstack]

/-- R9, R168: the whole of an entry into OFF. -/
theorem modeSet_off_leaves (hs : SettingsLaw s) (hst : StackLaw s) (ho : s.mode z ≠ .off)
    (hn : (∃ r, s.arb.holder = .slot r) → NoClaimWaits s) :
    OffSlotEnded z (s.offRested z) (s.modeSet z 3) ∧
      (s.slotOpen z = false →
        (s.modeSet z 3).arb = s.arb ∧ (s.modeSet z 3).air = s.air ∧ (s.modeSet z 3).comp = s.comp) := by
  obtain ⟨harb, hair, hcomp, hdefr, hdoors, hset⟩ := offRested_kept s z
  have hlaw : SettingsLaw (s.offRested z) := (modeWritten_law s z hs (by decide) (by decide)).congr hset
  have hc := (offRested_zone_self s z).1
  have ha := offRested_alm s z
  rw [modeSet_off s z ho]
  by_cases hh : s.arb.holder.slotZone? = some z
  · have hslot : ∃ r, s.arb.holder = .slot r := by
      cases h : s.arb.holder with
      | slot r => exact ⟨r, rfl⟩
      | _ => simp [h, Holder.slotZone?] at hh
    refine ⟨endSlotAtOff_held (s.offRested z) z hlaw ?_ ?_ (offRested_mode s z) hc ha (by rwa [harb]), fun h => ?_⟩
    · rwa [StackLaw, harb]
    · rw [NoClaimWaits, hdefr, hdoors]
      exact hn hslot
    · simp [State.slotOpen, hh] at h
  · obtain ⟨hended, hsame⟩ := endSlotAtOff_unheld (s.offRested z) z hc ha (by rwa [harb])
    refine ⟨hended, fun h => ?_⟩
    rw [hsame (by rwa [State.slotOpen, harb])]
    exact ⟨harb, hair, hcomp⟩

/-! ### Out of OFF (R10) -/

theorem urgencyFor_congr {s u : State} (h : u.settings = s.settings) (z : Zone) (r : ZoneRec) :
    u.urgencyFor z r = s.urgencyFor z r := by
  simp [State.urgencyFor, State.wEff, State.mode_congr h, State.effN_congr h]

/-- R10: the zone back from OFF with D 0, and BOOST started where it is entered, before calling is settled. -/
def State.backOn (s : State) (z : Zone) (v : Int) : State :=
  let m := modeMarks z .off (s.modeWritten z (some v))
  let d := (m.onZone z fun r => { r with debt := 0 }).recomputeU z
  if Mode.ofCode v = .boost then startBoost z d else d

/-- R10: whether a zone that leaves OFF calls. -/
def State.backCalls (s : State) (z : Zone) (v : Int) : Bool :=
  match (s.zone z).subst with
  | .forceCall => true
  | .timed => decide (s.effN .lostPeriod ≤ (s.counter (.wait z)).count)
  | .ignore => false
  | .absent => decide (v = 1)
  | .holdWindow => decide (v = 1)

section

variable {v : Int} (hv : v = 0 ∨ v = 1)

include hv

theorem ofCode_of_on : (Mode.ofCode v = if v = 1 then .boost else .normal) ∧ Mode.ofCode v ≠ .off := by
  rcases hv with rfl | rfl <;> exact ⟨rfl, by decide⟩

theorem backOn_eq (hs : SettingsLaw s) :
    ∃ d : State, s.backOn z v =
        (if v = 1 then d.setCounter (.boost z) ((s.counter (.boost z)).timing (s.effN .boostLen)) else d) ∧
      d = { modeMarks z .off (s.modeWritten z (some v)) with
        zones := s.zones.set z
          { s.zone z with
            debt := 0
            warmArmed := false
            urgency :=
              if (s.zone z).subst = .forceCall ∨ (s.zone z).subst = .timed then s.effN .uLost else 0 } } := by
  set m := modeMarks z .off (s.modeWritten z (some v)) with hm
  obtain ⟨hmode, hoff⟩ := ofCode_of_on hv
  have hset : m.settings = (s.modeWritten z (some v)).settings := (modeMarks_kept _ _ _).2.2.2.2.2.2.2
  have hzones : m.zones = _ := modeMarks_zones _ _ _
  have hzone : m.zone z = _ := modeMarks_zone_self _ _ _
  have hd : (m.onZone z fun r => { r with debt := 0 }).recomputeU z = { m with
      zones := s.zones.set z
        { s.zone z with
          debt := 0
          warmArmed := false
          urgency :=
            if (s.zone z).subst = .forceCall ∨ (s.zone z).subst = .timed then s.effN .uLost else 0 } } := by
    rw [onZone_recomputeU, urgencyFor_congr hset, modeWritten_urgencyFor s z v _ hoff, hzones, hzone, PerZone.set_set]
    simp only [Nat.zero_mul, Nat.zero_div, Nat.min_zero]
    rfl
  have hlaw : SettingsLaw m := (modeWritten_law s z hs (by omega) (by omega)).congr hset
  have hcount : m.counter (.boost z) = s.counter (.boost z) := by
    rw [hm, modeMarks_boost, if_neg (by decide)]
    rfl
  have hlen : m.effN .boostLen = s.effN .boostLen := by
    rw [State.effN_congr hset, modeWritten_effN s z .boostLen (some v) (by simp)]
  have hstart : ∀ d : State, d.settings = m.settings → d.bank = m.bank →
      startBoost z d = d.setCounter (.boost z) ((s.counter (.boost z)).timing (s.effN .boostLen)) := fun d hd hb => by
    rw [startBoost_eq d z (hlaw.congr hd), State.effN_congr hd, hlen, ← hcount, State.counter, hb]
    rfl
  refine ⟨_, ?_, rfl⟩
  unfold State.backOn
  simp only [← hm, hd, hmode]
  split
  · rw [if_pos rfl, hstart]
    · rfl
    · rfl
  · rw [if_neg (by decide)]

theorem backOn_kept (hs : SettingsLaw s) :
    (s.backOn z v).arb = s.arb ∧ (s.backOn z v).air = s.air ∧ (s.backOn z v).comp = s.comp ∧
      (s.backOn z v).defr = s.defr ∧ (s.backOn z v).doors = s.doors ∧
      (s.backOn z v).settings = (s.modeWritten z (some v)).settings ∧ (s.backOn z v).own = s.own ∧
      ∀ i, i ≠ .boost z → i ≠ .alm z → (s.backOn z v).counter i = s.counter i := by
  obtain ⟨-, harb, hair, hcomp, hdefr, hdoors, -, hset⟩ := modeMarks_kept (s.modeWritten z (some v)) z .off
  have hown := modeMarks_own (s.modeWritten z (some v)) z .off (modeWritten_law s z hs (by omega) (by omega))
  have hcount := modeMarks_counter (s.modeWritten z (some v)) z .off
  obtain ⟨d, he, rfl⟩ := backOn_eq s z hv hs
  rw [he]
  split
  · exact ⟨harb, hair, hcomp, hdefr, hdoors, hset, hown, fun i hb ha =>
      (State.counter_setCounter_of_ne _ _ _ _ hb).trans (hcount i hb ha)⟩
  · exact ⟨harb, hair, hcomp, hdefr, hdoors, hset, hown, fun i hb ha => hcount i hb ha⟩

theorem backOn_zones (hs : SettingsLaw s) :
    (s.backOn z v).zones = s.zones.set z
      { s.zone z with
        debt := 0
        warmArmed := false
        urgency := if (s.zone z).subst = .forceCall ∨ (s.zone z).subst = .timed then s.effN .uLost else 0 } := by
  obtain ⟨d, he, rfl⟩ := backOn_eq s z hv hs
  rw [he]
  split <;> rfl

theorem backOn_boost (hs : SettingsLaw s) :
    (s.backOn z v).counter (.boost z) =
      if v = 1 then (s.counter (.boost z)).timing (s.effN .boostLen) else s.counter (.boost z) := by
  obtain ⟨d, he, rfl⟩ := backOn_eq s z hv hs
  rw [he]
  split
  · exact State.counter_setCounter_self _ _ _
  · show (modeMarks z .off (s.modeWritten z (some v))).counter (.boost z) = _
    rw [modeMarks_boost, if_neg (by decide)]
    rfl

/-- R10: leaving OFF for NORMAL or BOOST. -/
theorem modeSet_back (hs : SettingsLaw s) (ho : s.mode z = .off) :
    s.modeSet z v = setCalling z (s.backCalls z v) (s.backOn z v) := by
  obtain ⟨hmode, hoff⟩ := ofCode_of_on hv
  obtain ⟨-, -, -, -, -, hset, -, hcount⟩ := backOn_kept s z hv hs
  have hsub : ((s.backOn z v).zone z).subst = (s.zone z).subst := by
    rw [State.zone, backOn_zones s z hv hs, PerZone.get_set_self]
  have hwaited : (s.backOn z v).timedWaited z = decide (s.effN .lostPeriod ≤ (s.counter (.wait z)).count) := by
    rw [State.timedWaited, State.waited, hcount _ (by simp) (by simp), State.effN_congr hset,
      modeWritten_effN s z .lostPeriod (some v) (by simp)]
  have he : s.modeSet z v = leaveOff z (Mode.ofCode v) (modeMarks z .off (s.modeWritten z (some v))) := by
    rw [modeSet_of_change s z (by rw [ho]; exact hoff), onModeChange_eq, ho, if_neg hoff, if_pos rfl]
  have hboost : ∀ t u : State, (if Mode.ofCode v = .boost then t else u) = if v = 1 then t else u := fun t u => by
    rcases hv with rfl | rfl <;> rfl
  rw [he]
  unfold leaveOff
  simp only [show (if Mode.ofCode v = .boost then
      startBoost z (((modeMarks z .off (s.modeWritten z (some v))).onZone z fun r => { r with debt := 0 }).recomputeU z)
      else ((modeMarks z .off (s.modeWritten z (some v))).onZone z fun r => { r with debt := 0 }).recomputeU z) =
      s.backOn z v from rfl, hsub, hwaited, hboost, State.backCalls]
  cases (s.zone z).subst with
  | absent => rcases hv with rfl | rfl <;> rfl
  | holdWindow => rcases hv with rfl | rfl <;> rfl
  | _ => rfl

end

/-- R10: the whole of leaving OFF. -/
theorem modeSet_back_leaves {v : Int} (hv : v = 0 ∨ v = 1) (hs : SettingsLaw s) (ho : s.mode z = .off)
    (hc : (s.zone z).calling = false) (hn : s.arb.holder = .nobody → NoClaimWaits s) :
    (s.modeSet z v).own = s.own ∧
      (s.modeSet z v).counter (.boost z) =
        (if v = 1 then (s.counter (.boost z)).timing (s.effN .boostLen) else s.counter (.boost z)) ∧
      (s.modeSet z v).zones = s.zones.set z
        { s.zone z with
          debt := 0
          warmArmed := false
          calling := s.backCalls z v
          urgency := if (s.zone z).subst = .forceCall ∨ (s.zone z).subst = .timed then s.effN .uLost else 0 } ∧
      ((s.backCalls z v = false ∨ s.arb.holder ≠ .nobody) →
        (s.modeSet z v).arb = s.arb ∧ (s.modeSet z v).air = s.air ∧ (s.modeSet z v).comp = s.comp ∧
        (s.modeSet z v).defr = s.defr ∧ (s.modeSet z v).doors = s.doors ∧
        ∀ i, i ≠ .boost z → i ≠ .alm z → (s.modeSet z v).counter i = s.counter i) ∧
      (s.backCalls z v = true → s.arb.holder = .nobody → ∃ r, (s.modeSet z v).arb.holder = .slot r) := by
  obtain ⟨harb, hair, hcomp, hdefr, hdoors, hset, hown, hcount⟩ := backOn_kept s z hv hs
  have hzones := backOn_zones s z hv hs
  have hboost := backOn_boost s z hv hs
  have hcall : ((s.backOn z v).zone z).calling = false := by rw [State.zone, hzones, PerZone.get_set_self]; exact hc
  have hclaims : (s.backOn z v).arb.holder = .nobody → NoClaimWaits (s.backOn z v) := by
    rw [harb, NoClaimWaits, hdefr, hdoors]
    exact hn
  rw [modeSet_back s z hv hs ho]
  cases hcalls : s.backCalls z v with
  | false =>
    rw [setCalling_same _ z false hcall]
    refine ⟨hown, hboost, ?_, fun _ => ⟨harb, hair, hcomp, hdefr, hdoors, hcount⟩, by simp⟩
    rw [hzones, ← hc]
  | true =>
    have hlaw : SettingsLaw (s.backOn z v) := (modeWritten_law s z hs (by omega) (by omega)).congr hset
    obtain ⟨hz, ho', hb⟩ := setCalling_true_leaves (s.backOn z v) z hlaw hclaims
    refine ⟨ho'.trans hown, (hb z).trans hboost, ?_, fun h => ?_, fun _ hh => ?_⟩
    · rw [hz, State.zone, hzones, PerZone.get_set_self, PerZone.set_set]
    · have hheld : (s.backOn z v).arb.holder ≠ .nobody := by rw [harb]; exact h.resolve_left (by simp)
      rw [setCalling_true_of_held _ z (.inr hheld)]
      exact ⟨harb, hair, hcomp, hdefr, hdoors, hcount⟩
    · obtain ⟨q, hq, -⟩ := setCalling_grants (s.backOn z v) z hcall (by rw [harb]; exact hh) (hclaims (by rw [harb]; exact hh))
      exact ⟨q, hq⟩

end

end Sys2Proof.Machine

/-! The obligation on writes of MODE (R6 to R11). -/

namespace Sys2Proof.Machine

section

variable (s : State)

/-- R6, R11, R16: FRESH into HOLIDAY, or back into NORMAL. -/
theorem setMode_holiday (tag : Byte) (value : Half) (ha : Accepting s) (hs : SettingsLaw s)
    (h : (s.mode .fresh = .normal ∧ value.toInt = 2) ∨ (s.mode .fresh = .holiday ∧ value.toInt = 0)) :
    ∃ t, exec (.setMode tag .fresh value) s =
        .next (replied ⟨0x03#8, tag, 0x13#8 :: halfBytes value⟩
          (.ok ([0x13#8] ++ intBytes value.toInt ++ [0x00#8])) t) ∧
      t.settings = { s.settings with written := putWritten s.settings.written 0x13 value.toInt } ∧
      t.sEff .fresh = (if value.toInt = 2 then 150 else s.eff (.setpoint .fresh)) ∧
      t.zones =
        { s.zones with
          fresh := { s.zones.fresh with warmArmed := false, urgency := t.urgencyNow .fresh } } ∧
      t.scanner = s.scanner ∧ t.arb = s.arb ∧ t.air = s.air ∧ t.comp = s.comp ∧ t.defr = s.defr ∧
      t.doors = s.doors ∧ t.link = s.link ∧
      (∀ i, i ≠ .alm .fresh → t.counter i = s.counter i) := by
  obtain ⟨hcode, hoff, hboost, hmode⟩ :
      Mode.ofCode value.toInt ≠ s.mode .fresh ∧ s.mode .fresh ≠ .off ∧ s.mode .fresh ≠ .boost ∧
        (Mode.ofCode value.toInt = .normal ∨ Mode.ofCode value.toInt = .holiday) := by
    rcases h with ⟨hm, hv⟩ | ⟨hm, hv⟩ <;> rw [hm, hv] <;> decide
  have hv : value.toInt = 2 ∨ value.toInt = 0 := h.imp And.right And.right
  have hallowed : ModeAllowed .fresh value.toInt := by rcases hv with hv | hv <;> simp [ModeAllowed, hv]
  have he := modeSet_marks s .fresh hcode hoff hmode
  obtain ⟨hsc, harb, hair, hcomp, hdefr, hdoors, hlink, hset⟩ :=
    modeMarks_kept (s.modeWritten .fresh (some value.toInt)) .fresh (s.mode .fresh)
  have hown := modeMarks_own _ .fresh (s.mode .fresh) (modeWritten_law s .fresh hs hallowed.1 hallowed.2.1)
  have hzones := modeMarks_zones (s.modeWritten .fresh (some value.toInt)) .fresh (s.mode .fresh)
  have hnow := modeMarks_urgencyNow (s.modeWritten .fresh (some value.toInt)) .fresh (s.mode .fresh)
  have hstep := setMode_replies s .fresh tag value ha hs hallowed (by rw [he, hown]; rfl)
  have hseff : (s.modeSet .fresh value.toInt).sEff .fresh = if value.toInt = 2 then 150 else s.eff (.setpoint .fresh) := by
    have hsp : (s.modeSet .fresh value.toInt).eff (.setpoint .fresh) = s.eff (.setpoint .fresh) := by
      rw [State.eff, (modeSet_kept s .fresh value.toInt).1]
      exact modeWritten_eff_of_ne s .fresh (.setpoint .fresh) (some value.toInt) (by simp)
    rw [State.sEff, modeSet_mode, hsp]
    rcases hv with hv | hv <;> rw [hv] <;> rfl
  refine ⟨_, hstep, (modeSet_kept s .fresh value.toInt).1, hseff, ?_⟩
  rw [he]
  refine ⟨?_, hsc, harb, hair, hcomp, hdefr, hdoors, hlink, fun i hi => ?_⟩
  · rw [hnow, hzones]
    rfl
  · by_cases hb : i = .boost .fresh
    · rw [hb, modeMarks_boost, if_neg hboost]
      rfl
    · rw [modeMarks_counter _ _ _ _ hb hi]
      rfl

/-- R9, R168: CHILL enters OFF. -/
theorem setMode_off (tag : Byte) (ha : Accepting s) (hs : SettingsLaw s) (hst : StackLaw s)
    (hn : (s.arb.holder = .nobody ∨ ∃ r, s.arb.holder = .slot r) → NoClaimWaits s) (ho : s.mode .chill ≠ .off) :
    ∃ t, exec (.setMode tag .chill 3#16) s =
        .next (replied ⟨0x03#8, tag, [0x14#8, 0x00#8, 0x03#8]⟩ (.ok [0x14#8, 0x00#8, 0x03#8, 0x00#8]) t) ∧
      t.settings = { s.settings with written := putWritten s.settings.written 0x14 3 } ∧ t.mode .chill = .off ∧
      (t.zone .chill).calling = false ∧ (t.zone .chill).debt = 0 ∧ (t.zone .chill).urgency = 0 ∧
      (t.zone .chill).subst = (s.zone .chill).subst ∧ t.slotOpen .chill = false ∧
      t.level (.zoneWarm .chill) = false ∧ t.level (.zoneCold .chill) = false ∧
      (t.counter (.alm .chill)).run = false ∧ (s.mode .chill = .boost → (t.counter (.boost .chill)).run = false) ∧
      (∀ z, z ≠ .chill → t.zone z = s.zone z) ∧ t.scanner = s.scanner ∧ t.link = s.link ∧
      (s.slotOpen .chill = false → t.arb = s.arb ∧ t.air = s.air ∧ t.comp = s.comp) := by
  obtain ⟨hended, hapart⟩ := modeSet_off_leaves s .chill hs hst ho fun h => hn (.inr h)
  obtain ⟨hset, hsc, hlink⟩ := modeSet_kept s .chill 3
  obtain ⟨hcall, hdebt, hurg, hsub⟩ := offRested_zone_self s .chill
  have hzone : ∀ y, (s.modeSet .chill 3).zone y = (s.offRested .chill).zone y := State.zone_congr hended.zones
  have hlevels := offRested_levels s .chill
  have hstep := setMode_replies s .chill tag 3#16 ha hs (by simp [ModeAllowed]) (hended.own.trans (offRested_own s .chill hs))
  refine ⟨s.modeSet .chill 3, hstep, hset, modeSet_mode s .chill 3, ?_, ?_, ?_, ?_, hended.closed, ?_, ?_, hended.alm,
    fun hb => ?_, fun z hz => ?_, hsc, hlink, hapart⟩
  · rw [hzone, hcall]
  · rw [hzone, hdebt]
  · rw [hzone, hurg]
  · rw [hzone, hsub]
  · rw [hended.levels _ (by simp), hlevels.1]
  · rw [hended.levels _ (by simp), hlevels.2]
  · rw [hended.boost, offRested_boost s .chill hb]
  · rw [hzone, offRested_zone_of_ne s .chill z hz]

/-- R7, R15: a write of BOOST to a zone in NORMAL or HOLIDAY. -/
theorem setMode_boost (tag : Byte) (z : Zone) (ha : Accepting s) (hs : SettingsLaw s) (hb : s.mode z ≠ .boost)
    (ho : s.mode z ≠ .off) (hn : (s.arb.holder = .nobody ∨ ∃ r, s.arb.holder = .slot r) → NoClaimWaits s) :
    ∃ t, exec (.setMode tag z 1#16) s =
        .next (replied ⟨0x03#8, tag, [byteOf (0x13 + zoneCode z), 0x00#8, 0x01#8]⟩
          (.ok [byteOf (0x13 + zoneCode z), 0x00#8, 0x01#8, 0x00#8]) t) ∧
      t.settings = { s.settings with written := putWritten s.settings.written (0x13 + zoneCode z) 1 } ∧
      t.mode z = .boost ∧ t.counter (.boost z) = (s.counter (.boost z)).timing (s.effN .boostLen) ∧
      t.zones = s.zones.set z
        { s.zone z with
          warmArmed := false
          calling :=
            (s.zone z).calling || (decide ((s.zone z).subst ≠ .ignore) && decide ((s.zone z).subst ≠ .timed))
          urgency :=
            if (s.zone z).subst = .forceCall ∨ (s.zone z).subst = .timed then s.effN .uLost
            else min 65535 ((s.zone z).debt * min 64 (2 * s.effN (.weight z)) / 16) } ∧
      (((s.zone z).calling = true ∨ (s.zone z).subst = .ignore ∨ (s.zone z).subst = .timed ∨
          s.arb.holder ≠ .nobody) →
        t.arb = s.arb ∧ t.air = s.air ∧ t.comp = s.comp ∧ t.defr = s.defr ∧ t.doors = s.doors ∧
        ∀ i, i ≠ .boost z → i ≠ .alm z → t.counter i = s.counter i) ∧
      ((s.zone z).calling = false → (s.zone z).subst ≠ .ignore → (s.zone z).subst ≠ .timed →
        s.arb.holder = .nobody → ∃ r, t.arb.holder = .slot r) ∧
      t.scanner = s.scanner ∧ t.link = s.link := by
  obtain ⟨hown, hcount, hzones⟩ := modeSet_boost_leaves s z hs hb ho fun h => hn (.inl h)
  obtain ⟨hset, hsc, hlink⟩ := modeSet_kept s z 1
  have hstep := setMode_replies s z tag 1#16 ha hs (by simp [ModeAllowed]) hown
  exact ⟨s.modeSet z 1, hstep, hset, modeSet_mode s z 1, hcount, hzones, modeSet_boost_apart s z hs hb ho,
    fun hc hi ht hh => modeSet_boost_grants s z hb ho (hn (.inl hh)) hc hi ht hh, hsc, hlink⟩

/-- R6, R7: a repeated write of BOOST. -/
theorem setMode_repeats (tag : Byte) (z : Zone) (ha : Accepting s) (hs : SettingsLaw s) (hb : s.mode z = .boost) :
    exec (.setMode tag z 1#16) s =
      .next (replied ⟨0x03#8, tag, [byteOf (0x13 + zoneCode z), 0x00#8, 0x01#8]⟩
        (.ok [byteOf (0x13 + zoneCode z), 0x00#8, 0x01#8, 0x00#8])
        { s with
          settings := { s.settings with written := putWritten s.settings.written (0x13 + zoneCode z) 1 }
          bank := s.bank.set (.boost z) ((s.counter (.boost z)).timing (s.effN .boostLen)) }) := by
  have he := modeSet_repeats s z hs hb
  have hstep := setMode_replies s z tag 1#16 ha hs (by simp [ModeAllowed]) (by
    rw [show (1#16).toInt = 1 from rfl, he])
  rw [show (1#16).toInt = 1 from rfl, he] at hstep
  exact hstep

/-- R8: a write of NORMAL or HOLIDAY that leaves BOOST. -/
theorem setMode_leaves_boost (tag : Byte) (z : Zone) (value : Half) (ha : Accepting s) (hs : SettingsLaw s)
    (hb : s.mode z = .boost) (hv : value.toInt = 0 ∨ (z = .fresh ∧ value.toInt = 2)) :
    ∃ t, exec (.setMode tag z value) s =
        .next (replied ⟨0x03#8, tag, byteOf (0x13 + zoneCode z) :: halfBytes value⟩
          (.ok ([byteOf (0x13 + zoneCode z)] ++ intBytes value.toInt ++ [0x00#8])) t) ∧
      t.settings = { s.settings with written := putWritten s.settings.written (0x13 + zoneCode z) value.toInt } ∧
      t.mode z = (if value.toInt = 2 then .holiday else .normal) ∧
      t.counter (.boost z) = (s.counter (.boost z)).stop ∧
      t.zones = s.zones.set z
        { s.zone z with
          warmArmed := false
          urgency :=
            if (s.zone z).subst = .forceCall ∨ (s.zone z).subst = .timed then s.effN .uLost
            else min 65535 ((s.zone z).debt * s.effN (.weight z) / 16) } ∧
      (∀ i, i ≠ .boost z → i ≠ .alm z → t.counter i = s.counter i) ∧
      t.scanner = s.scanner ∧ t.arb = s.arb ∧ t.air = s.air ∧ t.comp = s.comp ∧ t.defr = s.defr ∧
      t.doors = s.doors ∧ t.link = s.link := by
  have hval : value.toInt = 0 ∨ value.toInt = 2 := hv.imp id And.right
  have hallowed : ModeAllowed z value.toInt := by
    rcases hv with hv | ⟨hz, hv⟩ <;> simp [ModeAllowed, hv]
    exact hz
  have hcode : Mode.ofCode value.toInt = if value.toInt = 2 then .holiday else .normal := by
    rcases hval with hv | hv <;> rw [hv] <;> rfl
  have hweight : weightFor (Mode.ofCode value.toInt) (s.effN (.weight z)) = s.effN (.weight z) := by
    rcases hval with hv | hv <;> rw [hv] <;> rfl
  obtain ⟨hne, hoff, hmode⟩ : Mode.ofCode value.toInt ≠ s.mode z ∧ Mode.ofCode value.toInt ≠ .off ∧
      (Mode.ofCode value.toInt = .normal ∨ Mode.ofCode value.toInt = .holiday) := by
    rcases hval with hv | hv <;> rw [hb, hv] <;> decide
  have he := modeSet_marks s z hne (by simp [hb]) hmode
  obtain ⟨hsc, harb, hair, hcomp, hdefr, hdoors, hlink, hset⟩ :=
    modeMarks_kept (s.modeWritten z (some value.toInt)) z (s.mode z)
  have hown := modeMarks_own _ z (s.mode z) (modeWritten_law s z hs hallowed.1 hallowed.2.1)
  have hzones := modeMarks_zones (s.modeWritten z (some value.toInt)) z (s.mode z)
  rw [modeWritten_urgencyFor s z _ _ hoff, hweight] at hzones
  have hstep := setMode_replies s z tag value ha hs hallowed (by rw [he, hown]; rfl)
  refine ⟨_, hstep, (modeSet_kept s z value.toInt).1, (modeSet_mode s z _).trans hcode, ?_⟩
  rw [he]
  refine ⟨?_, hzones, fun i hi hal => ?_, hsc, harb, hair, hcomp, hdefr, hdoors, hlink⟩
  · rw [modeMarks_boost, if_pos hb]
    rfl
  · rw [modeMarks_counter _ _ _ _ hi hal]
    rfl

/-- R10: CHILL leaves OFF for NORMAL or BOOST. -/
theorem setMode_back (tag : Byte) (value : Half) (calls : Bool) (ha : Accepting s) (hs : SettingsLaw s) (hoff : OffLaw s)
    (hn : (s.arb.holder = .nobody ∨ ∃ r, s.arb.holder = .slot r) → NoClaimWaits s) (ho : s.mode .chill = .off)
    (hv : value.toInt = 0 ∨ value.toInt = 1) (hcalls : calls = s.backCalls .chill value.toInt) :
    ∃ t, exec (.setMode tag .chill value) s =
        .next (replied ⟨0x03#8, tag, 0x14#8 :: halfBytes value⟩
          (.ok ([0x14#8] ++ intBytes value.toInt ++ [0x00#8])) t) ∧
      t.settings = { s.settings with written := putWritten s.settings.written 0x14 value.toInt } ∧
      t.counter (.boost .chill) =
        (if value.toInt = 1 then (s.counter (.boost .chill)).timing (s.effN .boostLen) else s.counter (.boost .chill)) ∧
      t.zones = s.zones.set .chill
        { s.zone .chill with
          debt := 0
          warmArmed := false
          calling := calls
          urgency :=
            if (s.zone .chill).subst = .forceCall ∨ (s.zone .chill).subst = .timed then s.effN .uLost else 0 } ∧
      ((calls = false ∨ s.arb.holder ≠ .nobody) →
        t.arb = s.arb ∧ t.air = s.air ∧ t.comp = s.comp ∧ t.defr = s.defr ∧ t.doors = s.doors ∧
        ∀ i, i ≠ .boost .chill → i ≠ .alm .chill → t.counter i = s.counter i) ∧
      (calls = true → s.arb.holder = .nobody → ∃ r, t.arb.holder = .slot r) ∧
      t.scanner = s.scanner ∧ t.link = s.link := by
  subst hcalls
  obtain ⟨hown, hcount, hzones, hapart, hgrants⟩ :=
    modeSet_back_leaves s .chill hv hs ho (hoff .chill ho).1 fun h => hn (.inl h)
  obtain ⟨hset, hsc, hlink⟩ := modeSet_kept s .chill value.toInt
  have hallowed : ModeAllowed .chill value.toInt := by rcases hv with hv | hv <;> simp [ModeAllowed, hv]
  exact ⟨_, setMode_replies s .chill tag value ha hs hallowed hown, hset, hcount, hzones, hapart, hgrants, hsc, hlink⟩

end

/-- Settles O18, write by write: HOLIDAY and back, into OFF, into BOOST and out of it, and out of OFF. -/
theorem setModeHolidayAndOff : Obligations.SetModeHolidayAndOff := by
  unfold Obligations.SetModeHolidayAndOff
  refine ⟨fun tag value s ha hs h => setMode_holiday s tag value ha hs h,
    fun tag s ha hs hst hn ho => setMode_off s tag ha hs hst hn ho,
    fun tag z s ha hs => ⟨fun hb ho hn => setMode_boost s tag z ha hs hb ho hn, setMode_repeats s tag z ha hs,
      fun value hb hv => setMode_leaves_boost s tag z value ha hs hb hv⟩,
    fun tag value calls s ha hs hoff hn ho hv hcalls => ?_⟩
  exact setMode_back s tag value calls ha hs hoff hn ho hv hcalls

end Sys2Proof.Machine

/-! A close of a door (R24, R119, R142, R145, R146). -/

namespace Sys2Proof.Machine

section

variable (s : State) (d : Door)

/-! ### The door itself (R142, R146, R159) -/

theorem State.door_onDoor_self (f : DoorRec → DoorRec) : (s.onDoor d f).door d = f (s.door d) := by
  simp [State.door]

theorem State.door_onDoor_of_ne (e : Door) (f : DoorRec → DoorRec) (h : e ≠ d) : (s.onDoor d f).door e = s.door e := by
  simp [State.door, PerDoor.get_set_of_ne _ _ _ _ h]

/-- R142, R146, R159: the width captured and recorded, the door CLOSED, and its DOOR_AJAR ended. -/
def State.doorShut (s : State) (d : Door) : State :=
  let s := s.onCounter (.door d) Counter.capture
  let c := s.counter (.door d)
  setAjar d false (s.onDoor d fun r =>
    { r with isOpen := false, raw := false, differs := 0, lastWidth := c.result, widthOverflow := c.resultOverflow })

/-- R159: the capture of a running width counter. -/
theorem capture_of_run (c : Counter) (h : c.run = true) : c.capture =
    { c with result := c.count, resultOverflow := c.saturated, count := 0, saturated := false, part := 0 } := by
  simp [Counter.capture, h]

theorem doorShut_counter_self (h : (s.counter (.door d)).run = true) :
    (s.doorShut d).counter (.door d) =
      { s.counter (.door d) with
        result := (s.counter (.door d)).count, resultOverflow := (s.counter (.door d)).saturated, count := 0
        saturated := false, part := 0 } := by
  rw [← capture_of_run _ h]
  exact State.counter_onCounter_self s (.door d) _

theorem doorShut_counter_of_ne (i : CounterId) (h : i ≠ .door d) : (s.doorShut d).counter i = s.counter i :=
  State.counter_onCounter_of_ne s (.door d) i _ h

theorem doorShut_door_self (h : (s.counter (.door d)).run = true) :
    (s.doorShut d).door d =
      { s.door d with
        isOpen := false, raw := false, differs := 0, lastWidth := (s.counter (.door d)).count
        widthOverflow := (s.counter (.door d)).saturated, ajar := false } := by
  have hc := doorShut_counter_self s d h
  have hshut : (s.doorShut d).door d =
      { s.door d with
        isOpen := false, raw := false, differs := 0, lastWidth := ((s.doorShut d).counter (.door d)).result
        widthOverflow := ((s.doorShut d).counter (.door d)).resultOverflow, ajar := false } := by
    unfold State.doorShut setAjar
    dsimp only
    rw [show ∀ u i b, (State.setLevel i b u).door d = u.door d from fun _ _ _ => rfl, State.door_onDoor_self,
      State.door_onDoor_self]
    rfl
  rw [hshut, hc]

theorem doorShut_door_of_ne (e : Door) (h : e ≠ d) : (s.doorShut d).door e = s.door e := by
  unfold State.doorShut setAjar
  dsimp only
  rw [show ∀ u i b, (State.setLevel i b u).door e = u.door e from fun _ _ _ => rfl, State.door_onDoor_of_ne _ _ _ _ h,
    State.door_onDoor_of_ne _ _ _ _ h]
  rfl

theorem doorShut_level : (s.doorShut d).level (.doorAjar d) = false := State.level_setLevel_self _ _ _

theorem doorShut_kept :
    (s.doorShut d).settings = s.settings ∧ (s.doorShut d).zones = s.zones ∧ (s.doorShut d).scanner = s.scanner ∧
      (s.doorShut d).arb = s.arb ∧ (s.doorShut d).air = s.air ∧ (s.doorShut d).comp = s.comp ∧
      (s.doorShut d).defr = s.defr ∧ (s.doorShut d).link = s.link ∧ (s.doorShut d).own = s.own ∧
      (s.doorShut d).doors.pause = s.doors.pause ∧ (s.doorShut d).doors.pauseSpent = s.doors.pauseSpent := by
  refine ⟨?_, ?_, ?_, ?_, ?_, ?_, ?_, ?_, ?_, rfl, rfl⟩ <;> simp [State.doorShut]

/-! ### What the width gives (R24, R145) -/

theorem creditOf_eq (width gain minOpen : Nat) :
    creditOf width gain minOpen = if minOpen ≤ width then min 6000 (width * gain) else 0 := by
  rw [creditOf, limitedN_eq _ _ _ (by decide), Nat.max_eq_right (Nat.zero_le _)]

theorem frostOf_eq (width : Nat) : frostOf d width = width / (if d = .freezeDrawer then 10 else 30) := by
  cases d <;> rfl

theorem sat16_eq (n : Nat) : sat16 n = min 65535 n := by
  unfold sat16
  split <;> omega

/-- R24: a zone in OFF, or under a policy, takes no credit. -/
theorem takeCredit_spared (z : Zone) (credit : Nat)
    (h : s.mode z = .off ∨ (s.zone z).subst = .forceCall ∨ (s.zone z).subst = .timed ∨ (s.zone z).subst = .ignore) :
    takeCredit z credit s = s := by
  unfold takeCredit
  split
  · rfl
  · next hm => rcases h.resolve_left hm with h | h | h <;> rw [h]

/-- R24: the credit raises the debt, and the urgency with it. -/
theorem takeCredit_zones (z : Zone) (credit : Nat)
    (h : ¬ (s.mode z = .off ∨ (s.zone z).subst = .forceCall ∨ (s.zone z).subst = .timed ∨ (s.zone z).subst = .ignore)) :
    (takeCredit z credit s).zones =
      s.zones.set z
        { s.zone z with
          debt := min 60000 ((s.zone z).debt + credit)
          urgency := min 65535 (min 60000 ((s.zone z).debt + credit) * s.wEff z / 16) } := by
  simp only [not_or] at h
  obtain ⟨hm, hf, ht, hi⟩ := h
  have hlim : limitedN 0 60000 ((s.zone z).debt + credit) = min 60000 ((s.zone z).debt + credit) := by
    rw [limitedN_eq _ _ _ (by decide), Nat.max_eq_right (Nat.zero_le _)]
  have hgive : takeCredit z credit s =
      (s.onZone z fun r => { r with debt := limitedN 0 60000 (r.debt + credit) }).recomputeU z := by
    unfold takeCredit
    rw [if_neg hm]
    cases hs : (s.zone z).subst <;> simp_all
  rw [hgive, onZone_recomputeU, hlim]
  simp [State.urgencyFor, hf, ht, urgencyOf_eq]

/-- R119, R120: an addition to F that makes no defrost due. -/
theorem growFrost_of_not_due (n : Nat)
    (h : s.defr.phase ≠ .idle ∨
      ¬ ((s.effN .fDue ≤ min 65535 (s.defr.frost + n) ∧ s.effN .minGap ≤ (s.counter .gap).count) ∨
        s.effN .maxGap ≤ (s.counter .gap).count)) : growFrost n s = addFrost n s := by
  have hfrost : (addFrost n s).defr.frost = min 65535 (s.defr.frost + n) := sat16_eq _
  have hdue : dueCheck (addFrost n s) = addFrost n s := by
    unfold dueCheck
    rw [if_neg]
    rintro ⟨hp, hd, -⟩
    refine h.elim (fun hne => hne hp) fun hno => hno ?_
    rw [← hfrost]
    simp only [State.defrostDue, Bool.or_eq_true, Bool.and_eq_true, decide_eq_true_eq] at hd
    exact hd
  unfold growFrost
  dsimp only
  rw [hdue, ite_self]

/-! ### The pause (R142) -/

/-- R142: what the close that leaves every door CLOSED does to the pause. -/
theorem pauseAtLastClose_leaves :
    (pauseAtLastClose s).doors =
        { s.doors with
          pauseSpent := false, pause := if s.doors.pause = .deferred then .none else s.doors.pause } ∧
      (pauseAtLastClose s).counter .settle =
        (if s.doors.pause = .held ∨ s.doors.pause = .suspended then (s.counter .settle).timing 5
          else s.counter .settle) ∧
      (∀ i, i ≠ .settle → (pauseAtLastClose s).counter i = s.counter i) ∧ (pauseAtLastClose s).own = s.own := by
  have hset : (s.restartC .settle 5).counter .settle = (s.counter .settle).timing 5 :=
    State.counter_restartC_self _ _ _ (by decide) (.inl rfl)
  have hspent : ∀ b u i, (setPauseSpent b u).counter i = State.counter u i := fun _ _ _ => rfl
  have hpause : ∀ p u i, (setPause p u).counter i = State.counter u i := fun _ _ _ => rfl
  have hown : (s.restartC .settle 5).own = s.own := State.restartC_own _ _ _ (by decide)
  unfold pauseAtLastClose
  cases hp : s.doors.pause with
  | none => simp [hspent, hp]
  | deferred => simp [hspent, hpause]
  | held =>
    refine ⟨by simp [hp], by simp [hspent, hset], fun i hi => ?_, by simp [hown]⟩
    rw [hspent, State.counter_restartC_of_ne _ _ _ _ hi]
  | suspended =>
    refine ⟨by simp [hp], by simp [hspent, hset], fun i hi => ?_, by simp [hown]⟩
    rw [hspent, State.counter_restartC_of_ne _ _ _ _ hi]

/-! ### The close (R142) -/

/-- The state of a close before the pause is looked at: the door shut, and its width given. -/
def State.doorGave (s : State) (d : Door) : State :=
  addFrost (frostOf d (s.counter (.door d)).count)
    (takeCredit (doorZone d) (creditOf (s.counter (.door d)).count (s.effN .recoveryGain) (s.effN .recoveryMinOpen))
      (s.doorShut d))

theorem onClose_eq (hrun : (s.counter (.door d)).run = true)
    (hdue : s.defr.phase ≠ .idle ∨
      ¬ ((s.effN .fDue ≤ min 65535 (s.defr.frost + frostOf d (s.counter (.door d)).count) ∧
          s.effN .minGap ≤ (s.counter .gap).count) ∨
        s.effN .maxGap ≤ (s.counter .gap).count)) :
    onClose d s = if (s.doorGave d).anyOpen then s.doorGave d else pauseAtLastClose (s.doorGave d) := by
  obtain ⟨hset, -, -, -, -, -, hdefr, -⟩ := doorShut_kept s d
  have hwidth : ((s.doorShut d).counter (.door d)).result = (s.counter (.door d)).count := by
    rw [doorShut_counter_self s d hrun]
  set u := takeCredit (doorZone d)
    (creditOf (s.counter (.door d)).count (s.effN .recoveryGain) (s.effN .recoveryMinOpen)) (s.doorShut d) with hu
  have hgrow : growFrost (frostOf d (s.counter (.door d)).count) u = s.doorGave d := by
    refine growFrost_of_not_due u _ ?_
    have hgap : u.counter .gap = s.counter .gap := by
      rw [hu, State.counter, (takeCredit_keeps _ _ _).2.2.2.2.2.2.2.2.1]
      exact doorShut_counter_of_ne s d .gap (by simp)
    have heff : ∀ i, u.effN i = s.effN i := State.effN_congr (by simp [hu, hset])
    have hd : u.defr = s.defr := by simp [hu, hdefr]
    rw [hd, heff, heff, heff, hgap]
    exact hdue
  have hclose : onClose d s =
      let t := growFrost (frostOf d ((s.doorShut d).counter (.door d)).result)
        (takeCredit (doorZone d) (creditOf ((s.doorShut d).counter (.door d)).result ((s.doorShut d).effN .recoveryGain)
          ((s.doorShut d).effN .recoveryMinOpen)) (s.doorShut d))
      if t.anyOpen then t else pauseAtLastClose t := rfl
  rw [hclose, hwidth, State.effN_congr hset, State.effN_congr hset, ← hu, hgrow]

theorem doorGave_kept :
    (s.doorGave d).settings = s.settings ∧ (s.doorGave d).scanner = s.scanner ∧ (s.doorGave d).arb = s.arb ∧
      (s.doorGave d).air = s.air ∧ (s.doorGave d).comp = s.comp ∧ (s.doorGave d).link = s.link ∧
      (s.doorGave d).own = s.own ∧ (s.doorGave d).doors = (s.doorShut d).doors ∧
      (s.doorGave d).cond = (s.doorShut d).cond ∧ (s.doorGave d).bank = (s.doorShut d).bank := by
  obtain ⟨hset, hz, hsc, harb, hair, hcomp, hdefr, hlink, hown, -⟩ := doorShut_kept s d
  simp [State.doorGave, hset, hsc, harb, hair, hcomp, hlink, hown]

theorem doorGave_defr :
    (s.doorGave d).defr =
      { s.defr with frost := min 65535 (s.defr.frost + frostOf d (s.counter (.door d)).count) } := by
  obtain ⟨-, -, -, -, -, -, hdefr, -⟩ := doorShut_kept s d
  simp [State.doorGave, addFrost, sat16_eq, hdefr]

theorem doorGave_anyOpen (hrun : (s.counter (.door d)).run = true) :
    (s.doorGave d).anyOpen = true ↔ ∃ e, e ≠ d ∧ (s.door e).isOpen = true := by
  have hdoors : ∀ e, (s.doorGave d).door e = (s.doorShut d).door e := fun e => by
    simp [State.door, (doorGave_kept s d).2.2.2.2.2.2.2.1]
  simp only [State.anyOpen, List.any_eq_true, hdoors]
  constructor
  · rintro ⟨e, -, he⟩
    have hne : e ≠ d := by
      rintro rfl
      rw [doorShut_door_self s e hrun] at he
      cases he
    exact ⟨e, hne, by rwa [doorShut_door_of_ne s d e hne] at he⟩
  · rintro ⟨e, hne, he⟩
    exact ⟨e, by cases e <;> decide, by rwa [doorShut_door_of_ne s d e hne]⟩

theorem doorGave_zones (p : Prop)
    (hp : p ↔ s.mode (doorZone d) = .off ∨ (s.zone (doorZone d)).subst = .forceCall ∨
      (s.zone (doorZone d)).subst = .timed ∨ (s.zone (doorZone d)).subst = .ignore) (credit : Nat)
    (hc : credit = creditOf (s.counter (.door d)).count (s.effN .recoveryGain) (s.effN .recoveryMinOpen)) :
    (p → (s.doorGave d).zones = s.zones) ∧
      (¬ p → (s.doorGave d).zones = s.zones.set (doorZone d)
        { s.zone (doorZone d) with
          debt := min 60000 ((s.zone (doorZone d)).debt + credit)
          urgency := min 65535
            (min 60000 ((s.zone (doorZone d)).debt + credit) * s.wEff (doorZone d) / 16) }) := by
  obtain ⟨hset, hz, -⟩ := doorShut_kept s d
  have hzone : (s.doorShut d).zone (doorZone d) = s.zone (doorZone d) := State.zone_congr hz _
  have hmode : (s.doorShut d).mode (doorZone d) = s.mode (doorZone d) := State.mode_congr hset _
  have hw : (s.doorShut d).wEff (doorZone d) = s.wEff (doorZone d) := by
    rw [State.wEff, hmode, State.effN_congr hset]
    rfl
  have hgave : (s.doorGave d).zones = (takeCredit (doorZone d) credit (s.doorShut d)).zones := by
    rw [State.doorGave, ← hc, (addFrost_keeps _ _).2.2.1]
  rw [hp, hgave]
  refine ⟨fun h => ?_, fun h => ?_⟩
  · rw [takeCredit_spared _ _ _ (by rwa [hmode, hzone]), hz]
  · rw [takeCredit_zones _ _ _ (by rwa [hmode, hzone]), hzone, hw, hz]

/-- R142: a close leaves the pause, SETTLE and pause_spent by whether another door stands OPEN. -/
theorem onClose_leaves (hrun : (s.counter (.door d)).run = true)
    (hdue : s.defr.phase ≠ .idle ∨
      ¬ ((s.effN .fDue ≤ min 65535 (s.defr.frost + frostOf d (s.counter (.door d)).count) ∧
          s.effN .minGap ≤ (s.counter .gap).count) ∨
        s.effN .maxGap ≤ (s.counter .gap).count)) :
    ((onClose d s).own = s.own ∧ (onClose d s).cond = (s.doorShut d).cond ∧
        (onClose d s).doors.recs = (s.doorShut d).doors.recs ∧ (onClose d s).zones = (s.doorGave d).zones ∧
        (onClose d s).defr = (s.doorGave d).defr ∧
        ∀ i, i ≠ .settle → (onClose d s).counter i = (s.doorShut d).counter i) ∧
      ((∃ e, e ≠ d ∧ (s.door e).isOpen = true) →
        (onClose d s).doors.pause = s.doors.pause ∧ (onClose d s).doors.pauseSpent = s.doors.pauseSpent ∧
          (onClose d s).counter .settle = s.counter .settle) ∧
      ((∀ e, e ≠ d → (s.door e).isOpen = false) →
        (onClose d s).doors.pauseSpent = false ∧
          (onClose d s).doors.pause = (if s.doors.pause = .deferred then .none else s.doors.pause) ∧
          (onClose d s).counter .settle =
            (if s.doors.pause = .held ∨ s.doors.pause = .suspended then (s.counter .settle).timing 5
              else s.counter .settle)) := by
  obtain ⟨-, -, -, -, -, -, hown, hdoors, hcond, hbank⟩ := doorGave_kept s d
  obtain ⟨-, -, -, -, -, -, -, -, -, hpause, hspent⟩ := doorShut_kept s d
  have hcount : ∀ i, (s.doorGave d).counter i = (s.doorShut d).counter i := fun i => by simp [State.counter, hbank]
  have hsettle : (s.doorShut d).counter .settle = s.counter .settle := doorShut_counter_of_ne s d _ (by simp)
  have hopen := doorGave_anyOpen s d hrun
  rw [onClose_eq s d hrun hdue]
  cases ho : (s.doorGave d).anyOpen with
  | true =>
    obtain ⟨e, hne, he⟩ := hopen.mp ho
    simp only [if_true, hdoors, hcount, hcond, hown]
    refine ⟨⟨trivial, trivial, trivial, trivial, trivial, fun _ _ => trivial⟩, fun _ => ⟨hpause, hspent, hsettle⟩,
      fun h => ?_⟩
    rw [h e hne] at he
    cases he
  | false =>
    obtain ⟨hd, hset, hother, ho'⟩ := pauseAtLastClose_leaves (s.doorGave d)
    rw [hdoors, hpause] at hd
    rw [hdoors, hcount, hpause, hsettle] at hset
    simp only [Bool.false_eq_true, if_false]
    refine ⟨⟨ho'.trans hown, ?_, by rw [hd], by simp, by simp, fun i hi => (hother i hi).trans (hcount i)⟩, fun h => ?_,
      fun _ => ⟨by rw [hd], by rw [hd], hset⟩⟩
    · simp [hcond]
    · rw [hopen.mpr h] at ho
      cases ho

end

/-- Settles O51: the door shut, its width given to the debt and to F, and the pause by the doors that stand OPEN. -/
theorem doorCloseGivesItsWidth : Obligations.DoorCloseGivesItsWidth := by
  unfold Obligations.DoorCloseGivesItsWidth
  rintro d credit frost spared s hst hs hopen hrun hcredit rfl hspared hdue
  rw [← frostOf_eq] at hdue ⊢
  rw [← creditOf_eq] at hcredit
  obtain ⟨⟨hown, hcond, hrecs, hzones, hdefr, hother⟩, hpause⟩ := onClose_leaves s d hrun hdue
  obtain ⟨hspare, hgive⟩ := doorGave_zones s d spared hspared credit hcredit
  have hdoor : ∀ e, (onClose d s).door e = (s.doorShut d).door e := fun e => by simp [State.door, hrecs]
  obtain ⟨hset, hsc, harb, hair, hcomp, hlink, -⟩ := doorGave_kept s d
  have hkept : (onClose d s).settings = s.settings ∧ (onClose d s).scanner = s.scanner ∧ (onClose d s).arb = s.arb ∧
      (onClose d s).air = s.air ∧ (onClose d s).comp = s.comp ∧ (onClose d s).link = s.link := by
    rw [onClose_eq s d hrun hdue]
    split <;> simp [hset, hsc, harb, hair, hcomp, hlink]
  refine ⟨onClose d s, ?_, ?_, fun e he => ?_, ?_, ?_, ?_, fun h => ?_, fun h => ?_, hpause.1, hpause.2,
    fun i hi his => ?_, hkept⟩
  · show Host.Outcome.next (finish (doorCloses d s)) = _
    rw [doorCloses, if_pos hopen, finish_of_settled]
    exact hst.of_eq hkept.2.2.2.2.2 (by rw [hown])
  · rw [hdoor, doorShut_door_self s d hrun]
  · rw [hdoor, doorShut_door_of_ne s d e he]
  · rw [State.level, hcond]
    exact doorShut_level s d
  · rw [hother _ (by simp), doorShut_counter_self s d hrun]
  · rw [hdefr, doorGave_defr]
  · rw [hzones, hspare h]
  · rw [hzones, hgive h]
  · rw [hother i his, doorShut_counter_of_ne s d i hi]

end Sys2Proof.Machine

/-! A SET that changes an item's effective value (R182): what each owner does with it, beginning with the Zone Table and
the alarms. -/

namespace Sys2Proof.Machine

section

variable (s : State)

/-! ### What a SET hands on (R182, R183) -/

theorem repeatBoost_of_not_mode (i : Item) (v : Int) (h : ∀ z, i ≠ .mode z) : repeatBoost i v s = s := by
  unfold repeatBoost
  split
  · next z => exact absurd rfl (h z)
  · rfl

theorem storeItem_eq (i : Item) (v : Int) :
    storeItem i (i.settled v) s =
      if (s.stored i v).eff i = s.eff i then s.stored i v else handChange i (s.eff i) (s.stored i v) := rfl

section

variable (tag : Byte) (i : Item) (value : Half) (ha : Accepting s) (hs : SettingsLaw s) (hi : ∀ z, i ≠ .mode z)
  (hl : ∀ z, i = .lossPolicy z → value.toInt = -32768 ∨ (0 ≤ value.toInt ∧ value.toInt ≤ 2))

include ha hs hi hl

theorem set_leaves (t : State) (ht : storeItem i (i.settled value.toInt) s = t) (ho : t.own = s.own) :
    SetLeaves tag i value s t := by
  have h := setLeaves_store s tag i value ha (settleValue_eq s i _ hs (fun z hz => absurd hz (hi z)) hl)
  rw [repeatBoost_of_not_mode s i _ hi, ht] at h
  exact h (by rw [ho]; exact ha.1)

/-- R182: a SET that leaves the effective value hands nothing on. -/
theorem set_leaves_same (h : (s.stored i value.toInt).eff i = s.eff i) :
    SetLeaves tag i value s (s.stored i value.toInt) :=
  set_leaves s tag i value ha hs hi hl _ (by rw [storeItem_eq, if_pos h]) rfl

/-- R182: a changed value is handed to its owner. -/
theorem set_leaves_changed (h : (s.stored i value.toInt).eff i ≠ s.eff i) (t : State)
    (ht : handChange i (s.eff i) (s.stored i value.toInt) = t) (ho : t.own = s.own) : SetLeaves tag i value s t :=
  set_leaves s tag i value ha hs hi hl t (by rw [storeItem_eq, if_neg h, ht]) ho

end

/-! ### Values under a SET of another item -/

theorem stored_eff_of_ne (i j : Item) (v : Int) (h : j ≠ i) : (s.stored i v).eff j = s.eff j := by
  rw [stored_eff, if_neg h]

theorem stored_effN_of_ne (i j : Item) (v : Int) (h : j ≠ i) : (s.stored i v).effN j = s.effN j :=
  congrArg Int.toNat (stored_eff_of_ne s i j v h)

theorem stored_mode (i : Item) (v : Int) (h : ∀ z, i ≠ .mode z) (z : Zone) : (s.stored i v).mode z = s.mode z := by
  rw [State.mode, stored_eff_of_ne s i _ v (h z).symm]
  rfl

/-! ### The Zone Table (R15, R16) -/

theorem recomputeU_eq (z : Zone) :
    s.recomputeU z = { s with zones := s.zones.set z { s.zone z with urgency := s.urgencyFor z (s.zone z) } } := rfl

/-- R15: a changed weight gives the urgency anew. -/
theorem stored_weight_urgency (z : Zone) (v : Int) (r : ZoneRec) :
    (s.stored (.weight z) v).urgencyFor z r =
      if (r.subst = .forceCall ∨ r.subst = .timed) ∧ s.mode z ≠ .off then s.effN .uLost
      else min 65535
        (r.debt * (if s.mode z = .boost then min 64 (2 * (s.stored (.weight z) v).effN (.weight z))
          else (s.stored (.weight z) v).effN (.weight z)) / 16) := by
  have hw : (s.stored (.weight z) v).wEff z =
      if s.mode z = .boost then min 64 (2 * (s.stored (.weight z) v).effN (.weight z))
      else (s.stored (.weight z) v).effN (.weight z) := by
    rw [State.wEff, stored_mode s _ v (by simp)]
    cases s.mode z <;> rfl
  simp only [State.urgencyFor, hw, stored_mode s (.weight z) v (by simp) z, urgencyOf_eq,
    stored_effN_of_ne s (.weight z) .uLost v (by simp)]

/-- R15: a zone under FORCE_CALL or TIMED takes a changed U_LOST, and no other zone changes. -/
theorem uLostReaches_zone (z y : Zone) :
    (uLostReaches z s).zone y =
      if y = z ∧ ((s.zone z).subst = .forceCall ∨ (s.zone z).subst = .timed) then
        { s.zone y with urgency := s.urgencyFor y (s.zone y) }
      else s.zone y := by
  unfold uLostReaches
  by_cases hp : (s.zone z).subst = .forceCall ∨ (s.zone z).subst = .timed
  · rw [if_pos hp]
    by_cases hy : y = z
    · subst hy
      rw [if_pos ⟨rfl, hp⟩]
      exact s.zone_onZone_self y _
    · rw [if_neg fun h => hy h.1]
      exact s.zone_onZone_of_ne z y _ hy
  · rw [if_neg hp, if_neg fun h => hp h.2]

theorem uLostReaches_eq (z : Zone) : uLostReaches z s = { s with zones := (uLostReaches z s).zones } := by
  unfold uLostReaches
  split <;> rfl

theorem onULostChange_eq : onULostChange s = { s with zones := (onULostChange s).zones } := by
  unfold onULostChange
  rw [uLostReaches_eq (uLostReaches .chill (uLostReaches .fresh s)), uLostReaches_eq (uLostReaches .fresh s),
    uLostReaches_eq s]

/-- R15: a changed U_LOST reaches every zone under FORCE_CALL or TIMED. -/
theorem onULostChange_zone (y : Zone) :
    (onULostChange s).zone y =
      if (s.zone y).subst = .forceCall ∨ (s.zone y).subst = .timed then
        { s.zone y with urgency := s.urgencyFor y (s.zone y) }
      else s.zone y := by
  have hset : ∀ z u r, (uLostReaches z u).urgencyFor y r = State.urgencyFor u y r := fun z u r =>
    urgencyFor_congr (by simp) y r
  unfold onULostChange
  cases y <;> simp [uLostReaches_zone, hset]

/-- R15: what a changed U_LOST makes of a zone's record. -/
theorem stored_uLost_zone (v : Int) (y : Zone) :
    (onULostChange (s.stored .uLost v)).zone y =
      if ((s.zone y).subst = .forceCall ∨ (s.zone y).subst = .timed) ∧ s.mode y ≠ .off then
        { s.zone y with urgency := (s.stored .uLost v).effN .uLost }
      else if (s.zone y).subst = .forceCall ∨ (s.zone y).subst = .timed then
        { s.zone y with urgency := min 65535 ((s.zone y).debt * s.wEff y / 16) }
      else s.zone y := by
  have hmode := stored_mode s .uLost v (by simp) y
  have hw : (s.stored .uLost v).wEff y = s.wEff y := by
    rw [State.wEff, hmode, stored_effN_of_ne s .uLost _ v (by simp)]
    rfl
  have hzone : (s.stored .uLost v).zone y = s.zone y := rfl
  rw [onULostChange_zone, hzone, State.urgencyFor, hmode, hw, urgencyOf_eq]
  by_cases hp : (s.zone y).subst = .forceCall ∨ (s.zone y).subst = .timed
  · by_cases ho : s.mode y = .off <;> simp [hp, ho]
  · simp [hp]

/-! ### Alarms (R16, R167) -/

/-- R5, R16: a changed setpoint disarms the warm alarm; not in HOLIDAY with the alarm disarmed. -/
theorem onSetpointChange_cases (z : Zone) :
    (s.mode z = .holiday → (s.zone z).warmArmed = false → onSetpointChange z s = s) ∧
      ((s.mode z ≠ .holiday ∨ (s.zone z).warmArmed = true) →
        onSetpointChange z s =
          evalAlarm z .change { s with zones := s.zones.set z { s.zone z with warmArmed := false } }) := by
  refine ⟨fun hm hw => ?_, fun h => ?_⟩
  · simp [onSetpointChange, hm, hw]
  · rw [onSetpointChange, if_neg]
    · rfl
    · rintro ⟨hm, hw⟩
      rcases h with h | h
      · exact h hm
      · rw [hw] at h
        cases h

/-- R161: the owner's write of a length. -/
theorem writeRunning_eq (i : CounterId) (n : Nat) :
    s.writeRunning i n = s.setCounter i ((s.counter i).reloaded n) := by
  unfold State.writeRunning Counter.reloaded State.writeC State.onCounter Counter.write
  cases h : (s.counter i).run with
  | true => rfl
  | false =>
    have : s.bank.set i (s.counter i) = s.bank := by
      unfold State.counter
      cases i <;> simp [Bank.set, Bank.get]
    simp [State.setCounter, this]

/-- R161, R167, R182: a changed ALARM_DELAY reaches the reload of each ALM counter that runs. -/
theorem governed_alarmDelay :
    governed .alarmDelay s =
      { s with
        bank :=
          { s.bank with
            alm :=
              { fresh := s.bank.alm.fresh.reloaded s.alarmLength, chill := s.bank.alm.chill.reloaded s.alarmLength
                freeze := s.bank.alm.freeze.reloaded s.alarmLength } } } := by
  show ((s.writeRunning (.alm .fresh) s.alarmLength).writeRunning (.alm .chill) s.alarmLength).writeRunning (.alm .freeze)
    s.alarmLength = _
  simp only [writeRunning_eq]
  rfl

end

end Sys2Proof.Machine

/-! A changed effective value at the Compressor, the ambient, the due check and the doors (R42, R107, R120, R146), and the
obligation on written values. -/

namespace Sys2Proof.Machine

section

variable (s : State)

/-! ### Speed limits and the ambient (R42, R107) -/

/-- R107: changed limits move the command and the target of a RUNNING compressor alone. -/
theorem onLimitChange_cases (hlim : s.effN .nMin ≤ s.effN .nMax) :
    (s.comp.state ≠ .running → onLimitChange s = s) ∧
      (s.comp.state = .running →
        onLimitChange s =
          { s with
            comp :=
              { s.comp with
                command := max (s.effN .nMin) (min (s.effN .nMax) s.comp.command)
                target :=
                  if s.comp.stopHeld then s.effN .nMin
                  else max (s.effN .nMin) (min (s.effN .nMax) s.comp.target) } }) := by
  have hspeed : ∀ n, s.limitSpeed n = max (s.effN .nMin) (min (s.effN .nMax) n) := fun n => limitedN_eq _ _ _ hlim
  refine ⟨fun h => ?_, fun h => ?_⟩
  · unfold onLimitChange
    cases hst : s.comp.state with
    | running => exact absurd hst h
    | _ => rfl
  · have he : onLimitChange s = s.onComp fun c =>
        { c with
          command := s.limitSpeed c.command, target := if c.stopHeld then s.nMin else s.limitSpeed c.target } := by
      unfold onLimitChange
      rw [h]
    rw [he]
    simp only [hspeed]
    rfl

/-- R42: a changed AMB_REF is the ambient while AMBIENT gives none. -/
theorem onAmbRefChange_cases :
    (((s.channel .ambient).state = .lost ∨ (s.channel .ambient).tf = none) →
        onAmbRefChange s =
          { s with comp := { s.comp with ambient := s.eff .ambRef }, defr := { s.defr with ambient := s.eff .ambRef } }) ∧
      ((s.channel .ambient).state ≠ .lost → (s.channel .ambient).tf ≠ none → onAmbRefChange s = s) := by
  refine ⟨fun h => ?_, fun h1 h2 => ?_⟩
  · have hamb : s.ambientInUse = s.eff .ambRef := by
      unfold State.ambientInUse
      rcases h with h | h
      · rw [h]
      · rw [h]
        cases (s.channel .ambient).state <;> rfl
    simp only [onAmbRefChange, if_pos h, onAmbientSample, hamb]
    rfl
  · simp [onAmbRefChange, h1, h2]

/-! ### The due check (R120, R122) -/

/-- R120: the conditions under which the due check enters PENDING. -/
def DueNow (s : State) : Prop :=
  s.defr.phase = .idle ∧ s.level .heaterStuck = false ∧
    ((s.effN .fDue ≤ s.defr.frost ∧ s.effN .minGap ≤ (s.counter .gap).count) ∨ s.effN .maxGap ≤ (s.counter .gap).count)

theorem dueCheck_of_not_due (h : ¬ DueNow s) : dueCheck s = s := by
  unfold dueCheck
  rw [if_neg]
  rintro ⟨hp, hd, hl⟩
  simp only [State.defrostDue, Bool.or_eq_true, Bool.and_eq_true, decide_eq_true_eq] at hd
  exact h ⟨hp, hl, hd⟩

theorem dueCheck_of_due (h : DueNow s) : dueCheck s = enterPending s := by
  obtain ⟨hp, hl, hd⟩ := h
  have hdue : s.defrostDue = true := by
    simp only [State.defrostDue, Bool.or_eq_true, Bool.and_eq_true, decide_eq_true_eq]
    exact hd
  rw [dueCheck, if_pos ⟨hp, hdue, hl⟩]

/-- R122: a refused claim leaves PENDING. -/
theorem enterPending_refused (hl : s.level .heaterStuck = false) (hh : s.arb.holder = .door ∨ s.arb.holder = .service) :
    enterPending s =
      { s with
        defr :=
          { s.defr with
            phase := .pending
            heaterDrive :=
              decide (s.arb.holder = .service) && s.defr.svcHeater && decide (s.defr.compState ≠ .running) } } := by
  have he : enterPending s = setPhase .pending s := by
    unfold enterPending
    rcases hh with hh | hh <;> simp [hh, Holder.isFree]
  have hwanted : (s.onDefr fun d => { d with phase := .pending }).heaterWanted =
      (decide (s.arb.holder = .service) && s.defr.svcHeater && decide (s.defr.compState ≠ .running)) := by
    have hl' : (s.onDefr fun d => { d with phase := .pending }).level .heaterStuck = false := hl
    unfold State.heaterWanted
    rw [hl']
    rcases hh with hh | hh <;> by_cases hc : s.defr.compState = .running <;> simp [hh, hc]
  rw [he, ← hwanted]
  rfl

/-- R122: the claim that PENDING makes at once where the path is free. -/
theorem enterPending_taken (hs : SettingsLaw s) (hr : s.defr.resumeHeat = false) (hf : s.arb.holder.isFree = true) :
    (enterPending s).own = s.own ∧ (enterPending s).arb.holder = .defrost ∧
      (enterPending s).level .defrostActive = true ∧ (enterPending s).settings = s.settings ∧
      (enterPending s).defr.frost = s.defr.frost := by
  set u := setPhase .pending s with hu
  have hfree : u.arb.holder.isFree = true := by simpa [hu] using hf
  have he : enterPending s = claimDefrost u := by simp [enterPending, ← hu, hfree]
  have hlaw : SettingsLaw u := hs.congr (by simp [hu])
  obtain ⟨hfrost, -⟩ := enterFirstPhase_frostKept u.defrostTaken
  rw [he]
  refine ⟨?_, ?_, ?_, by simp [hu], ?_⟩
  · rw [claimDefrost_own u hlaw hr]
    simp [hu]
  · rw [claimDefrost_eq, (tellHolder_keeps _).2.2.2.2.1, (enterFirstPhase_keeps _).2.2.2.2.1, defrostTaken_arb u hfree]
  · rw [claimDefrost_eq, tellHolder_level_of_ne _ _ (by decide), State.level, (enterFirstPhase_keeps _).2.2.2.2.2.2.1]
    exact State.level_setLevel_self _ _ _
  · rw [claimDefrost_eq, tellHolder_defr]
    exact hfrost.trans (by rw [defrostTaken_defr]; rfl)

/-! ### AJAR_TIME (R146) -/

/-- R146: a door that stands OPEN for AJAR_TIME. -/
def State.openTooLong (s : State) (d : Door) : Bool :=
  (s.door d).isOpen && decide (s.effN .ajarTime ≤ (s.counter (.door d)).count)

theorem setAjar_door_self (d : Door) (b : Bool) : (setAjar d b s).door d = { s.door d with ajar := b } :=
  s.door_onDoor_self d fun r => { r with ajar := b }

theorem setAjar_door_of_ne (d e : Door) (b : Bool) (h : e ≠ d) : (setAjar d b s).door e = s.door e :=
  s.door_onDoor_of_ne d e (fun r => { r with ajar := b }) h

theorem checkAjar_eq (d : Door) :
    checkAjar d s = if (s.openTooLong d && !(s.door d).ajar) then setAjar d true s else s := by
  unfold checkAjar State.openTooLong
  cases (s.door d).isOpen <;> cases (s.door d).ajar <;> simp

theorem checkAjar_door_self (d : Door) :
    (checkAjar d s).door d = { s.door d with ajar := (s.door d).ajar || s.openTooLong d } := by
  have hsame : ∀ b, (s.door d).ajar = b → ({ s.door d with ajar := b } : DoorRec) = s.door d := fun b hb => by rw [← hb]
  rw [checkAjar_eq]
  cases ho : s.openTooLong d <;> cases ha : (s.door d).ajar <;> simp [setAjar_door_self, hsame, ha]

theorem checkAjar_door_of_ne (d e : Door) (h : e ≠ d) : (checkAjar d s).door e = s.door e := by
  rw [checkAjar_eq]
  split
  · exact setAjar_door_of_ne s d e true h
  · rfl

theorem checkAjar_level_self (d : Door) :
    (checkAjar d s).level (.doorAjar d) = (s.level (.doorAjar d) || (!(s.door d).ajar && s.openTooLong d)) := by
  have hset : (setAjar d true s).level (.doorAjar d) = true := State.level_setLevel_self _ _ _
  rw [checkAjar_eq]
  cases s.openTooLong d <;> cases (s.door d).ajar <;> simp [hset]

theorem checkAjar_level_of_ne (d : Door) (c : Cond) (h : c ≠ .doorAjar d) : (checkAjar d s).level c = s.level c := by
  rw [checkAjar_eq]
  split
  · exact State.level_setLevel_of_ne _ _ _ _ h
  · rfl

/-- R146: the comparison of one door leaves what the others compare. -/
theorem checkAjar_openTooLong (d e : Door) (h : e ≠ d) : (checkAjar d s).openTooLong e = s.openTooLong e := by
  have hcount : (checkAjar d s).counter (.door e) = s.counter (.door e) := by simp [State.counter]
  rw [State.openTooLong, checkAjar_door_of_ne s d e h, hcount, State.effN_congr (s := s) (by simp)]
  rfl

/-- R146: a changed AJAR_TIME is compared with every door that stands OPEN. -/
theorem onAjarTimeChange_leaves :
    (∀ d, (onAjarTimeChange s).door d = { s.door d with ajar := (s.door d).ajar || s.openTooLong d }) ∧
      (∀ d, (onAjarTimeChange s).level (.doorAjar d) =
        (s.level (.doorAjar d) || (!(s.door d).ajar && s.openTooLong d))) ∧
      ∀ c, (∀ d, c ≠ .doorAjar d) → (onAjarTimeChange s).level c = s.level c := by
  unfold onAjarTimeChange
  refine ⟨fun d => ?_, fun d => ?_, fun c hc => ?_⟩
  · cases d <;> simp [checkAjar_door_self, checkAjar_door_of_ne, checkAjar_openTooLong]
  · cases d <;> simp [checkAjar_level_self, checkAjar_level_of_ne, checkAjar_door_of_ne, checkAjar_openTooLong]
  · simp [checkAjar_level_of_ne, hc]

end

end Sys2Proof.Machine

/-! The obligation on written values (R182, R183): every item and its owner. -/

namespace Sys2Proof.Machine

section

variable (tag : Byte) (value : Half) (s : State) (ha : Accepting s) (hs : SettingsLaw s)

include ha hs

/-- R15: a changed W. -/
theorem set_weight (z : Zone) (h : (s.stored (.weight z) value.toInt).eff (.weight z) ≠ s.eff (.weight z)) :
    SetLeaves tag (.weight z) value s
      { s.stored (.weight z) value.toInt with
        zones := s.zones.set z
          { s.zone z with
            urgency :=
              if ((s.zone z).subst = .forceCall ∨ (s.zone z).subst = .timed) ∧ s.mode z ≠ .off then s.effN .uLost
              else min 65535
                ((s.zone z).debt * (if s.mode z = .boost then min 64 (2 * (s.stored (.weight z) value.toInt).effN (.weight z))
                  else (s.stored (.weight z) value.toInt).effN (.weight z)) / 16) } } := by
  refine set_leaves_changed s tag _ value ha hs (by simp) (by simp) h _ ?_ rfl
  show (s.stored (.weight z) value.toInt).recomputeU z = _
  rw [recomputeU_eq, stored_weight_urgency]
  rfl

/-- R15: a changed U_LOST. -/
theorem set_uLost (h : (s.stored .uLost value.toInt).eff .uLost ≠ s.eff .uLost) :
    ∃ t, SetLeaves tag .uLost value s t ∧
      (∀ z, t.zone z =
        if ((s.zone z).subst = .forceCall ∨ (s.zone z).subst = .timed) ∧ s.mode z ≠ .off then
          { s.zone z with urgency := (s.stored .uLost value.toInt).effN .uLost }
        else if (s.zone z).subst = .forceCall ∨ (s.zone z).subst = .timed then
          { s.zone z with urgency := min 65535 ((s.zone z).debt * s.wEff z / 16) }
        else s.zone z) ∧
      t = { s.stored .uLost value.toInt with zones := t.zones } :=
  ⟨onULostChange (s.stored .uLost value.toInt),
    set_leaves_changed s tag _ value ha hs (by simp) (by simp) h _ rfl (by rw [onULostChange_eq]; rfl),
    stored_uLost_zone s value.toInt, onULostChange_eq _⟩

/-- R16: a changed S. -/
theorem set_setpoint (z : Zone) (h : (s.stored (.setpoint z) value.toInt).eff (.setpoint z) ≠ s.eff (.setpoint z)) :
    (s.mode z = .holiday → (s.zone z).warmArmed = false →
        SetLeaves tag (.setpoint z) value s (s.stored (.setpoint z) value.toInt)) ∧
      ((s.mode z ≠ .holiday ∨ (s.zone z).warmArmed = true) →
        SetLeaves tag (.setpoint z) value s
          (evalAlarm z .change
            { s.stored (.setpoint z) value.toInt with
              zones := s.zones.set z { s.zone z with warmArmed := false } })) := by
  have hlaw := hs.stored (.setpoint z) value.toInt
  have hmode := stored_mode s (.setpoint z) value.toInt (by simp) z
  obtain ⟨hkeep, hdisarm⟩ := onSetpointChange_cases (s.stored (.setpoint z) value.toInt) z
  rw [hmode] at hkeep hdisarm
  refine ⟨fun hm hw => ?_, fun hc => ?_⟩
  · exact set_leaves_changed s tag _ value ha hs (by simp) (by simp) h _ (hkeep hm hw) rfl
  · exact set_leaves_changed s tag _ value ha hs (by simp) (by simp) h _ (hdisarm hc) (evalAlarm_own _ _ _ hlaw)

/-- R167: a changed ALARM_HI or ALARM_LO. -/
theorem set_alarmLimit (i : Item) (z : Zone) (hi : i = .alarmHi z ∨ i = .alarmLo z)
    (h : (s.stored i value.toInt).eff i ≠ s.eff i) :
    SetLeaves tag i value s (evalAlarm z .change (s.stored i value.toInt)) := by
  have hown := evalAlarm_own _ z .change (hs.stored i value.toInt)
  rcases hi with rfl | rfl <;> exact set_leaves_changed s tag _ value ha hs (by simp) (by simp) h _ rfl hown

/-- R161, R167: a changed ALARM_DELAY. -/
theorem set_alarmDelay (h : (s.stored .alarmDelay value.toInt).eff .alarmDelay ≠ s.eff .alarmDelay) :
    SetLeaves tag .alarmDelay value s
      (evalAlarm .freeze .change (evalAlarm .chill .change (evalAlarm .fresh .change
        { s.stored .alarmDelay value.toInt with
          bank :=
            { s.bank with
              alm :=
                { fresh := s.bank.alm.fresh.reloaded ((s.stored .alarmDelay value.toInt).effN .alarmDelay * 60)
                  chill := s.bank.alm.chill.reloaded ((s.stored .alarmDelay value.toInt).effN .alarmDelay * 60)
                  freeze := s.bank.alm.freeze.reloaded ((s.stored .alarmDelay value.toInt).effN .alarmDelay * 60) } } }))) := by
  have hlaw : SettingsLaw (governed .alarmDelay (s.stored .alarmDelay value.toInt)) :=
    (hs.stored .alarmDelay value.toInt).congr (by simp)
  refine set_leaves_changed s tag _ value ha hs (by simp) (by simp) h _ ?_ ?_
  · show evalAllAlarms (governed .alarmDelay (s.stored .alarmDelay value.toInt)) = _
    rw [governed_alarmDelay]
    rfl
  · rw [governed_alarmDelay] at hlaw
    exact evalAllAlarms_own _ hlaw

/-- R107: a changed N_MIN or N_MAX. -/
theorem set_speedLimit (i : Item) (hi : i = .nMin ∨ i = .nMax) (h : (s.stored i value.toInt).eff i ≠ s.eff i) :
    (s.comp.state ≠ .running → SetLeaves tag i value s (s.stored i value.toInt)) ∧
      (s.comp.state = .running →
        SetLeaves tag i value s
          { s.stored i value.toInt with
            comp :=
              { s.comp with
                command := max ((s.stored i value.toInt).effN .nMin) (min ((s.stored i value.toInt).effN .nMax) s.comp.command)
                target :=
                  if s.comp.stopHeld then (s.stored i value.toInt).effN .nMin
                  else max ((s.stored i value.toInt).effN .nMin)
                    (min ((s.stored i value.toInt).effN .nMax) s.comp.target) } }) := by
  obtain ⟨hkeep, hmove⟩ := onLimitChange_cases _ (hs.stored i value.toInt).nMin_le_nMax
  have hleaves : ∀ t, onLimitChange (s.stored i value.toInt) = t → t.own = s.own → SetLeaves tag i value s t := by
    rcases hi with rfl | rfl <;> exact set_leaves_changed s tag _ value ha hs (by simp) (by simp) h
  exact ⟨fun hst => hleaves _ (hkeep hst) rfl, fun hst => hleaves _ (hmove hst) rfl⟩

/-- R42: a changed AMB_REF. -/
theorem set_ambRef (h : (s.stored .ambRef value.toInt).eff .ambRef ≠ s.eff .ambRef) :
    (((s.channel .ambient).state = .lost ∨ (s.channel .ambient).tf = none) →
        SetLeaves tag .ambRef value s
          { s.stored .ambRef value.toInt with
            comp := { s.comp with ambient := (s.stored .ambRef value.toInt).eff .ambRef }
            defr := { s.defr with ambient := (s.stored .ambRef value.toInt).eff .ambRef } }) ∧
      ((s.channel .ambient).state ≠ .lost → (s.channel .ambient).tf ≠ none →
        SetLeaves tag .ambRef value s (s.stored .ambRef value.toInt)) := by
  obtain ⟨hgive, hkeep⟩ := onAmbRefChange_cases (s.stored .ambRef value.toInt)
  exact ⟨fun hc => set_leaves_changed s tag _ value ha hs (by simp) (by simp) h _ (hgive hc) rfl,
    fun h1 h2 => set_leaves_changed s tag _ value ha hs (by simp) (by simp) h _ (hkeep h1 h2) rfl⟩

/-- R120, R122: a changed F_DUE, MIN_GAP or MAX_GAP. -/
theorem set_dueItem (i : Item) (hr : ResumeLaw s) (hi : i = .fDue ∨ i = .minGap ∨ i = .maxGap)
    (h : (s.stored i value.toInt).eff i ≠ s.eff i) :
    (¬ DueNow (s.stored i value.toInt) → SetLeaves tag i value s (s.stored i value.toInt)) ∧
      (DueNow (s.stored i value.toInt) → (s.arb.holder = .door ∨ s.arb.holder = .service) →
        SetLeaves tag i value s
          { s.stored i value.toInt with
            defr :=
              { s.defr with
                phase := .pending
                heaterDrive :=
                  decide (s.arb.holder = .service) && s.defr.svcHeater && decide (s.defr.compState ≠ .running) } }) ∧
      (DueNow (s.stored i value.toInt) → (s.arb.holder = .nobody ∨ ∃ r, s.arb.holder = .slot r) →
        ∃ t, SetLeaves tag i value s t ∧ t.arb.holder = .defrost ∧ t.level .defrostActive = true ∧
          t.settings = (s.stored i value.toInt).settings ∧ t.defr.frost = s.defr.frost) := by
  set w := s.stored i value.toInt with hw
  have hleaves : ∀ t, dueCheck w = t → t.own = s.own → SetLeaves tag i value s t := by
    rcases hi with rfl | rfl | rfl <;> exact set_leaves_changed s tag _ value ha hs (by simp) (by simp) h
  refine ⟨fun hd => hleaves _ (dueCheck_of_not_due w hd) rfl, fun hd hh => ?_, fun hd hh => ?_⟩
  · exact hleaves _ ((dueCheck_of_due w hd).trans (enterPending_refused w hd.2.1 hh)) rfl
  · have hresume : w.defr.resumeHeat = false := by
      by_contra hyes
      have hidle : s.defr.phase = .idle := hd.1
      rw [hr (Bool.eq_true_of_not_eq_false hyes)] at hidle
      cases hidle
    have hfree : w.arb.holder.isFree = true := by
      show s.arb.holder.isFree = true
      rcases hh with hh | ⟨r, hh⟩ <;> rw [hh] <;> rfl
    obtain ⟨hown, htaken⟩ := enterPending_taken w (hs.stored i value.toInt) hresume hfree
    exact ⟨enterPending w, hleaves _ (dueCheck_of_due w hd) hown, htaken⟩

/-- R146: a changed AJAR_TIME. -/
theorem set_ajarTime (h : (s.stored .ajarTime value.toInt).eff .ajarTime ≠ s.eff .ajarTime) :
    ∃ t, SetLeaves tag .ajarTime value s t ∧ t.settings = (s.stored .ajarTime value.toInt).settings ∧
      (∀ d, t.door d =
        { s.door d with
          ajar := (s.door d).ajar ||
            ((s.door d).isOpen &&
              decide ((s.stored .ajarTime value.toInt).effN .ajarTime ≤ (s.counter (.door d)).count)) }) ∧
      (∀ d, t.level (.doorAjar d) =
        (s.level (.doorAjar d) ||
          (!(s.door d).ajar && (s.door d).isOpen &&
            decide ((s.stored .ajarTime value.toInt).effN .ajarTime ≤ (s.counter (.door d)).count)))) ∧
      (∀ c, (∀ d, c ≠ .doorAjar d) → t.level c = s.level c) ∧ t.zones = s.zones ∧ t.scanner = s.scanner ∧
      t.arb = s.arb ∧ t.air = s.air ∧ t.comp = s.comp ∧ t.defr = s.defr ∧ t.bank = s.bank ∧ t.link = s.link := by
  obtain ⟨hdoor, hajar, hlevel⟩ := onAjarTimeChange_leaves (s.stored .ajarTime value.toInt)
  refine ⟨onAjarTimeChange (s.stored .ajarTime value.toInt),
    set_leaves_changed s tag _ value ha hs (by simp) (by simp) h _ rfl ?_, ?_, hdoor, fun d => ?_, hlevel, ?_⟩
  · simp [onAjarTimeChange, State.stored]
  · simp [onAjarTimeChange]
  · rw [hajar, Bool.and_assoc]
    rfl
  · simp [onAjarTimeChange, State.stored]

/-- R19: LOSS_POLICY waits for a sample. -/
theorem set_lossPolicy (z : Zone) (hv : value.toInt = -32768 ∨ (0 ≤ value.toInt ∧ value.toInt ≤ 2)) :
    SetLeaves tag (.lossPolicy z) value s (s.stored (.lossPolicy z) value.toInt) := by
  refine set_leaves s tag _ value ha hs (by simp) (fun _ _ => hv) _ ?_ rfl
  rw [storeItem_eq]
  split <;> rfl

end

/-- Settles O16: the effective values after a write and a drop, and each owner's part in a changed one. -/
theorem writtenValueIsEffective : Obligations.WrittenValueIsEffective := by
  unfold Obligations.WrittenValueIsEffective
  refine ⟨fun t i j v => ⟨?_, ?_, ?_, ?_, fun h => ⟨t.eff_write_of_ne _ h, t.eff_write_of_ne _ h⟩⟩,
    fun tag i value s w ha hs hr hw => ?_⟩
  · simp [Settings.eff_write]
  · simp [Settings.follows_write]
  · simp [Settings.eff_write]
  · simp [Settings.follows_write]
  subst hw
  refine ⟨fun hi h => ?_, ?_, fun h => ⟨?_, ?_, ?_, fun z hi => ?_, ?_, fun hi => ?_, ?_, fun hi due hdue => ?_, ?_⟩⟩
  · exact set_leaves_same s tag i value ha hs (fun z => (hi z).1) (fun z hz => absurd hz (hi z).2) h
  · rintro z rfl hv
    exact set_lossPolicy tag value s ha hs z hv
  · rintro z rfl
    exact set_weight tag value s ha hs z h
  · rintro rfl
    exact set_uLost tag value s ha hs h
  · rintro z rfl
    exact set_setpoint tag value s ha hs z h
  · exact set_alarmLimit tag value s ha hs i z hi h
  · rintro rfl
    exact set_alarmDelay tag value s ha hs h
  · exact set_speedLimit tag value s ha hs i hi h
  · rintro rfl
    exact set_ambRef tag value s ha hs h
  · have hiff : due ↔ DueNow (s.stored i value.toInt) := hdue
    rw [hiff]
    exact set_dueItem tag value s ha hs i hr hi h
  · rintro rfl
    exact set_ajarTime tag value s ha hs h

end Sys2Proof.Machine

/-! The frost index F (R118, R119): which operations leave it. Only an addition to F, an end of HEAT and a FULL reset
change it. -/

namespace Sys2Proof.Machine

section

variable (s : State)

theorem SequencerSame.frost {s t : State} (h : SequencerSame s t) : t.defr.frost = s.defr.frost := by
  obtain ⟨st, on, h⟩ := h
  rw [h]

/-! ### The compressor's operations -/

@[simp] theorem setCompState_frost (st : CompState) : (setCompState st s).defr.frost = s.defr.frost := rfl

@[simp] theorem startComp_frost (n : Nat) : (startComp n s).defr.frost = s.defr.frost := by simp [startComp]

@[simp] theorem stopComp_frost : (stopComp s).defr.frost = s.defr.frost := by simp [stopComp, beginPostRun]

@[simp] theorem decideStop_frost : (decideStop s).defr.frost = s.defr.frost := by
  unfold decideStop
  split <;> simp

@[simp] theorem resolveDemand_frost (at_ : ResolveAt) : (resolveDemand at_ s).defr.frost = s.defr.frost := by
  unfold resolveDemand
  repeat' split
  all_goals simp

@[simp] theorem giveDemand_frost (d : Demand) : (giveDemand d s).defr.frost = s.defr.frost :=
  SequencerSame.frost (giveDemand_defr s d)

@[simp] theorem onRampExpiry_frost : (onRampExpiry s).defr.frost = s.defr.frost := by
  unfold onRampExpiry
  dsimp only
  repeat' split
  all_goals simp

@[simp] theorem leaveFaulted_frost : (leaveFaulted s).defr.frost = s.defr.frost := by simp [leaveFaulted]

@[simp] theorem onGuardExpiry_frost : (onGuardExpiry s).defr.frost = s.defr.frost := by
  unfold onGuardExpiry
  dsimp only
  repeat' split
  all_goals simp

@[simp] theorem takeFault_frost : (takeFault s).defr.frost = s.defr.frost := by
  unfold takeFault beginPostRun
  dsimp only
  repeat' split
  all_goals simp

@[simp] theorem onCompFltRound_frost (asserted : Bool) : (onCompFltRound asserted s).defr.frost = s.defr.frost := by
  unfold onCompFltRound
  dsimp only
  repeat' split
  all_goals simp

@[simp] theorem clearLockout_frost : (clearLockout s).defr.frost = s.defr.frost := by simp [clearLockout]

/-! ### The Arbiter's operations -/

@[simp] theorem giveIdleOutputs_frost : (giveIdleOutputs s).defr.frost = s.defr.frost := by simp [giveIdleOutputs]

@[simp] theorem giveDoorOutputs_frost : (giveDoorOutputs s).defr.frost = s.defr.frost := by simp [giveDoorOutputs]

@[simp] theorem giveServiceOutputs_frost : (giveServiceOutputs s).defr.frost = s.defr.frost := by
  simp [giveServiceOutputs]

@[simp] theorem serveSlot_frost (r : Slot) : (serveSlot r s).defr.frost = s.defr.frost := by simp [serveSlot]

@[simp] theorem endSwitching_frost : (endSwitching s).defr.frost = s.defr.frost := by
  unfold endSwitching
  repeat' split
  all_goals simp

@[simp] theorem placeSlot_frost (r : Slot) : (placeSlot r s).defr.frost = s.defr.frost := (placeSlot_sequencer s r).frost

@[simp] theorem arbitrate_frost : (arbitrate s).defr.frost = s.defr.frost := (arbitrate_sequencer s).frost

@[simp] theorem endHeldSlot_frost (z : Zone) (full : Bool) : (endHeldSlot z full s).defr.frost = s.defr.frost := by
  simp [endHeldSlot]

@[simp] theorem resumeSlot_frost (z : Zone) (phase : SlotPhase) (fixed : Bool) (remaining : Nat)
    (snapshot : Option Route) : (resumeSlot z phase fixed remaining snapshot s).defr.frost = s.defr.frost := by
  unfold resumeSlot
  split <;> simp

@[simp] theorem popSlot_frost (mask : Nat) (z : Zone) (phase : SlotPhase) (fixed : Bool) (remaining : Nat)
    (snapshot : Option Route) : (popSlot mask z phase fixed remaining snapshot s).defr.frost = s.defr.frost := by
  unfold popSlot
  split <;> simp

/-! ### The phases of the defrost -/

@[simp] theorem setPhase_frost (p : DefrostPhase) : (setPhase p s).defr.frost = s.defr.frost := rfl

@[simp] theorem giveStopOutputs_frost : (giveStopOutputs s).defr.frost = s.defr.frost := (giveStopOutputs_frostKept s).1

@[simp] theorem givePreChillOutputs_frost : (givePreChillOutputs s).defr.frost = s.defr.frost := by
  simp [givePreChillOutputs]

@[simp] theorem giveRecoverOutputs_frost : (giveRecoverOutputs s).defr.frost = s.defr.frost := by
  simp [giveRecoverOutputs]

@[simp] theorem continueHeat_frost : (continueHeat s).defr.frost = s.defr.frost := (continueHeat_frostKept s).1

@[simp] theorem endStopWait_frost : (endStopWait s).defr.frost = s.defr.frost := by
  unfold endStopWait
  split
  · simp
  · exact (enterHeat_frostKept s).1

@[simp] theorem enterStopWait_frost : (enterStopWait s).defr.frost = s.defr.frost := (enterStopWait_frostKept s).1

@[simp] theorem enterFirstPhase_frost : (enterFirstPhase s).defr.frost = s.defr.frost := (enterFirstPhase_frostKept s).1

@[simp] theorem enterDrip_frost : (enterDrip s).defr.frost = s.defr.frost := by
  unfold enterDrip
  dsimp only
  split <;> simp

@[simp] theorem enterRecover_frost : (enterRecover s).defr.frost = s.defr.frost := by simp [enterRecover]

@[simp] theorem followComp_frost : (followComp s).defr.frost = s.defr.frost := by
  unfold followComp
  repeat' split
  all_goals simp

@[simp] theorem suspendDefrost_frost : (suspendDefrost s).defr.frost = s.defr.frost := by simp [suspendDefrost]

@[simp] theorem resumeDefrost_frost : (resumeDefrost s).defr.frost = s.defr.frost := by
  unfold resumeDefrost
  dsimp only
  repeat' split
  all_goals simp

@[simp] theorem heaterOpenRound_frost (sense : Bool) : (heaterOpenRound sense s).defr.frost = s.defr.frost := by
  unfold heaterOpenRound
  dsimp only
  split <;> simp

@[simp] theorem heaterStuckRound_frost (sense : Bool) : (heaterStuckRound sense s).defr.frost = s.defr.frost := by
  unfold heaterStuckRound
  dsimp only
  split <;> simp

/-! ### Claims and releases of the path -/

@[simp] theorem tellHolder_frost : (tellHolder s).defr.frost = s.defr.frost := (tellHolder_sequencer s).frost

@[simp] theorem claimDoor_frost : (claimDoor s).defr.frost = s.defr.frost := (claimDoor_sequencer s).frost

@[simp] theorem claimDefrost_frost : (claimDefrost s).defr.frost = s.defr.frost := by simp [claimDefrost]

@[simp] theorem claimService_frost : (claimService s).defr.frost = s.defr.frost := by
  unfold claimService
  dsimp only
  split <;> simp

@[simp] theorem report_frost : (report s).defr.frost = s.defr.frost := by
  unfold report
  dsimp only
  repeat' split
  all_goals simp

@[simp] theorem releasePath_frost : (releasePath s).defr.frost = s.defr.frost := by
  unfold releasePath
  dsimp only
  split <;> simp

@[simp] theorem endService_frost : (endService s).defr.frost = s.defr.frost := by simp [endService]

@[simp] theorem callingBegan_frost : (callingBegan s).defr.frost = s.defr.frost := by
  unfold callingBegan
  split <;> simp

@[simp] theorem callingStopped_frost (z : Zone) : (callingStopped z s).defr.frost = s.defr.frost := by
  unfold callingStopped
  repeat' split
  all_goals simp

@[simp] theorem setCalling_frost (z : Zone) (b : Bool) : (setCalling z b s).defr.frost = s.defr.frost := by
  unfold setCalling
  repeat' split
  all_goals simp

@[simp] theorem onSlotExpiry_frost : (onSlotExpiry s).defr.frost = s.defr.frost := by
  unfold onSlotExpiry
  repeat' split
  all_goals simp

@[simp] theorem endSlotAtOff_frost (z : Zone) : (endSlotAtOff z s).defr.frost = s.defr.frost := by
  unfold endSlotAtOff
  repeat' split
  all_goals simp

@[simp] theorem onCompletion_frost : (onCompletion s).defr.frost = s.defr.frost := by
  unfold onCompletion
  repeat' split
  all_goals simp

@[simp] theorem commitPlan_frost : (commitPlan s).defr.frost = s.defr.frost := by
  unfold commitPlan
  split <;> simp

@[simp] theorem enterPending_frost : (enterPending s).defr.frost = s.defr.frost := by
  unfold enterPending
  dsimp only
  split <;> simp

@[simp] theorem dueCheck_frost : (dueCheck s).defr.frost = s.defr.frost := by
  unfold dueCheck
  split <;> simp

@[simp] theorem leaveDefrost_frost : (leaveDefrost s).defr.frost = s.defr.frost := by
  unfold leaveDefrost
  dsimp only
  repeat' split
  all_goals simp

@[simp] theorem endRecover_frost : (endRecover s).defr.frost = s.defr.frost := by simp [endRecover]

@[simp] theorem onHeaterSenseRound_frost (sense : Bool) : (onHeaterSenseRound sense s).defr.frost = s.defr.frost := by
  unfold onHeaterSenseRound
  dsimp only
  split <;> simp

/-! ### Zones and doors -/

@[simp] theorem trustedSample_frost (z : Zone) (tf : Int) : (trustedSample z tf s).defr.frost = s.defr.frost := by
  unfold trustedSample
  dsimp only
  split <;> simp

@[simp] theorem enterPolicy_frost (z : Zone) (p : Subst) : (enterPolicy z p s).defr.frost = s.defr.frost := by
  unfold enterPolicy
  dsimp only
  repeat' split
  all_goals simp

@[simp] theorem lostSample_frost (z : Zone) (lost : Nat) : (lostSample z lost s).defr.frost = s.defr.frost := by
  unfold lostSample policySample
  dsimp only
  repeat' split
  all_goals simp

@[simp] theorem validSample_frost (z : Zone) (tf : Option Int) : (validSample z tf s).defr.frost = s.defr.frost := by
  unfold validSample
  split <;> simp

@[simp] theorem zoneSample_frost (z : Zone) : (zoneSample z s).defr.frost = s.defr.frost := by
  unfold zoneSample
  dsimp only
  repeat' split
  all_goals simp

@[simp] theorem enterBoost_frost (z : Zone) : (enterBoost z s).defr.frost = s.defr.frost := by
  unfold enterBoost
  dsimp only
  split <;> simp

@[simp] theorem enterOff_frost (z : Zone) : (enterOff z s).defr.frost = s.defr.frost := by simp [enterOff]

@[simp] theorem leaveOff_frost (z : Zone) (new : Mode) : (leaveOff z new s).defr.frost = s.defr.frost := by
  unfold leaveOff
  dsimp only
  repeat' split
  all_goals simp

@[simp] theorem onModeChange_frost (z : Zone) (old new : Mode) : (onModeChange z old new s).defr.frost = s.defr.frost := by
  unfold onModeChange
  dsimp only
  repeat' split
  all_goals simp

@[simp] theorem onBoostExpiry_frost (z : Zone) : (onBoostExpiry z s).defr.frost = s.defr.frost := by
  unfold onBoostExpiry
  dsimp only
  split <;> simp

@[simp] theorem onAmbientSample_frost : (onAmbientSample s).defr.frost = s.defr.frost := rfl

@[simp] theorem onOpening_frost (d : Door) : (onOpening d s).defr.frost = s.defr.frost := by
  unfold onOpening claimPause
  dsimp only
  repeat' split
  all_goals simp

@[simp] theorem endPause_frost : (endPause s).defr.frost = s.defr.frost := by
  unfold endPause
  repeat' split
  all_goals simp

/-! ### The Settings Store -/

@[simp] theorem handChange_frost (i : Item) (old : Int) : (handChange i old s).defr.frost = s.defr.frost := by
  unfold handChange onAmbRefChange
  dsimp only
  repeat' split
  all_goals simp

@[simp] theorem storeItem_frost (i : Item) (v : Option Int) : (storeItem i v s).defr.frost = s.defr.frost := by
  unfold storeItem
  dsimp only
  split <;> simp

theorem handChanges_frost (old : Settings) (items : List Item) :
    (handChanges old items s).defr.frost = s.defr.frost := by
  induction items generalizing s with
  | nil => rfl
  | cons i rest ih =>
    simp only [handChanges]
    split <;> simp [ih]

@[simp] theorem changeProfile_frost (p : Nat) : (changeProfile p s).defr.frost = s.defr.frost := by
  unfold changeProfile
  split <;> simp [handChanges_frost]

end

end Sys2Proof.Machine

/-! A step of the block is made of the effects that its parts have at their events and requests. What every one of these
effects keeps, every step keeps. -/

namespace Sys2Proof.Machine

/-- R3, R30, R155, R177: a relation between the states before and after, which holds across each effect that a part has
at an event, a request or a reset, and across the plumbing of the step between them. -/
structure EffectsKeep (R : State → State → Prop) : Prop where
  refl : ∀ s, R s s
  trans : ∀ {s t u}, R s t → R t u → R s u
  /-- the model's own fields -/
  pending : ∀ s p, R s { s with pending := p }
  own : ∀ s o, R s { s with own := o }
  /-- a counter's own tick or expiry starts no counter -/
  counter : ∀ (s : State) i f, (∀ c, (f c).run = true → c.run = true) → R s (s.onCounter i f)
  /-- the link -/
  link : ∀ (s : State) f, R s (s.onLink f)
  offer : ∀ s f, R s (offerFrame f s)
  note : ∀ s, R s (startNote s)
  request : ∀ s r, R s (perform r s).2
  /-- the resets -/
  full : ∀ s lines, R s (fullReset lines s)
  warm : ∀ s lines, R s (warmReset lines s)
  /-- the counters' events -/
  expiry : ∀ s i, R s (onExpiry i s)
  round : ∀ s sets, R s (onRound sets s)
  ramp : ∀ s, R s (onRamp s)
  due : ∀ s, R s (dueCheck s)
  carry : ∀ s, R s (onRunsecCarry s)
  ajar : ∀ s d, R s (checkAjar d s)
  overflow : ∀ s, R s (onTachOverflow s)
  edge : ∀ s, R s (onTachEdge s)
  kickEnd : ∀ s, R s (onKickEnd s)
  fanRetry : ∀ s, R s (onFanRetry s)
  provingEnd : ∀ s, R s (onProvingEnd s)
  /-- the drives and the lines -/
  arrives : ∀ s d, R s (damperArrives d s)
  homed : ∀ s d, R s (homingEnds d s)
  drive : ∀ s d, R s (damperTick d s)
  opening : ∀ s d, R s (onOpening d s)
  close : ∀ s d, R s (onClose d s)
  /-- time -/
  time : ∀ s, R s (advance s)
  conversion : ∀ s, R s (takeConversion s)

namespace EffectsKeep

variable {R : State → State → Prop} (k : EffectsKeep R) (s : State)

include k

/-! ### Expiries (R155) and the end of a step (R177, R178) -/

theorem drain (n : Nat) : R s (drain n s) := by
  induction n generalizing s with
  | zero => exact k.refl s
  | succ n ih =>
    unfold Machine.drain
    split
    · exact k.refl s
    · exact k.trans (k.trans (k.own s _) (k.expiry _ _)) (ih _)

theorem fireOneShot (i : CounterId) (effect : State → State) (he : ∀ u, R u (effect u)) :
    R s (fireOneShot i effect s) := by
  unfold Machine.fireOneShot
  split
  · exact k.trans (k.counter s i Counter.expire fun _ h => by simp [Counter.expire] at h) (he _)
  · exact k.refl s

theorem startReply : R s (startReply s) := by
  unfold Machine.startReply
  split
  · exact k.trans (k.link s _) (k.link _ _)
  all_goals exact k.refl s

theorem takeFrame (f : Frame) : R s (takeFrame f s) := by
  refine k.trans (t := (performFrame f s).2) ?_ (k.link _ fun l => { l with replies := l.replies ++ [_] })
  unfold performFrame
  split
  · exact k.request s _
  · exact k.refl s

theorem execute (n : Nat) : R s (execute n s) := by
  induction n generalizing s with
  | zero => exact k.refl s
  | succ n ih =>
    unfold Machine.execute
    split
    · exact k.refl s
    · next f rest _ =>
      split
      · have htaken := k.trans (k.link s fun l => { l with requests := rest }) (k.takeFrame _ f)
        exact k.trans (k.trans (k.trans htaken (k.drain _ 4)) (k.startReply _)) (ih _)
      · exact k.refl s

theorem finish : R s (finish s) :=
  k.trans (k.trans (k.trans (k.drain s 4) (k.startReply _)) (k.execute _ _)) (k.note _)

theorem submit (f : Frame) : R s (submit f s) := k.trans (k.offer s f) (k.finish _)

theorem receiveByte (b : Byte) : R s (receiveByte b s) := by
  unfold Machine.receiveByte
  dsimp only
  repeat' split
  case h_1.isFalse => exact k.refl s
  case h_4.isTrue => exact k.trans (k.link s _) (k.offer _ _)
  all_goals exact k.link s _

theorem receiveBytes (bytes : List Byte) : R s (receiveBytes bytes s) := by
  induction bytes generalizing s with
  | nil => exact k.refl s
  | cons b rest ih => exact k.trans (k.receiveByte s b) (ih _)

theorem rxTimeout : R s (onRxTimeout s) := by
  unfold onRxTimeout
  split
  · exact k.refl s
  all_goals exact k.link s _

theorem frameEnds : R s (frameEnds s) := by
  unfold Machine.frameEnds
  split
  · exact k.finish s
  · split
    · exact k.warm s _
    · exact k.trans (k.link s _) (k.finish _)

/-! ### Events -/

theorem roundCloses (sets : List SampleSet) : R s (roundCloses sets s) := by
  unfold Machine.roundCloses
  split
  · exact k.trans (k.counter s .scan Counter.rewind fun _ => id) (k.round _ sets)
  · exact k.refl s

theorem rampExpires : R s (rampExpires s) := by
  unfold Machine.rampExpires
  split
  · exact k.trans (k.counter s .ramp Counter.rewind fun _ => id) (k.ramp _)
  · exact k.refl s

theorem phaseExpires (p : DefrostPhase) : R s (phaseExpires p onPhaseExpiry s) := by
  unfold Machine.phaseExpires
  split
  · exact k.fireOneShot s _ _ fun u => k.expiry u .phase
  · exact k.refl s

theorem increment (i : CounterId) : R s (s.onCounter i Counter.increment) :=
  k.counter s i _ fun c => by unfold Counter.increment; split <;> exact id

theorem gapIncrements : R s (gapIncrements s) := by
  unfold Machine.gapIncrements
  split
  · exact k.trans (k.increment s _) (k.due _)
  · exact k.refl s

theorem runsecCarries : R s (runsecCarries s) := by
  unfold Machine.runsecCarries
  split
  · exact k.trans (k.counter s .runsec Counter.carry fun _ => id) (k.carry _)
  · exact k.refl s

theorem doorIncrements (d : Door) : R s (doorIncrements d s) := by
  unfold Machine.doorIncrements
  dsimp only
  split
  · exact k.trans (k.increment s _) (k.ajar _ d)
  · exact k.refl s

theorem tachOverflows : R s (tachOverflows s) := by
  unfold Machine.tachOverflows
  split
  · exact k.overflow s
  · exact k.refl s

theorem fanTimeExpires (during : FanState → Bool) (effect : State → State) (he : ∀ u, R u (effect u)) :
    R s (fanTimeExpires during effect s) := by
  unfold Machine.fanTimeExpires
  split
  · exact k.fireOneShot s _ _ he
  · exact k.refl s

theorem doorOpens (d : Door) : R s (doorOpens d s) := by
  unfold Machine.doorOpens
  split
  · exact k.refl s
  · exact k.opening s d

theorem doorCloses (d : Door) : R s (doorCloses d s) := by
  unfold Machine.doorCloses
  split
  · exact k.close s d
  · exact k.refl s

/-! ### The clock -/

theorem oneShotTick (i : CounterId) : R s (oneShotTick i s) := by
  unfold Machine.oneShotTick
  split
  · exact k.fireOneShot s i _ fun u => k.expiry u i
  · exact k.counter s i Counter.down fun _ => id

theorem counterTick (i : CounterId) : R s (counterTick i s) := by
  cases i with
  | scan =>
    simp only [Machine.counterTick]
    split
    · exact k.roundCloses s _
    · exact k.counter s .scan Counter.down fun _ => id
  | ramp =>
    simp only [Machine.counterTick]
    split
    · exact k.rampExpires s
    · exact k.counter s .ramp Counter.down fun _ => id
  | wait z => exact k.increment s _
  | gap =>
    simp only [Machine.counterTick]
    split
    · exact k.gapIncrements s
    · exact k.increment s _
  | runsec =>
    simp only [Machine.counterTick]
    split
    · exact k.runsecCarries s
    · exact k.counter s .runsec Counter.up fun _ => id
  | door d =>
    simp only [Machine.counterTick]
    split
    · exact k.doorIncrements s d
    · exact k.increment s _
  | tach =>
    simp only [Machine.counterTick]
    split
    · exact k.tachOverflows s
    · exact k.counter s .tach Counter.up fun _ => id
  | _ => exact k.oneShotTick s _

theorem timerFires (t : Timer) : R s (timerFires t s) := by
  cases t with
  | counter i => exact k.counterTick s i
  | damper d => exact k.drive s d
  | door d =>
    simp only [Machine.timerFires]
    split
    · exact k.doorOpens s d
    · exact k.doorCloses s d
  | rxGap => exact k.rxTimeout s
  | txEnd => exact k.frameEnds s

theorem fireAll (timers : List Timer) : R s (fireAll timers s) := by
  induction timers generalizing s with
  | nil => exact k.refl s
  | cons t rest ih =>
    simp only [Machine.fireAll]
    refine k.trans ?_ (ih _)
    split
    · exact k.trans (k.timerFires s t) (k.finish _)
    · exact k.refl s

theorem countChoice (due : List Timer) : R s (countChoice due s) := by
  unfold Machine.countChoice
  split
  · exact k.own s _
  · exact k.refl s

theorem takeHeldTick : R s (takeHeldTick s) := by
  unfold Machine.takeHeldTick
  split
  · exact k.trans (k.timerFires s _) (k.finish _)
  · exact k.refl s

theorem tick : R s (tick s) :=
  have hset := k.trans (k.takeHeldTick s) (k.trans (k.time _) (k.conversion _))
  k.trans (k.trans (k.trans hset (k.countChoice _ _)) (k.fireAll _ _)) (k.finish _)

/-! ### The step -/

theorem exec (c : Instr) (t : State) (h : exec c s = .next t) : R s t := by
  have hrequest : ∀ f, (.next (Machine.submit f s) : Result) = .next t → R s t := fun f h => by
    cases h
    exact k.submit s f
  have hevent : ∀ {u}, R s u → (.next (Machine.finish u) : Result) = .next t → R s t := fun {u} hu h => by
    cases h
    exact k.trans hu (k.finish u)
  cases c with
  | fullReset lines => cases h; exact k.full s lines
  | warmRestart lines => cases h; exact k.warm s lines
  | requestFrameReceived bytes => exact hevent (k.receiveBytes s bytes) h
  | byteReceived b => exact hevent (k.receiveByte s b) h
  | rxTimeout => exact hevent (k.rxTimeout s) h
  | frameSent => cases h; exact k.frameEnds s
  | roundCompletion sets => exact hevent (k.roundCloses s sets) h
  | boostExpiry z => exact hevent (k.fireOneShot s _ _ fun u => k.expiry u (.boost z)) h
  | slotExpiry => exact hevent (k.fireOneShot s _ _ fun u => k.expiry u .slot) h
  | svcExpiry => exact hevent (k.fireOneShot s _ _ fun u => k.expiry u .svc) h
  | almExpiry z => exact hevent (k.fireOneShot s _ _ fun u => k.expiry u (.alm z)) h
  | damperMoveComplete d => exact hevent (k.arrives s d) h
  | homingEnd d => exact hevent (k.homed s d) h
  | kickEnd => exact hevent (k.fanTimeExpires s _ _ k.kickEnd) h
  | fanRetry => exact hevent (k.fanTimeExpires s _ _ k.fanRetry) h
  | provingWindowEnd => exact hevent (k.fanTimeExpires s _ _ k.provingEnd) h
  | tachEdge => exact hevent (k.edge s) h
  | tachOverflow => exact hevent (k.tachOverflows s) h
  | rampExpiry => exact hevent (k.rampExpires s) h
  | guardExpiry => exact hevent (k.fireOneShot s _ _ fun u => k.expiry u .guard) h
  | condrunExpiry => exact hevent (k.fireOneShot s _ _ fun u => k.expiry u .condrun) h
  | runsecCarry => exact hevent (k.runsecCarries s) h
  | gapIncrement => exact hevent (k.gapIncrements s) h
  | prechillExpiry => exact hevent (k.phaseExpires s _) h
  | heatTimeout => exact hevent (k.phaseExpires s _) h
  | dripExpiry => exact hevent (k.phaseExpires s _) h
  | recoverExpiry => exact hevent (k.phaseExpires s _) h
  | doorOpening d => exact hevent (k.doorOpens s d) h
  | doorClose d => exact hevent (k.doorCloses s d) h
  | doorWidthIncrement d => exact hevent (k.doorIncrements s d) h
  | settleExpiry => exact hevent (k.fireOneShot s _ _ fun u => k.expiry u .settle) h
  | pauseExpiry => exact hevent (k.fireOneShot s _ _ fun u => k.expiry u .pause) h
  | _ => exact hrequest _ h

/-- What every effect keeps, every step keeps: an event or a request on the queue, or a tick of the clock. -/
theorem step (t : State) (h : step s = .next t) : R s t := by
  unfold Machine.step at h
  split at h
  · cases h
    exact k.tick s
  · next c rest _ => exact k.trans (k.pending s rest) (k.exec _ c t h)

end EffectsKeep

end Sys2Proof.Machine

/-! The ranges of the settings (R183, R186), the 17 breakpoints of both curves (R40) and the range of F (R118), kept by
every effect of the block and so by every step. -/

namespace Sys2Proof.Machine

/-! ### Values that an item may have (R183, R186) -/

/-- R183, R186: the value lies in the item's range, and is a multiple of 30 where the item is N_MIN or N_MAX. -/
def Item.Admits (i : Item) (w : Int) : Prop :=
  i.range.1 ≤ w ∧ w ≤ i.range.2 ∧ (i = .nMin ∨ i = .nMax → w % 30 = 0)

section

variable {s t : State}

theorem settingsLaw_iff : SettingsLaw s ↔ ∀ i : Item, i.Admits (s.eff i) := by
  constructor
  · rintro ⟨hrange, hmin, hmax⟩ i
    exact ⟨(hrange i).1, (hrange i).2, by rintro (rfl | rfl) <;> assumption⟩
  · intro h
    exact ⟨fun i => ⟨(h i).1, (h i).2.1⟩, (h .nMin).2.2 (.inl rfl), (h .nMax).2.2 (.inr rfl)⟩

theorem Item.default_admitted (i : Item) (p : Nat) : i.Admits (i.default p) := by
  obtain ⟨hlo, hhi⟩ := i.default_inRange p
  obtain ⟨hmin, hmax⟩ := Item.default_steps30 p
  exact ⟨hlo, hhi, by rintro (rfl | rfl) <;> assumption⟩

/-- R183: a write of an admitted value, and a return to following, leave every item within its range. -/
theorem SettingsLaw.write (h : SettingsLaw s) (i : Item) (v : Option Int) (hv : ∀ w, v = some w → i.Admits w)
    (ht : t.settings = s.settings.write i v) : SettingsLaw t := by
  rw [settingsLaw_iff] at h ⊢
  intro j
  rw [State.eff, ht, Settings.eff_write]
  split
  · next hji =>
    subst hji
    cases v with
    | none => exact j.default_admitted _
    | some w => exact hv w rfl
  · exact h j

/-- R185: another profile leaves every item within its range. -/
theorem SettingsLaw.profile (h : SettingsLaw s) (p : Nat) (ht : t.settings = { s.settings with profile := p }) :
    SettingsLaw t := by
  rw [settingsLaw_iff] at h ⊢
  intro i
  have hi := h i
  simp only [State.eff, Settings.eff, ht] at hi ⊢
  cases hw : writtenAt s.settings.written i.id with
  | none => exact i.default_admitted p
  | some w => simpa [hw] using hi

/-- R183, R184: what a SET that is not refused stores is admitted. -/
theorem settleValue_admitted {i : Item} {v w : Int} (h : settleValue s i v = some (some w)) : i.Admits w := by
  have hlim := limited_bounds i.range_le v
  delta settleValue at h
  cases i with
  | mode z =>
    dsimp only at h
    split_ifs at h with hv hout hzone
    · cases h
    · cases h
      exact ⟨by simp only [Item.range]; omega, by simp only [Item.range]; omega, by simp⟩
  | lossPolicy z =>
    dsimp only at h
    split_ifs at h with hv hout
    · cases h
    · cases h
      exact ⟨by simp only [Item.range]; omega, by simp only [Item.range]; omega, by simp⟩
  | nMin =>
    dsimp only [Item.range] at h hlim
    split_ifs at h with hv hmax hmax
    · cases h
    · cases h
      exact ⟨by simp only [Item.range]; omega, by simp only [Item.range]; omega, fun _ => by omega⟩
  | nMax =>
    dsimp only [Item.range] at h hlim
    split_ifs at h with hv hmin hmin
    · cases h
    · cases h
      exact ⟨by simp only [Item.range]; omega, by simp only [Item.range]; omega, fun _ => by omega⟩
  | _ =>
    dsimp only at h
    split_ifs at h with hv
    · cases h
    · cases h
      exact ⟨hlim.1, hlim.2, by simp⟩

end

/-! ### The three laws across an effect -/

/-- From `s` to `t` the settings stay in their ranges, the curves keep their 17 breakpoints, and F its range. -/
structure StoreLawsKept (s t : State) : Prop where
  settings : SettingsLaw s → SettingsLaw t
  curves : CurveLaw s → CurveLaw t
  frost : FrostLaw s → FrostLaw t

namespace StoreLawsKept

variable {s t u : State}

theorem refl (s : State) : StoreLawsKept s s := ⟨id, id, id⟩

theorem trans (h₁ : StoreLawsKept s t) (h₂ : StoreLawsKept t u) : StoreLawsKept s u :=
  ⟨h₂.settings ∘ h₁.settings, h₂.curves ∘ h₁.curves, h₂.frost ∘ h₁.frost⟩

/-- Most effects leave the settings, the scanner and F. -/
theorem of_eq (h : t.settings = s.settings ∧ t.scanner = s.scanner ∧ t.defr.frost = s.defr.frost) :
    StoreLawsKept s t := by
  obtain ⟨hs, hc, hf⟩ := h
  exact ⟨fun k => k.congr hs, fun k => by simpa [CurveLaw, hc] using k, fun k => by simpa [FrostLaw, hf] using k⟩

/-- An effect on the settings alone. -/
theorem of_settings (hs : SettingsLaw s → SettingsLaw t)
    (h : t.scanner = s.scanner ∧ t.defr.frost = s.defr.frost) : StoreLawsKept s t :=
  ⟨hs, fun k => by simpa [CurveLaw, h.1] using k, fun k => by simpa [FrostLaw, h.2] using k⟩

/-- An effect on the scanner alone that keeps the curves' lengths. -/
theorem of_scanner (hc : CurveLaw s → CurveLaw t) (h : t.settings = s.settings ∧ t.defr.frost = s.defr.frost) :
    StoreLawsKept s t :=
  ⟨fun k => k.congr h.1, hc, fun k => by simpa [FrostLaw, h.2] using k⟩

/-- An effect on F alone. -/
theorem of_frost (hf : FrostLaw s → FrostLaw t) (h : t.settings = s.settings ∧ t.scanner = s.scanner) :
    StoreLawsKept s t :=
  ⟨fun k => k.congr h.1, fun k => by simpa [CurveLaw, h.2] using k, hf⟩

end StoreLawsKept

open StoreLawsKept

section

variable (s : State)

/-! ### Additions to F (R119) and the ends of HEAT (R128, R129) -/

theorem growFrost_frost (n : Nat) : (growFrost n s).defr.frost = min 65535 (s.defr.frost + n) := by
  have hadd : (addFrost n s).defr.frost = min 65535 (s.defr.frost + n) := by
    simp only [addFrost, State.onDefr_defr, sat16]
    split_ifs <;> omega
  unfold growFrost
  dsimp only
  split <;> simp [hadd]

theorem growFrost_storeLaws (n : Nat) : StoreLawsKept s (growFrost n s) :=
  of_frost (fun _ => by simp [FrostLaw, growFrost_frost]) (by simp)

/-- R129: the adapted value lies in F_DUE's range. -/
theorem adaptedDue_admitted (how : HeatEnd) (coilTimed heaterOpen : Bool) (lastHeat : Nat) {due : Int}
    (h : Item.fDue.Admits due) : Item.fDue.Admits (adaptedDue how coilTimed heaterOpen lastHeat due) := by
  simp only [Item.Admits, Item.range, reduceCtorEq, or_self, false_implies, and_true] at h ⊢
  unfold adaptedDue
  split
  · split_ifs <;> omega
  · split_ifs <;> omega
  all_goals exact h

theorem adaptDue_storeLaws (how : HeatEnd) : StoreLawsKept s (adaptDue how s) := by
  have hwrite : ∀ w, (SettingsLaw s → Item.fDue.Admits w) →
      StoreLawsKept s { s with settings := s.settings.write .fDue (some w) } := fun w hw =>
    of_settings (fun h => h.write .fDue (some w) (fun _ hx => Option.some.inj hx ▸ hw h) rfl) ⟨rfl, rfl⟩
  unfold adaptDue
  dsimp only
  split
  · exact hwrite _ fun h => adaptedDue_admitted _ _ _ _ (settingsLaw_iff.mp h .fDue)
  · exact .refl s

/-- R128: an end of HEAT leaves half of F, or none of it. -/
theorem endHeat_storeLaws (how : HeatEnd) : StoreLawsKept s (endHeat how s) := by
  have hended : ∀ f : Defrost → Defrost, (∀ d, (f d).frost ≤ d.frost) → StoreLawsKept s ((s.stopC .phase).onDefr f) :=
    fun f hf => of_frost (fun h => (hf _).trans (by simpa [FrostLaw] using h)) (by simp)
  have hclear : ∀ u : State, StoreLawsKept u (u.clearC .runsec) := fun u => of_eq (by simp)
  have hdrip : ∀ u, StoreLawsKept u (enterDrip u) := fun u => of_eq (by simp)
  unfold endHeat
  dsimp only
  refine ((hended _ fun d => ?_).trans (hclear _)).trans ((adaptDue_storeLaws _ how).trans (hdrip _))
  cases how <;> dsimp only <;> omega

theorem heatTimedOut_storeLaws : StoreLawsKept s (heatTimedOut s) := by
  unfold heatTimedOut
  split
  · exact .trans (of_eq (by simp)) (endHeat_storeLaws _ _)
  · exact endHeat_storeLaws _ _

theorem onPhaseExpiry_storeLaws : StoreLawsKept s (onPhaseExpiry s) := by
  unfold onPhaseExpiry
  split
  · exact of_eq (by simp)
  · exact heatTimedOut_storeLaws s
  all_goals exact of_eq (by simp)

theorem coilLossInHeat_storeLaws : StoreLawsKept s (coilLossInHeat s) := by
  have htimed : StoreLawsKept s (s.onDefr fun d => { d with coilTimed := true }) := of_eq (by simp)
  unfold coilLossInHeat
  dsimp only
  split
  · exact .refl s
  · split
    · exact htimed
    · split
      · exact htimed.trans (of_eq (by split <;> simp))
      · exact htimed.trans (endHeat_storeLaws _ _)

theorem coilInHeat_storeLaws (state : ChanState) (tf : Option Int) : StoreLawsKept s (coilInHeat state tf s) := by
  unfold coilInHeat
  dsimp only
  split
  · exact .trans (of_eq (by simp)) (coilLossInHeat_storeLaws _)
  · generalize (s.defrostHolding && !s.level .heaterOpen && _) = hit
    split
    · split
      · exact .trans (of_eq (by simp)) (endHeat_storeLaws _ _)
      · exact of_eq (by simp)
    · exact of_eq (by simp)

theorem onCoilSample_storeLaws (state : ChanState) (tf : Option Int) : StoreLawsKept s (onCoilSample state tf s) := by
  have hlost : StoreLawsKept s (s.onDefr fun d => { d with coilLost := decide (state = .lost) }) := of_eq (by simp)
  unfold onCoilSample
  dsimp only
  refine hlost.trans ?_
  split
  · exact coilInHeat_storeLaws _ _ _
  · split
    · exact of_eq (by simp)
    · exact .refl _
  all_goals exact .refl _

theorem coilSample_storeLaws : StoreLawsKept s (coilSample s) := onCoilSample_storeLaws s _ _

/-! ### The scan round (R30) -/

theorem updateChannel_curves (sets : List SampleSet) (c : Channel) :
    (updateChannel sets c s).scanner.active = s.scanner.active ∧
      (updateChannel sets c s).scanner.staged = s.scanner.staged := by
  simp [updateChannel]

theorem updateChannels_curves (sets : List SampleSet) :
    (updateChannels sets s).scanner.active = s.scanner.active ∧
      (updateChannels sets s).scanner.staged = s.scanner.staged := by
  simp [updateChannels, updateChannel_curves]

theorem onRound_storeLaws (sets : List SampleSet) : StoreLawsKept s (onRound sets s) := by
  have hzones : ∀ u, StoreLawsKept u (zoneSample .freeze (zoneSample .chill (zoneSample .fresh u))) :=
    fun u => of_eq (by simp)
  have hlines : ∀ sense flt u, StoreLawsKept u (onCompFlt flt (onHeaterSenseRound sense u)) :=
    fun sense flt u => of_eq (by simp [onCompFlt])
  have hambient : ∀ u, StoreLawsKept u (onAmbientSample u) := fun u => of_eq (by simp)
  obtain ⟨hactive, hstaged⟩ := updateChannels_curves s sets
  unfold onRound
  dsimp only
  refine .trans ?_ (((hlines _ _ _).trans (hzones _)).trans ((coilSample_storeLaws _).trans (hambient _)))
  exact of_scanner (fun h => by simpa [CurveLaw, hactive, hstaged] using h) (by simp)

/-! ### Counters and doors -/

theorem onClose_storeLaws (d : Door) : StoreLawsKept s (onClose d s) := by
  unfold onClose
  dsimp only
  generalize hv : setAjar d false _ = v
  have hclosed : StoreLawsKept s v := of_eq (by simp [← hv])
  have hpause : ∀ u, StoreLawsKept u (pauseAtLastClose u) := fun u => of_eq (by simp)
  have hcredited := fun credit => hclosed.trans (of_eq (t := takeCredit (doorZone d) credit v) (by simp))
  have hgrown := fun credit n => (hcredited credit).trans (growFrost_storeLaws _ n)
  split
  · exact hgrown _ _
  · exact (hgrown _ _).trans (hpause _)

theorem onBoostExpiry_storeLaws (z : Zone) : StoreLawsKept s (onBoostExpiry z s) := by
  refine of_settings (fun h => h.write (.mode z) none nofun ?_) (by simp)
  unfold onBoostExpiry
  dsimp only
  split <;> simp

theorem onExpiry_storeLaws (i : CounterId) : StoreLawsKept s (onExpiry i s) := by
  cases i with
  | slot => exact of_eq (by simp [onExpiry])
  | guard => exact of_eq (by simp [onExpiry, onGuard])
  | condrun => exact of_eq (by simp [onExpiry])
  | phase => exact onPhaseExpiry_storeLaws s
  | settle => exact of_eq (by simp [onExpiry, onSettleExpiry])
  | pause => exact of_eq (by simp [onExpiry, onPauseExpiry])
  | fantime => exact of_eq (by simp [onExpiry])
  | boost z => exact onBoostExpiry_storeLaws s z
  | alm z => exact of_eq (by simp [onExpiry])
  | svc =>
    refine of_eq ?_
    simp only [onExpiry, onSvcExpiry]
    split <;> simp
  | _ => exact .refl s

theorem damperArrives_storeLaws (d : Damper) : StoreLawsKept s (damperArrives d s) := by
  unfold damperArrives
  split
  · exact of_eq (by simp)
  · exact .refl s

theorem homingEnds_storeLaws (d : Damper) : StoreLawsKept s (homingEnds d s) := by
  unfold homingEnds
  dsimp only
  repeat' split
  all_goals exact of_eq (by simp)

theorem damperTick_storeLaws (d : Damper) : StoreLawsKept s (damperTick d s) := by
  have hrec : ∀ f, StoreLawsKept s (s.onDamper d f) := fun f => of_eq (by simp)
  unfold damperTick
  dsimp only
  split
  · split
    · exact (hrec _).trans (damperArrives_storeLaws _ d)
    · exact hrec _
  · split
    · exact (hrec _).trans (homingEnds_storeLaws _ d)
    · exact hrec _
  all_goals exact .refl s

theorem takeConversion_storeLaws : StoreLawsKept s (takeConversion s) := by
  unfold takeConversion
  split
  · exact of_scanner id ⟨rfl, rfl⟩
  · exact .refl s

/-! ### Requests (R40, R41, R134, R183 to R185) -/

theorem storeItem_storeLaws (i : Item) (v : Option Int) (hv : ∀ w, v = some w → i.Admits w) :
    StoreLawsKept s (storeItem i v s) :=
  of_settings (fun h => h.write i v hv (storeItem_settings s i v)) (by simp)

theorem setItem_storeLaws (i : Item) (v : Int) : StoreLawsKept s (setItem i v s).2 := by
  unfold setItem
  split
  · exact .refl s
  · exact storeItem_storeLaws s i none nofun
  · next w hw =>
    refine .trans (of_eq (t := repeatBoost i v s) (by simp)) (storeItem_storeLaws _ i _ fun x hx => ?_)
    cases hx
    exact settleValue_admitted hw

theorem changeProfile_storeLaws (p : Nat) : StoreLawsKept s (changeProfile p s) := by
  refine of_settings (fun h => ?_) (by simp)
  unfold changeProfile
  split
  · exact h
  · exact h.profile p (by simp [handChanges_keeps])

theorem performSet_storeLaws (id : Byte) (v : Int) : StoreLawsKept s (performSet id v s).2 := by
  unfold performSet
  split
  · simp only [setAnswer_snd, setProfileItem]
    split
    · exact .refl s
    · exact changeProfile_storeLaws s _
  · split
    · simpa only [setAnswer_snd] using setItem_storeLaws s _ v
    · exact .refl s

theorem doOrder_storeLaws (o : Order) : StoreLawsKept s (doOrder o s).2 := by
  cases o with
  | startDefrost =>
    simp only [doOrder, orderStartDefrost]
    repeat' split
    all_goals exact of_eq (by simp)
  | abortDefrost =>
    have hbefore : StoreLawsKept s (abortBeforeHeat s) := of_eq (by simp [abortBeforeHeat])
    simp only [doOrder, orderAbortDefrost]
    split
    · exact of_eq (by simp)
    · exact hbefore
    · split
      · exact endHeat_storeLaws s .abort
      · exact hbefore
    · exact endHeat_storeLaws s .abort
    all_goals exact .refl s
  | hold =>
    simp only [doOrder, orderHold]
    split <;> exact of_eq (by simp)
  | release =>
    simp only [doOrder, orderRelease]
    split <;> exact of_eq (by simp)
  | clearFault =>
    simp only [doOrder, orderClearFault]
    split <;> exact of_eq (by simp)
  | restart => exact of_eq (by simp [doOrder, orderRestart])
  | planCommit => exact of_eq (by simp [doOrder, orderPlanCommit])
  | curveCommit =>
    simp only [doOrder, orderCurveCommit]
    split
    · exact of_scanner (fun ⟨_, hstaged⟩ => ⟨hstaged, hstaged⟩) (by simp)
    · exact .refl s

theorem performOrder_storeLaws (code : Byte) : StoreLawsKept s (performOrder code s).2 := by
  unfold performOrder
  split
  · simpa only [setAnswer_snd] using doOrder_storeLaws s _
  · exact .refl s

theorem writeCurve_length (start : Nat) (values curve : List Int) (h : start + values.length ≤ curve.length) :
    (writeCurve start values curve).length = curve.length := by
  simp only [writeCurve, List.length_append, List.length_take, List.length_drop]
  omega

theorem performCurveLoad_storeLaws (start : Byte) (values : List Half) :
    StoreLawsKept s (performCurveLoad start values s).2 := by
  unfold performCurveLoad
  split
  · next hfit =>
    refine of_scanner (fun ⟨hactive, hstaged⟩ => ⟨hactive, ?_⟩) ⟨rfl, rfl⟩
    show (writeCurve _ _ _).length = 17
    rw [writeCurve_length _ _ _ (by simpa [hstaged] using hfit), hstaged]
  · exact .refl s

theorem performServiceDrive_storeLaws (fresh chill fan compressor heater : Int) :
    StoreLawsKept s (performServiceDrive fresh chill fan compressor heater s).2 := by
  have hdamper : ∀ d v u, StoreLawsKept u (driveDamper d v u) := fun d v u => by
    unfold driveDamper
    repeat' split
    all_goals exact of_eq (by simp)
  have hfan : ∀ u, StoreLawsKept u (driveFan fan u) := fun u => by
    unfold driveFan
    split <;> exact of_eq (by simp)
  have hcomp : ∀ u, StoreLawsKept u (driveComp compressor u) := fun u => by
    unfold driveComp
    split <;> exact of_eq (by simp)
  have hheater : ∀ u, StoreLawsKept u (driveHeater heater u) := fun u => of_eq (by simp [driveHeater])
  unfold performServiceDrive
  split
  · exact .refl s
  · exact ((((hdamper .fresh fresh s).trans (hdamper .chill chill _)).trans (hfan _)).trans (hcomp _)).trans (hheater _)

theorem perform_storeLaws (r : Request) : StoreLawsKept s (perform r s).2 := by
  cases r with
  | set i v => exact performSet_storeLaws s i _
  | order c => exact performOrder_storeLaws s c
  | curveLoad i vs => exact performCurveLoad_storeLaws s i vs
  | serviceDrive a b c d e => exact performServiceDrive_storeLaws s _ _ _ _ _
  | planStage e a b c d =>
    simp only [perform, performPlanStage]
    split <;> exact of_eq ⟨rfl, rfl, rfl⟩
  | get i =>
    simp only [perform, performGet]
    repeat' split
    all_goals exact .refl s
  | zoneView z =>
    simp only [perform, performZoneView]
    split <;> exact .refl s
  | planView p =>
    simp only [perform, performPlanView]
    repeat' split
    all_goals exact .refl s
  | counterView i =>
    simp only [perform, performCounterView]
    split <;> exact .refl s
  | clearDeltas v => exact of_eq ⟨rfl, rfl, rfl⟩
  | notifyMask m => exact of_eq ⟨rfl, rfl, rfl⟩
  | ident => exact .refl s
  | conditions => exact .refl s
  | stackView => exact .refl s

/-! ### Resets (R46, R47, R138, R189) -/

theorem fullReset_storeLaws (lines : DoorLines) : StoreLawsKept s (fullReset lines s) where
  settings _ := reset_settingsLaw.congr rfl
  curves _ := ⟨rfl, rfl⟩
  frost _ := Nat.zero_le _

/-- R47, R138, R189: a WARM restart returns the modes to following, and keeps the curves and F. -/
theorem warmReset_storeLaws (lines : DoorLines) : StoreLawsKept s (warmReset lines s) := by
  obtain ⟨-, hset, -, hscan, -, -, hdefr, -, -, -⟩ := giveIdleEntry_keeps (warmRestored lines s)
  have he : warmReset lines s = giveIdleEntry (warmRestored lines s) := rfl
  have hmode : ∀ (z : Zone) (u : State), StoreLawsKept u { u with settings := u.settings.write (.mode z) none } :=
    fun z u => of_settings (fun h => h.write (.mode z) none nofun rfl) ⟨rfl, rfl⟩
  have hmodes := ((hmode .fresh s).trans (hmode .chill _)).trans (hmode .freeze _)
  rw [he]
  exact ⟨fun h => (hmodes.settings h).congr hset, fun h => by rw [CurveLaw, hscan]; exact h,
    fun h => by rw [FrostLaw, hdefr]; exact h⟩

/-! ### The step -/

/-- The three laws hold across every effect that a step is made of. -/
theorem storeLaws_effectsKeep : EffectsKeep StoreLawsKept where
  refl := .refl
  trans := .trans
  pending _ _ := of_eq ⟨rfl, rfl, rfl⟩
  own _ _ := of_eq ⟨rfl, rfl, rfl⟩
  counter _ _ _ _ := of_eq (by simp)
  link _ _ := of_eq (by simp)
  offer _ _ := of_eq (by simp)
  note _ := of_eq (by simp)
  request := perform_storeLaws
  full := fullReset_storeLaws
  warm := warmReset_storeLaws
  expiry := onExpiry_storeLaws
  round := onRound_storeLaws
  ramp _ := of_eq (by simp [onRamp])
  due _ := of_eq (by simp)
  carry s := growFrost_storeLaws s _
  ajar _ _ := of_eq (by simp)
  overflow _ := of_eq (by simp)
  edge _ := of_eq (by simp)
  kickEnd _ := of_eq (by simp)
  fanRetry _ := of_eq (by simp)
  provingEnd _ := of_eq (by simp)
  arrives := damperArrives_storeLaws
  homed := homingEnds_storeLaws
  drive := damperTick_storeLaws
  opening _ _ := of_eq (by simp)
  close := onClose_storeLaws
  time _ := of_eq ⟨rfl, rfl, rfl⟩
  conversion := takeConversion_storeLaws

end

/-- Settles O60: each of the three laws holds across every effect, and so across every step. -/
theorem everyStepKeepsTheSettings : Obligations.EveryStepKeepsTheSettings :=
  ⟨fun s t hs h => (storeLaws_effectsKeep.step s t h).settings hs,
    fun s t hs h => (storeLaws_effectsKeep.step s t h).curves hs,
    fun s t hs h => (storeLaws_effectsKeep.step s t h).frost hs⟩

end Sys2Proof.Machine

/-! The curves on the link (R40, R41), and what a FULL reset leaves in the Sensor Scanner, the Arbiter and the Compressor
Controller (R46, R78, R116). -/

namespace Sys2Proof.Machine

/-! ### Accepted requests (R177, R181) -/

section

variable (s : State)

/-- R177: a request that reads back as itself and starts no one-shot at count 0 is taken, and its reply queued. -/
theorem submit_request (tag : Byte) (r : Request) (ha : Accepting s)
    (hr : checkFrame (Request.frame tag r) = .request r) (hq : (perform r s).2.own.signalled = []) :
    submit (Request.frame tag r) s = replied (Request.frame tag r) (perform r s).1 (perform r s).2 := by
  have hp : performFrame (Request.frame tag r) s = perform r s := by simp only [performFrame, hr]
  rw [submit_eq_replied _ s ha (by rw [hp]; exact hq), hp]

/-- R181: an ORDER frame is read back as the order it carries. -/
theorem checkFrame_order (tag c : Byte) : checkFrame (Request.frame tag (.order c)) = .request (.order c) := by
  simp [checkFrame, Request.frame, Request.kind, Request.body, isRequestKind, readRequest]

/-- R181: 16-bit fields are read back from their bytes. -/
theorem readHalves_flatMap (values : List Half) : readHalves (values.flatMap halfBytes) = some values := by
  induction values with
  | nil => rfl
  | cons v rest ih =>
    show (readHalves (rest.flatMap halfBytes)).map (joinHalf (v.extractLsb' 8 8) (v.extractLsb' 0 8) :: ·) = _
    simp [ih]

/-- R181: a CURVE_LOAD frame of 1 to 17 breakpoints is read back as the CURVE_LOAD it carries. -/
theorem checkFrame_curveLoad (tag start : Byte) (values : List Half) (h1 : 1 ≤ values.length)
    (h17 : values.length ≤ 17) :
    checkFrame (Request.frame tag (.curveLoad start values)) = .request (.curveLoad start values) := by
  simp [checkFrame, Request.frame, Request.kind, Request.body, isRequestKind, readRequest, readCurve,
    readHalves_flatMap, h1, h17]

end

/-! ### CURVE_COMMIT (R41) -/

theorem risesStrictly_iff (l : List Int) : risesStrictly l = true ↔ l.Pairwise (· < ·) := by
  rw [← List.isChain_iff_pairwise]
  induction l with
  | nil => simp [risesStrictly]
  | cons a rest ih =>
    cases rest with
    | nil => simp [risesStrictly]
    | cons b rest => simp [risesStrictly, ih]

theorem fallsStrictly_iff (l : List Int) : fallsStrictly l = true ↔ l.Pairwise (· > ·) := by
  rw [← List.isChain_iff_pairwise]
  induction l with
  | nil => simp [fallsStrictly]
  | cons a rest ih =>
    cases rest with
    | nil => simp [fallsStrictly]
    | cons b rest => simp [fallsStrictly, ih]

/-- R41: what makes a staged curve valid. -/
theorem curveValid_iff (l : List Int) :
    curveValid l = true ↔ (∀ v ∈ l, -500 ≤ v ∧ v ≤ 700) ∧ (l.Pairwise (· < ·) ∨ l.Pairwise (· > ·)) := by
  simp [curveValid, risesStrictly_iff, fallsStrictly_iff]

/-- Settles O26: the order copies the staged curve or is refused, by `curveValid`. -/
theorem curveCommitChecksTheStagedCurve : Obligations.CurveCommitChecksTheStagedCurve := by
  intro tag s ha
  have hperform : perform (.order Order.curveCommit.code) s =
      setAnswer (orderCurveCommit s).1 [0x08#8] (orderCurveCommit s).2 := rfl
  have hown : (perform (.order Order.curveCommit.code) s).2.own.signalled = [] := by
    rw [hperform, setAnswer_snd, orderCurveCommit]
    split <;> exact ha.1
  have hexec : exec (.curveCommit tag) s = .next (submit (Request.frame tag (.order Order.curveCommit.code)) s) := rfl
  rw [← curveValid_iff, hexec, submit_request s tag _ ha (checkFrame_order tag _) hown, hperform, orderCurveCommit]
  constructor
  · intro hv
    rw [if_pos hv]
    rfl
  · intro hv
    rw [if_neg hv]
    rfl

/-! ### CURVE_LOAD (R40) -/

/-- R40: the values stand from the start index on, and every other breakpoint as it did. -/
theorem writeCurve_getElem? (start : Nat) (values curve : List Int) (h : start + values.length ≤ curve.length) (k : Nat) :
    (writeCurve start values curve)[k]? =
      if start ≤ k ∧ k < start + values.length then values[k - start]? else curve[k]? := by
  have hlen : (curve.take start).length = start := by rw [List.length_take]; omega
  unfold writeCurve
  rw [List.append_assoc]
  rcases Nat.lt_or_ge k start with hk | hk
  · rw [if_neg (by omega), List.getElem?_append_left (by omega), List.getElem?_take_of_lt hk]
  · rw [List.getElem?_append_right (by omega), hlen]
    rcases Nat.lt_or_ge k (start + values.length) with hv | hv
    · rw [if_pos ⟨hk, hv⟩, List.getElem?_append_left (by omega)]
    · rw [if_neg (by omega), List.getElem?_append_right (by omega), List.getElem?_drop]
      congr 1
      omega

/-- Settles O30: the values are written into the staged curve if they fit, and the request is refused if not. -/
theorem curveLoadWritesTheStagedCurve : Obligations.CurveLoadWritesTheStagedCurve := by
  intro tag start values s ha hstaged h1 h17
  have hown : (perform (.curveLoad start values) s).2.own.signalled = [] := by
    simp only [perform, performCurveLoad]
    split <;> exact ha.1
  have hexec : exec (.curveLoad tag start values) s = .next (submit (Request.frame tag (.curveLoad start values)) s) := rfl
  rw [hexec, submit_request s tag _ ha (checkFrame_curveLoad tag start values h1 h17) hown]
  simp only [perform, performCurveLoad]
  constructor
  · intro hfit
    have hroom : start.toNat + (values.map signed).length ≤ s.scanner.staged.length := by
      rw [List.length_map, hstaged]
      exact hfit
    rw [if_pos hfit]
    refine ⟨writeCurve start.toNat (values.map signed) s.scanner.staged, rfl, ?_, fun k => ?_⟩
    · rw [writeCurve_length _ _ _ hroom, hstaged]
    · rw [writeCurve_getElem? _ _ _ hroom, List.length_map]
      rfl
  · intro hover
    rw [if_neg (by omega)]
    rfl

/-! ### FULL reset (R46, R78, R116) -/

/-- R173: a FULL reset leaves no condition asserted. -/
theorem fullReset_level (lines : DoorLines) (s : State) (i : Cond) : (fullReset lines s).level i = false :=
  BitVec.getLsbD_zero

/-- Settles O10: each block's part of the reset state, read off. -/
theorem fullResetScannerArbiterCompressor : Obligations.FullResetScannerArbiterCompressor := by
  intro lines s
  have hlevel := fullReset_level lines s
  refine ⟨fullReset lines s, rfl, rfl, fun c => ?channel, rfl, rfl, rfl, rfl, rfl, rfl, rfl, fun c => hlevel _, rfl, rfl,
    rfl, rfl, rfl, rfl, rfl, rfl, restarted_delta 24, rfl, rfl, fun z => ?wait, hlevel _, fun d => ?target, fun z => ?calling,
    rfl, rfl, rfl, rfl, rfl, rfl, hlevel _, hlevel _⟩
  case channel => cases c <;> rfl
  case wait => cases z <;> exact ⟨rfl, rfl⟩
  case target => cases d <;> rfl
  case calling => rw [fullReset_zone]; rfl

end Sys2Proof.Machine

/-! The SCAN counter (R30, R154): only the SCAN tick and the round completion move it, so no effect of a round or of an
expiry does. -/

namespace Sys2Proof.Machine

section

variable (s : State)

/-! ### The operations on counters and the outputs -/

theorem State.counter_scan : s.counter .scan = s.bank.scan := rfl

@[simp] theorem State.stopC_scan (i : CounterId) (h : i ≠ .scan) : (s.stopC i).bank.scan = s.bank.scan :=
  s.counter_stopC_of_ne i .scan h.symm

@[simp] theorem State.clearC_scan (i : CounterId) (h : i ≠ .scan) : (s.clearC i).bank.scan = s.bank.scan :=
  s.counter_clearC_of_ne i .scan h.symm

@[simp] theorem State.writeC_scan (i : CounterId) (n : Nat) (h : i ≠ .scan) : (s.writeC i n).bank.scan = s.bank.scan :=
  s.counter_writeC_of_ne i .scan n h.symm

@[simp] theorem State.startC_scan (i : CounterId) (h : i ≠ .scan) : (s.startC i).bank.scan = s.bank.scan :=
  s.counter_startC_of_ne i .scan h.symm

@[simp] theorem State.restartC_scan (i : CounterId) (n : Nat) (h : i ≠ .scan) :
    (s.restartC i n).bank.scan = s.bank.scan :=
  s.counter_restartC_of_ne i .scan n h.symm

@[simp] theorem evalAlarm_scan (z : Zone) (cause : AlarmCause) : (evalAlarm z cause s).bank.scan = s.bank.scan :=
  evalAlarm_counter s .scan z cause nofun

@[simp] theorem alarmSample_scan (z : Zone) : (alarmSample z s).bank.scan = s.bank.scan := by
  unfold alarmSample
  dsimp only
  split <;> simp

@[simp] theorem clearAlarms_scan (z : Zone) : (clearAlarms z s).bank.scan = s.bank.scan := by
  simp [clearAlarms, stopAlarm]

@[simp] theorem requestFan_scan (duty : Nat) : (requestFan duty s).bank.scan = s.bank.scan :=
  requestFan_counter s .scan duty nofun nofun

@[simp] theorem giveDemand_scan (d : Demand) : (giveDemand d s).bank.scan = s.bank.scan :=
  giveDemand_counter s .scan d nofun nofun nofun

@[simp] theorem onFantimeExpiry_scan : (onFantimeExpiry s).bank.scan = s.bank.scan := by
  unfold onFantimeExpiry onFanRetry kickFan
  repeat' split
  all_goals simp

/-! ### The compressor -/

@[simp] theorem resolveDemand_scan (at_ : ResolveAt) : (resolveDemand at_ s).bank.scan = s.bank.scan := by
  unfold resolveDemand decideStop startComp stopComp beginPostRun
  dsimp only
  repeat' split
  all_goals simp

@[simp] theorem leaveFaulted_scan : (leaveFaulted s).bank.scan = s.bank.scan := by simp [leaveFaulted]

@[simp] theorem onGuardExpiry_scan : (onGuardExpiry s).bank.scan = s.bank.scan := by
  unfold onGuardExpiry
  dsimp only
  repeat' split
  all_goals simp

@[simp] theorem takeFault_scan : (takeFault s).bank.scan = s.bank.scan := by
  unfold takeFault beginPostRun
  dsimp only
  repeat' split
  all_goals simp

@[simp] theorem onCompFltRound_scan (asserted : Bool) : (onCompFltRound asserted s).bank.scan = s.bank.scan := by
  unfold onCompFltRound
  dsimp only
  repeat' split
  all_goals simp

/-! ### The Arbiter -/

@[simp] theorem giveDoorOutputs_scan : (giveDoorOutputs s).bank.scan = s.bank.scan := by simp [giveDoorOutputs]

@[simp] theorem placeSlot_scan (r : Slot) : (placeSlot r s).bank.scan = s.bank.scan := placeSlot_counter s r .scan rfl

@[simp] theorem arbitrate_scan : (arbitrate s).bank.scan = s.bank.scan := arbitrate_counter s .scan nofun rfl

@[simp] theorem endSlot_scan (z : Zone) (full : Bool) : (endSlot z full s).bank.scan = s.bank.scan := by
  unfold endSlot
  dsimp only
  repeat' split
  all_goals simp

@[simp] theorem endHeldSlot_scan (z : Zone) (full : Bool) : (endHeldSlot z full s).bank.scan = s.bank.scan := by
  simp [endHeldSlot]

@[simp] theorem resumeSlot_scan (z : Zone) (phase : SlotPhase) (fixed : Bool) (remaining : Nat)
    (snapshot : Option Route) : (resumeSlot z phase fixed remaining snapshot s).bank.scan = s.bank.scan := by
  unfold resumeSlot
  dsimp only
  split <;> simp

@[simp] theorem popSlot_scan (mask : Nat) (z : Zone) (phase : SlotPhase) (fixed : Bool) (remaining : Nat)
    (snapshot : Option Route) : (popSlot mask z phase fixed remaining snapshot s).bank.scan = s.bank.scan := by
  unfold popSlot
  split <;> simp

/-! ### The phases of the defrost -/

@[simp] theorem giveStopOutputs_scan : (giveStopOutputs s).bank.scan = s.bank.scan :=
  giveStopOutputs_counter s .scan (.inl rfl)

theorem FrostKept.scan {s t : State} (h : FrostKept s t) : t.bank.scan = s.bank.scan := h.2 .scan nofun (.inl rfl)

@[simp] theorem continueHeat_scan : (continueHeat s).bank.scan = s.bank.scan := (continueHeat_frostKept s).scan

@[simp] theorem endStopWait_scan : (endStopWait s).bank.scan = s.bank.scan := by
  unfold endStopWait
  split
  · simp
  · exact (enterHeat_frostKept s).scan

@[simp] theorem enterStopWait_scan : (enterStopWait s).bank.scan = s.bank.scan := (enterStopWait_frostKept s).scan

@[simp] theorem enterFirstPhase_scan : (enterFirstPhase s).bank.scan = s.bank.scan := (enterFirstPhase_frostKept s).scan

@[simp] theorem enterDrip_scan : (enterDrip s).bank.scan = s.bank.scan := by
  unfold enterDrip
  dsimp only
  split <;> simp

@[simp] theorem enterRecover_scan : (enterRecover s).bank.scan = s.bank.scan := by
  simp [enterRecover, giveRecoverOutputs]

@[simp] theorem endHeat_scan (how : HeatEnd) : (endHeat how s).bank.scan = s.bank.scan := by simp [endHeat]

@[simp] theorem heatTimedOut_scan : (heatTimedOut s).bank.scan = s.bank.scan := by
  unfold heatTimedOut
  split <;> simp

@[simp] theorem coilLossInHeat_scan : (coilLossInHeat s).bank.scan = s.bank.scan := by
  unfold coilLossInHeat
  dsimp only
  repeat' split
  all_goals simp

@[simp] theorem coilInHeat_scan (state : ChanState) (tf : Option Int) :
    (coilInHeat state tf s).bank.scan = s.bank.scan := by
  unfold coilInHeat
  dsimp only
  split
  · simp
  · generalize (s.defrostHolding && !s.level .heaterOpen && _) = hit
    repeat' split
    all_goals simp

@[simp] theorem followComp_scan : (followComp s).bank.scan = s.bank.scan := by
  unfold followComp
  repeat' split
  all_goals simp

@[simp] theorem resumeDefrost_scan : (resumeDefrost s).bank.scan = s.bank.scan := by
  unfold resumeDefrost givePreChillOutputs giveRecoverOutputs
  dsimp only
  repeat' split
  all_goals simp

/-! ### Claims and releases of the path -/

@[simp] theorem tellHolder_scan : (tellHolder s).bank.scan = s.bank.scan := tellHolder_counter s .scan nofun

@[simp] theorem claimDoor_scan : (claimDoor s).bank.scan = s.bank.scan :=
  (claimDoor_counter s .scan nofun (.inl rfl)).trans (doorTaken_counter s .scan nofun nofun nofun)

@[simp] theorem claimDefrost_scan : (claimDefrost s).bank.scan = s.bank.scan := by
  rw [claimDefrost_eq, tellHolder_scan, enterFirstPhase_scan]
  exact defrostTaken_counter s .scan nofun

@[simp] theorem report_scan : (report s).bank.scan = s.bank.scan := by
  unfold report
  dsimp only
  repeat' split
  all_goals simp

@[simp] theorem releasePath_scan : (releasePath s).bank.scan = s.bank.scan := by
  unfold releasePath
  dsimp only
  split <;> simp

@[simp] theorem setCalling_scan (z : Zone) (b : Bool) : (setCalling z b s).bank.scan = s.bank.scan := by
  unfold setCalling callingBegan callingStopped
  dsimp only
  repeat' split
  all_goals simp

@[simp] theorem onSlotExpiry_scan : (onSlotExpiry s).bank.scan = s.bank.scan := by
  unfold onSlotExpiry
  repeat' split
  all_goals simp

@[simp] theorem endSlotAtOff_scan (z : Zone) : (endSlotAtOff z s).bank.scan = s.bank.scan := by
  unfold endSlotAtOff
  repeat' split
  all_goals simp

@[simp] theorem dueCheck_scan : (dueCheck s).bank.scan = s.bank.scan := by
  unfold dueCheck enterPending
  dsimp only
  repeat' split
  all_goals simp

@[simp] theorem endRecover_scan : (endRecover s).bank.scan = s.bank.scan := by
  unfold endRecover leaveDefrost
  dsimp only
  repeat' split
  all_goals simp

@[simp] theorem coilSample_scan : (coilSample s).bank.scan = s.bank.scan := by
  unfold coilSample onCoilSample
  dsimp only
  repeat' split
  all_goals simp

@[simp] theorem onHeaterSenseRound_scan (sense : Bool) : (onHeaterSenseRound sense s).bank.scan = s.bank.scan := by
  unfold onHeaterSenseRound
  dsimp only
  split <;> simp

/-! ### Zones and doors -/

@[simp] theorem enterPolicy_scan (z : Zone) (p : Subst) : (enterPolicy z p s).bank.scan = s.bank.scan := by
  unfold enterPolicy
  dsimp only
  repeat' split
  all_goals simp

@[simp] theorem lostSample_scan (z : Zone) (lost : Nat) : (lostSample z lost s).bank.scan = s.bank.scan := by
  unfold lostSample policySample
  dsimp only
  repeat' split
  all_goals simp

@[simp] theorem validSample_scan (z : Zone) (tf : Option Int) : (validSample z tf s).bank.scan = s.bank.scan := by
  unfold validSample trustedSample
  dsimp only
  repeat' split
  all_goals simp

@[simp] theorem zoneSample_scan (z : Zone) : (zoneSample z s).bank.scan = s.bank.scan := by
  unfold zoneSample
  dsimp only
  repeat' split
  all_goals simp

@[simp] theorem onModeChange_scan (z : Zone) (old new : Mode) : (onModeChange z old new s).bank.scan = s.bank.scan := by
  unfold onModeChange enterOff leaveOff enterBoost startBoost
  dsimp only
  repeat' split
  all_goals simp

@[simp] theorem onBoostExpiry_scan (z : Zone) : (onBoostExpiry z s).bank.scan = s.bank.scan := by
  unfold onBoostExpiry
  dsimp only
  split <;> simp

@[simp] theorem endPause_scan : (endPause s).bank.scan = s.bank.scan := by
  unfold endPause
  repeat' split
  all_goals simp

/-! ### Expiries and the round -/

theorem onPhaseExpiry_scan : (onPhaseExpiry s).bank.scan = s.bank.scan := by
  unfold onPhaseExpiry
  split <;> simp

/-- R155: no expiry of a one-shot moves SCAN. -/
theorem onExpiry_scan (i : CounterId) : (onExpiry i s).bank.scan = s.bank.scan := by
  cases i with
  | phase => exact onPhaseExpiry_scan s
  | svc =>
    simp only [onExpiry, onSvcExpiry, endService]
    split <;> simp
  | _ => simp [onExpiry, onGuard, onSettleExpiry, onPauseExpiry]

theorem drain_scan (n : Nat) : (drain n s).bank.scan = s.bank.scan := by
  induction n generalizing s with
  | zero => rfl
  | succ n ih =>
    unfold drain
    split
    · rfl
    · rw [ih, onExpiry_scan]

/-- R38: nothing that a round is handed to moves SCAN. -/
theorem onRound_scan (sets : List SampleSet) : (onRound sets s).bank.scan = s.bank.scan := by
  simp [onRound, onCompFlt]

end

end Sys2Proof.Machine

/-! The round completion (R30 to R39, R44): what a round does to each channel's record by the record's state, and what
it leaves of the Scanner's other fields and of the SCAN counter. -/

namespace Sys2Proof.Machine

section

variable (curve : List Int) (shift code : Nat) (r : ChannelRec)

/-! ### A round of one channel (R31 to R37, R39) -/

theorem codeOutOfRange_iff : codeOutOfRange code = true ↔ code ≤ 31 ∨ 4064 ≤ code := by
  simp [codeOutOfRange, or_comm]

theorem sampleOf_of_outOfRange (h : code ≤ 31 ∨ 4064 ≤ code) : sampleOf curve code = none :=
  if_pos ((codeOutOfRange_iff code).2 h)

theorem sampleOf_of_inRange (h : ¬ (code ≤ 31 ∨ 4064 ≤ code)) : sampleOf curve code = some (convert curve code) :=
  if_neg fun hc => h ((codeOutOfRange_iff code).1 hc)

@[simp] theorem takeShift_same : takeShift r.shift r = r := if_pos rfl

theorem sat16_eq_min (n : Nat) : sat16 n = min 65535 n := by
  unfold sat16
  split <;> omega

/-- R31: the STEP test, by the distance from Tf. -/
theorem stepTooFar_iff (t : Int) : stepTooFar r t = true ↔ ∃ tf, r.tf = some tf ∧ 100 < |t - tf| := by
  unfold stepTooFar
  split
  next tf htf => simp [htf, lt_abs]
  next htf => simp [htf]

/-- R34, R35: a channel that is not LOST, whose sample passes. -/
theorem channelRound_good (hl : r.state ≠ .lost) (hc : ¬ (code ≤ 31 ∨ 4064 ≤ code))
    (hs : stepTooFar r (convert curve code) = false) :
    channelRound curve r.shift code r = goodSample (convert curve code) r := by
  cases h : r.state <;> simp_all [channelRound, sampleOf_of_inRange curve code hc]

/-- R31, R34, R35: a channel that is not LOST, whose code is out of range or whose sample fails the STEP test. -/
theorem channelRound_bad (hl : r.state ≠ .lost)
    (hb : code ≤ 31 ∨ 4064 ≤ code ∨ stepTooFar r (convert curve code) = true) :
    channelRound curve r.shift code r = badSample r := by
  by_cases hc : code ≤ 31 ∨ 4064 ≤ code
  · cases h : r.state <;> simp_all [channelRound, sampleOf_of_outOfRange curve code hc]
  · have hs : stepTooFar r (convert curve code) = true := (or_assoc.2 hb).resolve_left hc
    cases h : r.state <;> simp_all [channelRound, sampleOf_of_inRange curve code hc]

theorem channelRound_lost (hl : r.state = .lost) :
    channelRound curve r.shift code r = lostRound (sampleOf curve code) r := by
  simp [channelRound, hl]

/-- R34, R35: a VALID channel has counted no bad sample, so one rule serves VALID and SUSPECT. -/
theorem badSample_eq (hl : r.state ≠ .lost) (hv : r.state = .valid → r.bad = 0) :
    badSample r =
      if r.bad + 1 < 5 then { r with state := .suspect, bad := r.bad + 1 }
      else { r with state := .lost, bad := 5, good := 0, lost := 0 } := by
  unfold badSample
  cases h : r.state with
  | valid => simp [hv h]
  | suspect =>
    by_cases hb : r.bad + 1 < 5
    · simp [hb, Nat.not_le.2 hb, ← h]
    · simp [hb, Nat.not_lt.1 hb]
  | lost => exact absurd h hl

/-- R37: the first sample of a pending channel begins its filter. -/
theorem goodSample_of_pending (t : Int) (h : r.tf = none) :
    goodSample t r = { r with state := .valid, bad := 0, acc := some (t * 2 ^ r.shift), tf := some t } := by
  simp [goodSample, filterTake, filterInit, h]

/-- R33: the filter takes a sample. -/
theorem goodSample_of_filter (t a tf : Int) (ha : r.acc = some a) (htf : r.tf = some tf) :
    goodSample t r =
      { r with
        state := .valid
        bad := 0
        acc := some (a - a / 2 ^ r.shift + t)
        tf := some ((a - a / 2 ^ r.shift + t) / 2 ^ r.shift) } := by
  simp [goodSample, filterTake, ha, htf]

/-- R39: a changed shift is taken before the round is judged; the round then finds it unchanged. -/
theorem channelRound_takeShift (w : ChannelRec) (hw : takeShift shift r = w) (hs : w.shift = shift) :
    channelRound curve shift code r = channelRound curve shift code w := by
  subst hs
  simp [channelRound, hw]

/-- R31 to R35, R37: a round of a channel that is VALID or SUSPECT. -/
theorem channelRound_of_not_lost (hl : r.state ≠ .lost) (hv : r.state = .valid → r.bad = 0) :
    (∀ t, ¬ (code ≤ 31 ∨ 4064 ≤ code) → convert curve code = t →
      (r.tf = none → channelRound curve r.shift code r =
        { r with state := .valid, bad := 0, acc := some (t * 2 ^ r.shift), tf := some t }) ∧
      (∀ a tf, r.acc = some a → r.tf = some tf → |t - tf| ≤ 100 →
        channelRound curve r.shift code r =
          { r with
            state := .valid
            bad := 0
            acc := some (a - a / 2 ^ r.shift + t)
            tf := some ((a - a / 2 ^ r.shift + t) / 2 ^ r.shift) })) ∧
    ((code ≤ 31 ∨ 4064 ≤ code ∨ ∃ tf, r.tf = some tf ∧ 100 < |convert curve code - tf|) →
      channelRound curve r.shift code r =
        if r.bad + 1 < 5 then { r with state := .suspect, bad := r.bad + 1 }
        else { r with state := .lost, bad := 5, good := 0, lost := 0 }) := by
  refine ⟨?_, fun hb => ?_⟩
  · rintro t hc rfl
    have hgood : (∀ tf, r.tf = some tf → |convert curve code - tf| ≤ 100) →
        channelRound curve r.shift code r = goodSample (convert curve code) r := fun hn =>
      channelRound_good curve code r hl hc <| Bool.eq_false_iff.2 fun hs =>
        let ⟨tf, htf, hfar⟩ := (stepTooFar_iff r _).1 hs
        absurd (hn tf htf) (not_le.2 hfar)
    refine ⟨fun htf => ?_, fun a tf ha htf hnear => ?_⟩
    · rw [hgood (by simp [htf]), goodSample_of_pending r _ htf]
    · rw [hgood (by simp [htf, hnear]), goodSample_of_filter r _ a tf ha htf]
  · rw [← stepTooFar_iff] at hb
    rw [channelRound_bad curve code r hl hb, badSample_eq r hl hv]

/-- R36: a round of a channel that is LOST. -/
theorem channelRound_of_lost (hl : r.state = .lost) :
    ((code ≤ 31 ∨ 4064 ≤ code) →
      channelRound curve r.shift code r = { r with good := 0, lost := min 65535 (r.lost + 1) }) ∧
    (¬ (code ≤ 31 ∨ 4064 ≤ code) → r.good < 4 →
      channelRound curve r.shift code r = { r with good := r.good + 1, lost := min 65535 (r.lost + 1) }) ∧
    (∀ t, ¬ (code ≤ 31 ∨ 4064 ≤ code) → 4 ≤ r.good → convert curve code = t →
      channelRound curve r.shift code r =
        { r with
          state := .valid, bad := 0, good := 0, lost := 0, acc := some (t * 2 ^ r.shift), tf := some t }) := by
  rw [channelRound_lost curve code r hl]
  refine ⟨fun hc => ?_, fun hc hg => ?_, ?_⟩
  · rw [sampleOf_of_outOfRange curve code hc]
    simp [lostRound, sat16_eq_min]
  · rw [sampleOf_of_inRange curve code hc]
    have hg' : ¬ 5 ≤ r.good + 1 := by omega
    simp [lostRound, sat16_eq_min, hg']
  · rintro t hc hg rfl
    rw [sampleOf_of_inRange curve code hc]
    simp [lostRound, filterInit, hg]

/-- R39: what a changed shift makes of the record before its round. -/
theorem channelRound_of_newShift (hs : r.shift ≠ shift) :
    (r.tf = none → channelRound curve shift code r = channelRound curve shift code { r with shift := shift }) ∧
    ∀ t, r.tf = some t →
      channelRound curve shift code r =
        channelRound curve shift code { r with shift := shift, acc := some (t * 2 ^ shift) } :=
  ⟨fun htf => channelRound_takeShift curve shift code r _ (by simp [takeShift, hs.symm, htf]) rfl,
    fun t htf => channelRound_takeShift curve shift code r _ (by simp [takeShift, hs.symm, htf]) rfl⟩

end

/-! ### The channel records and levels after a round (R30, R35, R36) -/

section

variable (sets : List SampleSet) (s : State)

theorem majority_map (f : SampleSet → Bool) : majority (sets.map f) = decide (5 ≤ (sets.filter f).length) := by
  simp [majority, List.filter_map, Function.comp_def]

theorem updateChannel_channel_self (c : Channel) :
    (updateChannel sets c s).channel c =
      channelRound s.scanner.active (s.effN (.filterShift c)) (averageCode (sets.map fun x => x.codes.get c))
        (s.channel c) := by
  simp [updateChannel, State.channel]

theorem updateChannel_channel_of_ne (c d : Channel) (h : d ≠ c) : (updateChannel sets c s).channel d = s.channel d := by
  simp [updateChannel, State.channel, PerChannel.get_set_of_ne _ _ _ _ h]

theorem updateChannel_level_self (c : Channel) :
    (updateChannel sets c s).level (.sensorLost c) = decide (((updateChannel sets c s).channel c).state = .lost) := by
  rw [updateChannel_channel_self]
  exact State.level_setLevel_self _ _ _

theorem updateChannel_level_of_ne (c : Channel) (j : Cond) (h : j ≠ .sensorLost c) :
    (updateChannel sets c s).level j = s.level j :=
  State.level_setLevel_of_ne _ _ _ _ h

theorem updateChannel_effN (c : Channel) (i : Item) : (updateChannel sets c s).effN i = s.effN i := by
  simp [State.effN, State.eff]

/-- R30: every channel is given its record for the round. -/
theorem updateChannels_channel (c : Channel) :
    (updateChannels sets s).channel c =
      channelRound s.scanner.active (s.effN (.filterShift c)) (averageCode (sets.map fun x => x.codes.get c))
        (s.channel c) := by
  cases c <;>
    simp [updateChannels, updateChannel_channel_self, updateChannel_channel_of_ne, updateChannel_effN,
      updateChannel_curves]

/-- R35, R36: after a round SENSOR_LOST of every channel tells whether its record is LOST. -/
theorem updateChannels_level (c : Channel) :
    (updateChannels sets s).level (.sensorLost c) = decide (((updateChannels sets s).channel c).state = .lost) := by
  cases c with
  | ambient => exact updateChannel_level_self _ _ _
  | _ => simp [updateChannels, updateChannel_level_self, updateChannel_level_of_ne, updateChannel_channel_of_ne]

/-- R30, R44: a round leaves the Scanner with the channels' records, the two line levels and no samples. -/
theorem onRound_scanner :
    (onRound sets s).scanner =
      { (updateChannels sets s).scanner with
        heaterSense := some (decide (5 ≤ (sets.filter fun x => x.heaterSense).length))
        compFlt := some (decide (5 ≤ (sets.filter fun x => x.compFlt).length))
        sets := [] } := by
  simp [onRound, majority_map, onCompFlt]

/-! ### The end of the step -/

@[simp] theorem startReply_requests : (startReply s).link.requests = s.link.requests := by
  unfold startReply
  split <;> simp [send, State.onLink]

/-- With no request in the buffer the end of a step leaves what the signalled expiries leave. -/
theorem finish_of_noRequests (h : s.link.requests = []) : finish s = startNote (startReply (drainAll s)) := by
  have hr : (startReply (drainAll s)).link.requests = [] := by simp [h]
  simp only [finish, runLink, execute_of_waiting _ _ (.inl hr)]

theorem finish_noRequests_keeps (h : s.link.requests = []) :
    (finish s).pending = s.pending ∧ (finish s).scanner = s.scanner ∧
      (finish s).counter .scan = s.counter .scan := by
  simp [finish_of_noRequests s h, State.counter_scan, drainAll, drain_scan, drain_keeps]

theorem updateChannels_loaded : (updateChannels sets s).scanner.loaded = s.scanner.loaded := by
  simp [updateChannels, updateChannel]

/-! ### The round completion -/

/-- R30, R154: the SCAN expiry of a RUNNING counter rewinds it and closes the round. -/
theorem exec_roundCompletion (h : (s.counter .scan).run = true) :
    exec (.roundCompletion sets) s = .next (finish (onRound sets (s.onCounter .scan Counter.rewind))) := by
  show Host.Outcome.next (finish (roundCloses sets s)) = _
  rw [roundCloses, if_pos h]

theorem onRound_channel (c : Channel) :
    (onRound sets s).channel c =
      channelRound s.scanner.active (s.effN (.filterShift c)) (((sets.map fun x => x.codes.get c).sum + 4) / 8)
        (s.channel c) := by
  have h : (onRound sets s).channel c = (updateChannels sets s).channel c := by
    simp [State.channel, onRound_scanner]
  exact h.trans (updateChannels_channel sets s c)

/-- R30, R44: what a round completion leaves in the Scanner and in SCAN, with no request waiting. -/
theorem roundCompletion_leaves (hr : s.link.requests = []) :
    let t := finish (onRound sets (s.onCounter .scan Counter.rewind))
    t.scanner = (onRound sets (s.onCounter .scan Counter.rewind)).scanner ∧
      t.counter .scan = { s.counter .scan with count := (s.counter .scan).reload, part := 0 } ∧
      t.pending = s.pending := by
  obtain ⟨hpend, hscanner, hscan⟩ :=
    finish_noRequests_keeps (onRound sets (s.onCounter .scan Counter.rewind)) (by simpa using hr)
  refine ⟨hscanner, ?_, by simpa using hpend⟩
  rw [hscan, State.counter_scan, onRound_scan]
  rfl

end

/-- Settles O33: a round by the channel's state (`channelRound_of_not_lost`, `channelRound_of_lost`,
`channelRound_of_newShift`), each record and level of a round by `updateChannels`, and the step's end, which moves
neither the Scanner nor SCAN. -/
theorem roundCompletionTakesTheRound : Obligations.RoundCompletionTakesTheRound := by
  refine ⟨fun sets s hrun hreq => ?_, fun curve code r => channelRound_of_not_lost curve code r,
    fun curve shift code r => ⟨channelRound_of_lost curve code r, channelRound_of_newShift curve shift code r⟩, ?_⟩
  · obtain ⟨hscanner, hscan, hpending⟩ := roundCompletion_leaves sets s hreq
    refine ⟨_, exec_roundCompletion sets s hrun, fun c => ?_, ?_⟩
    · exact (congrArg (fun x : Scanner => x.chan.get c) hscanner).trans
        (onRound_channel sets (s.onCounter .scan Counter.rewind) c)
    · rw [hscanner, onRound_scanner]
      obtain ⟨hactive, hstaged⟩ := updateChannels_curves (s.onCounter .scan Counter.rewind) sets
      exact ⟨rfl, rfl, rfl, hactive, hstaged, updateChannels_loaded sets _, hscan, hpending⟩
  · rintro sets s w hrun rfl
    refine ⟨updateChannels_level sets _, ?_⟩
    rintro sense flt rfl rfl
    rw [exec_roundCompletion sets s hrun, ← majority_map, ← majority_map]
    rfl

end Sys2Proof.Machine

/-! Requests that answer what stands (R27, R65, R77, R169), PLAN_STAGE (R62), and the orders as the executor takes them
(R177, R181). -/

namespace Sys2Proof.Machine

section

variable (s : State) (tag : Byte)

/-! ### Accepted orders and views (R177, R181) -/

/-- R181: a request of fixed length is read back from its frame. -/
theorem checkFrame_of_read (r : Request) (hk : isRequestKind r.kind = true)
    (hr : readRequest r.kind.toNat r.body = some r) : checkFrame (Request.frame tag r) = .request r := by
  simp [checkFrame, Request.frame, hk, hr]

theorem Order.ofCode_code (o : Order) : Order.ofCode o.code = some o := by cases o <;> rfl

/-- R181: an order answers its status, with its code where it is accepted. -/
theorem perform_order (o : Order) :
    perform (.order o.code) s = setAnswer (doOrder o s).1 [o.code] (doOrder o s).2 := by
  simp [perform, performOrder, Order.ofCode_code]

/-- R177, R181: an order that is taken, and starts no one-shot at count 0. -/
theorem submit_order_ok (o : Order) {t : State} (ha : Accepting s) (ho : doOrder o s = (.ok, t))
    (hq : t.own.signalled = []) :
    submit (orderFrame tag o) s = replied ⟨0x04#8, tag, [o.code]⟩ (.ok [o.code]) t := by
  have hp : perform (.order o.code) s = (.ok [o.code], t) := by
    rw [perform_order, ho]
    rfl
  unfold orderFrame
  rw [submit_request s tag _ ha (checkFrame_order tag _) (by rw [hp]; exact hq), hp]
  rfl

/-- R177, R181: an order that is refused changes nothing. -/
theorem submit_order_refused (o : Order) (st : Status) (ha : Accepting s) (ho : doOrder o s = (st, s))
    (hst : st.accepts = false) :
    submit (orderFrame tag o) s = replied ⟨0x04#8, tag, [o.code]⟩ (.refuse st) s := by
  have hp : perform (.order o.code) s = (.refuse st, s) := by
    rw [perform_order, ho]
    simp [setAnswer, hst, refuse]
  unfold orderFrame
  rw [submit_request s tag _ ha (checkFrame_order tag _) (by rw [hp]; exact ha.1), hp]
  rfl

/-- R177: a request that leaves the state as it is. -/
theorem submit_view (r : Request) (a : Answer) (ha : Accepting s)
    (hr : checkFrame (Request.frame tag r) = .request r) (hp : perform r s = (a, s)) :
    submit (Request.frame tag r) s = replied (Request.frame tag r) a s := by
  rw [submit_request s tag r ha hr (by rw [hp]; exact ha.1), hp]

/-! ### Views (R27, R65, R77, R169) -/

theorem Zone.ofByte_zoneCode (z : Zone) : Zone.ofByte (byteOf (zoneCode z)) = some z := by cases z <;> rfl

/-- R181: no zone has a code above 2. -/
theorem Zone.ofByte_of_ge (b : Byte) (h : 3 ≤ b.toNat) : Zone.ofByte b = none := by
  have hne : ∀ z ∈ allZones, ¬ (byteOf (zoneCode z) == b) = true := by
    intro z _ he
    have hb : b = byteOf (zoneCode z) := (beq_iff_eq.mp he).symm
    subst hb
    cases z <;> revert h <;> decide
  unfold Zone.ofByte
  rw [List.find?_eq_none]
  exact hne

/-- R27, R181: 21 bytes, or 23 in BOOST. -/
theorem zoneRecord_length (z : Zone) : (zoneRecord z s).length = if s.mode z = .boost then 23 else 21 := by
  unfold zoneRecord
  split <;> simp [intBytes, natBytes, halfBytes]

theorem exec_zoneView (ha : Accepting s) (b : Byte) {a : Answer} (hp : performZoneView b s = (a, s)) :
    exec (.zoneView tag b) s = .next (replied ⟨0x05#8, tag, [b]⟩ a s) :=
  congrArg Host.Outcome.next (submit_view s tag (.zoneView b) a ha (checkFrame_of_read tag _ rfl rfl) hp)

theorem exec_planView (ha : Accepting s) (b : Byte) {a : Answer} (hp : performPlanView b s = (a, s)) :
    exec (.planView tag b) s = .next (replied ⟨0x07#8, tag, [b]⟩ a s) :=
  congrArg Host.Outcome.next (submit_view s tag (.planView b) a ha (checkFrame_of_read tag _ rfl rfl) hp)

theorem performPlanView_of_ge (b : Byte) (h : 2 ≤ b.toNat) : performPlanView b s = (.refuse .notApplicable, s) := by
  have h0 : b ≠ 0#8 := by rintro rfl; revert h; decide
  have h1 : b ≠ 1#8 := by rintro rfl; revert h; decide
  simp [performPlanView, h0, h1, refuse]

/-- R77, R181: the holder's five bytes of a STACK_VIEW. -/
theorem stackRecord_eq :
    stackRecord s =
      (match s.arb.holder with
        | .nobody => [0x00#8, 0xFF#8, 0x00#8, 0xFF#8, 0xFF#8]
        | .slot r =>
          [0x01#8, byteOf (zoneCode r.zone), if r.serving then 0x02#8 else 0x01#8,
            (match r.phase with
              | .extend => 0x01#8
              | .min => if r.fixed then 0x02#8 else 0x00#8),
            (match r.source with
              | .plan => 0x00#8
              | .snapshot => 0x01#8)]
        | .door => [0x02#8, 0xFF#8, 0x03#8, 0xFF#8, 0xFF#8]
        | .defrost => [0x03#8, 0xFF#8, 0x03#8, 0xFF#8, 0xFF#8]
        | .service => [0x04#8, 0xFF#8, 0x03#8, 0xFF#8, 0xFF#8]) ++
        byteOf s.arb.stack.length :: s.arb.stack.flatMap suspFrameRecord := by
  unfold stackRecord
  cases s.arb.holder with
  | slot r =>
    obtain ⟨z, phase, fixed, route, source, serving⟩ := r
    cases phase <;> cases fixed <;> cases source <;> cases serving <;> rfl
  | _ => rfl

end

/-- Settles O27: each view answers its record and leaves the state. -/
theorem zonePlanStackAndConditionsViews : Obligations.ZonePlanStackAndConditionsViews := by
  unfold Obligations.ZonePlanStackAndConditionsViews
  refine ⟨fun tag z s ha => ⟨?_, zoneRecord_length s z, fun b hb => ?_⟩,
    fun tag s ha => ⟨exec_planView s tag ha _ ?_, exec_planView s tag ha _ ?_,
      fun b hb => exec_planView s tag ha b (performPlanView_of_ge s b hb), ?_, ?_⟩⟩
  · refine exec_zoneView s tag ha _ ?_
    rw [performZoneView, Zone.ofByte_zoneCode]
    rfl
  · refine exec_zoneView s tag ha b ?_
    rw [performZoneView, Zone.ofByte_of_ge b hb]
    rfl
  · simp [performPlanView, planRecord, okWith, Answer.ok]
  · simp [performPlanView, planRecord, okWith, Answer.ok]
  · refine congrArg Host.Outcome.next (submit_view s tag .stackView _ ha (checkFrame_of_read tag _ rfl rfl) ?_)
    exact congrArg (fun l => (Answer.ok l, s)) (stackRecord_eq s)
  · exact congrArg Host.Outcome.next (submit_view s tag .conditions _ ha (checkFrame_of_read tag _ rfl rfl) rfl)

/-! ### PLAN_STAGE (R62) -/

section

variable (s : State) (tag entry : Byte) (a b c d : Half)

/-- R181: a PLAN_STAGE frame is read back as the PLAN_STAGE it carries. -/
theorem checkFrame_planStage :
    checkFrame (Request.frame tag (.planStage entry a b c d)) = .request (.planStage entry a b c d) := by
  simp [checkFrame, Request.frame, Request.kind, Request.body, halfBytes, isRequestKind, readRequest]

theorem exec_planStage (ha : Accepting s)
    (hq : (performPlanStage entry a.toInt b.toInt c.toInt d.toInt s).2.own.signalled = []) :
    exec (.planStage tag entry a b c d) s =
      .next (replied ⟨0x06#8, tag, entry :: (halfBytes a ++ halfBytes b ++ halfBytes c ++ halfBytes d)⟩
        (performPlanStage entry a.toInt b.toInt c.toInt d.toInt s).1
        (performPlanStage entry a.toInt b.toInt c.toInt d.toInt s).2) :=
  congrArg Host.Outcome.next (submit_request s tag _ ha (checkFrame_planStage tag entry a b c d) hq)

/-- R62: the route is what the limits make of the fields. -/
def Route.Limits (e : PlanEntry) (a b c d : Int) (r : Route) : Prop :=
  r.freshOpen = (limitOpening a).toNat ∧ r.chillOpen = (limitOpening b).toNat ∧ r.fanDuty = (limitDuty e c).toNat ∧
    r.floor = floorOf (limitFloor d)

theorem limitOpening_eq (v : Int) : limitOpening v = max 0 (min 100 v) := limited_eq _ _ _ (by decide)

theorem limitDuty_zone (z : Zone) (v : Int) : limitDuty (.zone z) v = max 25 (min 100 v) := limited_eq _ _ _ (by decide)

theorem limitDuty_idle (v : Int) : limitDuty .idle v = if v ≤ 0 then 0 else max 25 (min 100 v) := by
  unfold limitDuty
  rw [limited_eq _ _ _ (by decide)]

theorem floorOf_limitFloor (v : Int) :
    floorOf (limitFloor v) = if v = 0 then none else some (max 900 (min 5400 v) / 30 * 30).toNat := by
  unfold floorOf limitFloor
  rw [limited_eq _ _ _ (by decide)]
  split_ifs <;> first | rfl | omega

/-- R62: the limited fields are not negative, so a route holds them as they are. -/
theorem limits_nonneg (e : PlanEntry) (v : Int) : 0 ≤ limitOpening v ∧ 0 ≤ limitDuty e v ∧ 0 ≤ limitFloor v := by
  refine ⟨by rw [limitOpening_eq]; omega, ?_, ?_⟩
  · cases e with
    | zone z => rw [limitDuty_zone]; omega
    | idle => rw [limitDuty_idle]; split_ifs <;> omega
  · unfold limitFloor
    rw [limited_eq _ _ _ (by decide)]
    split_ifs <;> omega

theorem floorOf_getD (v : Int) (h : 0 ≤ v) : (((floorOf v).getD 0 : Nat) : Int) = v := by
  unfold floorOf
  split_ifs with hv
  · simp [hv]
  · simpa using h

/-- R62: an entry that is named is staged with the limited route; CLAMPED tells of a field that was changed. -/
theorem performPlanStage_of_entry (e : PlanEntry) (he : PlanEntry.ofByte entry = some e) (a b c d : Int) (r : Route)
    (hr : r.Limits e a b c d) :
    performPlanStage entry a b c d s =
      ({ status :=
          if a = r.freshOpen ∧ b = r.chillOpen ∧ c = r.fanDuty ∧ d = r.floor.getD 0 then .ok else .clamped
         contents := entry :: routeRecord r },
        { s with arb := { s.arb with staged := s.arb.staged.put e r } }) := by
  obtain ⟨fo, co, fd, sf⟩ := r
  obtain ⟨rfl, rfl, rfl, rfl⟩ := hr
  obtain ⟨ha, -, -⟩ := limits_nonneg e a
  obtain ⟨hb, -, -⟩ := limits_nonneg e b
  obtain ⟨-, hc, -⟩ := limits_nonneg e c
  obtain ⟨-, -, hd⟩ := limits_nonneg e d
  simp only [performPlanStage, he, Int.toNat_of_nonneg, ha, hb, hc, floorOf_getD _ hd, Bool.and_eq_true,
    decide_eq_true_eq, and_assoc, eq_comm (a := a), eq_comm (a := b), eq_comm (a := c), eq_comm (a := d)]
  rfl

theorem PlanEntry.ofByte_zoneCode (z : Zone) : PlanEntry.ofByte (byteOf (zoneCode z)) = some (.zone z) := by
  rw [PlanEntry.ofByte, Zone.ofByte_zoneCode]

theorem PlanEntry.ofByte_of_ge (h : 4 ≤ entry.toNat) : PlanEntry.ofByte entry = none := by
  have h3 : entry ≠ 3#8 := by rintro rfl; revert h; decide
  rw [PlanEntry.ofByte, Zone.ofByte_of_ge entry (by omega)]
  simp [h3]

end

/-- Settles O29: a zone entry, the IDLE entry, and a selector that names none. -/
theorem planStageLimitsTheRoute : Obligations.PlanStageLimitsTheRoute := by
  intro tag entry a b c d s ha
  refine ⟨fun z r he hfo hco hfd hsf => ?_, fun r he hfo hco hfd hsf => ?_, fun he => ?_⟩
  · have hp := performPlanStage_of_entry s entry (.zone z) (by rw [he, PlanEntry.ofByte_zoneCode]) a.toInt b.toInt
      c.toInt d.toInt r
      ⟨by rw [hfo, limitOpening_eq], by rw [hco, limitOpening_eq], by rw [hfd, limitDuty_zone],
        by rw [hsf, floorOf_limitFloor]⟩
    rw [exec_planStage s tag entry a b c d ha (by rw [hp]; exact ha.1), hp]
    cases z <;> rfl
  · have hp := performPlanStage_of_entry s entry .idle (by rw [he]; rfl) a.toInt b.toInt c.toInt d.toInt r
      ⟨by rw [hfo, limitOpening_eq], by rw [hco, limitOpening_eq], by rw [hfd, limitDuty_idle],
        by rw [hsf, floorOf_limitFloor]⟩
    rw [exec_planStage s tag entry a b c d ha (by rw [hp]; exact ha.1), hp]
    rfl
  · have hp : performPlanStage entry a.toInt b.toInt c.toInt d.toInt s = (.refuse .notApplicable, s) := by
      rw [performPlanStage, PlanEntry.ofByte_of_ge entry he]
      rfl
    rw [exec_planStage s tag entry a b c d ha (by rw [hp]; exact ha.1), hp]

end Sys2Proof.Machine

/-! The choice of arbitration (R59): the greatest value compared, and among equals the first in rotating order. -/

namespace Sys2Proof.Machine

section

/-! ### The scan of step 5 -/

theorem key_le_foldl_max {pool : List Zone} (key : Zone → Nat) {y : Zone} (hy : y ∈ pool) (n : Nat) :
    key y ≤ pool.foldl (fun m z => max m (key z)) n := by
  induction pool generalizing n with
  | nil => cases hy
  | cons x rest ih =>
    rcases List.mem_cons.mp hy with rfl | hy
    · exact (le_max_right _ _).trans (le_foldl_max rest key _)
    · exact ih hy _

/-- The first that a scan accepts stands before every other that it would accept. -/
theorem idxOf_le_of_find? {order : List Zone} {p : Zone → Bool} {z y : Zone} (h : order.find? p = some z)
    (hy : p y = true) : order.idxOf z ≤ order.idxOf y := by
  induction order with
  | nil => cases h
  | cons x rest ih =>
    by_cases hx : p x = true
    · rw [List.find?_cons_of_pos hx] at h
      cases h
      simp
    · rw [List.find?_cons_of_neg hx] at h
      have hz : p z = true := List.find?_some h
      have hxz : x ≠ z := by rintro rfl; exact hx hz
      have hxy : x ≠ y := by rintro rfl; exact hx hy
      rw [List.idxOf_cons_ne _ hxz, List.idxOf_cons_ne _ hxy]
      exact Nat.succ_le_succ (ih h)

/-- R59: the zones in the order of the scan. -/
def rotation (last : Zone) : List Zone := [zoneAfter last, zoneAfter (zoneAfter last), last]

/-- R59: a zone picked holds the greatest key of the pool, and comes first of those that hold it. -/
theorem pickGreatest_greatest {last z : Zone} {pool : List Zone} {key : Zone → Nat}
    (h : pickGreatest last pool key = some z) :
    z ∈ pool ∧ (∀ y ∈ pool, key y ≤ key z) ∧
      ∀ y ∈ pool, key y = key z → (rotation last).idxOf z ≤ (rotation last).idxOf y := by
  have hscan : (rotation last).find?
      (fun x => pool.contains x && key x == pool.foldl (fun m x => max m (key x)) 0) = some z := h
  have hz : z ∈ pool ∧ key z = pool.foldl (fun m x => max m (key x)) 0 := by
    simpa using List.find?_some hscan
  refine ⟨hz.1, fun y hy => ?_, fun y hy hk => idxOf_le_of_find? hscan ?_⟩
  · rw [hz.2]
    exact key_le_foldl_max key hy 0
  · simpa [hy, hk] using hz.2

variable (s : State)

/-! ### The choice -/

/-- R59: where a candidate has waited for AGE_LIMIT, the choice is the greatest by waiting of those that have. -/
theorem choice_of_aged {x : Zone} (hx : x ∈ s.candidates) (hage : s.effN .ageLimit ≤ s.waited x) :
    s.choice =
      pickGreatest s.arb.lastServed (s.candidates.filter fun z => decide (s.effN .ageLimit ≤ s.waited z)) s.waited := by
  have hne : (s.candidates.filter fun z => decide (s.effN .ageLimit ≤ s.waited z)).isEmpty = false := by
    rw [List.isEmpty_eq_false_iff_exists_mem]
    exact ⟨x, List.mem_filter.mpr ⟨hx, by simpa using hage⟩⟩
  unfold State.choice
  simp [hne]

/-- R59: where none has, it is the greatest by urgency. -/
theorem choice_of_none_aged (h : ∀ x ∈ s.candidates, s.waited x < s.effN .ageLimit) :
    s.choice = pickGreatest s.arb.lastServed s.candidates fun z => (s.zone z).urgency := by
  have hnil : s.candidates.filter (fun z => decide (s.effN .ageLimit ≤ s.waited z)) = [] := by
    rw [List.filter_eq_nil_iff]
    intro x hx
    simpa using h x hx
  unfold State.choice
  simp [hnil]

variable {s} {z : Zone} (hz : s.choice = some z)

include hz

/-- R59: with a candidate at AGE_LIMIT the one chosen has waited longest. -/
theorem choice_waited (h : ∃ x ∈ s.candidates, s.effN .ageLimit ≤ s.waited x) :
    s.effN .ageLimit ≤ s.waited z ∧ (∀ y ∈ s.candidates, s.waited y ≤ s.waited z) ∧
      ∀ y ∈ s.candidates, s.waited y = s.waited z →
        (rotation s.arb.lastServed).idxOf z ≤ (rotation s.arb.lastServed).idxOf y := by
  obtain ⟨x, hx, hage⟩ := h
  rw [choice_of_aged s hx hage] at hz
  obtain ⟨hmem, hmax, hfirst⟩ := pickGreatest_greatest hz
  have hzage : s.effN .ageLimit ≤ s.waited z := by simpa using (List.mem_filter.mp hmem).2
  refine ⟨hzage, fun y hy => ?_, fun y hy he => hfirst y (List.mem_filter.mpr ⟨hy, by simpa [he] using hzage⟩) he⟩
  by_cases hyage : s.effN .ageLimit ≤ s.waited y
  · exact hmax y (List.mem_filter.mpr ⟨hy, by simpa using hyage⟩)
  · omega

/-- R59: otherwise no candidate has a greater urgency. -/
theorem choice_urgency (h : ∀ x ∈ s.candidates, s.waited x < s.effN .ageLimit) :
    (∀ y ∈ s.candidates, (s.zone y).urgency ≤ (s.zone z).urgency) ∧
      ∀ y ∈ s.candidates, (s.zone y).urgency = (s.zone z).urgency →
        (rotation s.arb.lastServed).idxOf z ≤ (rotation s.arb.lastServed).idxOf y := by
  rw [choice_of_none_aged s h] at hz
  exact (pickGreatest_greatest hz).2

omit hz

/-- R58: nobody is chosen exactly where nobody calls. -/
theorem choice_eq_none_iff : s.choice = none ↔ ∀ y, (s.zone y).calling = false := by
  refine ⟨fun h y => ?_, choice_of_none_calling s⟩
  by_contra hc
  obtain ⟨x, hx⟩ := choice_of_calling s (Bool.eq_true_of_not_eq_false hc)
  rw [h] at hx
  cases hx

end

/-- Settles O37, by the pool and the key that the choice picks with. -/
theorem arbitrationChoosesByAgeThenUrgency : Obligations.ArbitrationChoosesByAgeThenUrgency := by
  unfold Obligations.ArbitrationChoosesByAgeThenUrgency
  refine ⟨fun s => ⟨choice_eq_none_iff, fun z hz => ?_⟩, fun order s ho => ⟨mem_candidates s, fun z y hz hy => ?_⟩⟩
  · obtain ⟨hcall, hfull⟩ := (mem_candidates s z).mp (choice_mem s hz)
    refine ⟨hcall, hfull, fun h => ?_, fun h => (choice_urgency hz h).1⟩
    obtain ⟨hage, hmax, -⟩ := choice_waited hz h
    exact ⟨hage, hmax⟩
  · have hrot : order = rotation s.arb.lastServed := by
      rw [ho]
      cases s.arb.lastServed <;> rfl
    rw [hrot]
    exact ⟨fun h => (choice_waited hz h).2.2 y hy, fun h => (choice_urgency hz h).2 y hy⟩

end Sys2Proof.Machine

/-! What is read off the relations of Safety.lean, the orders START_DEFROST (R121) and PLAN_COMMIT (R63), and the growth of
F and of GAP with the claim it can lead to (R119, R120, R122). -/

namespace Sys2Proof.Machine

section

variable {s t : State}

/-! ### The demand, the duty and the levels that result -/

/-- R101: every demand resolves to stop or to run. -/
theorem Demand.stops_or_runsAt (d : Demand) (s : State) : d.Stops s ∨ ∃ n, d.RunsAt n s := by
  cases d with
  | stop => exact .inl trivial
  | fixed m => exact .inr ⟨_, rfl⟩
  | auto floor =>
    by_cases h : ∃ z, (s.zone z).calling = true
    · exact .inr ⟨_, h, rfl⟩
    · exact .inl fun z => Bool.eq_false_of_not_eq_true fun hz => h ⟨z, hz⟩

/-- R101: a demand given replaces the demand field. -/
theorem DemandTaken.demand {d : Demand} (h : DemandTaken d s t) : t.comp.demand = d := by
  obtain ⟨hfault, hkept, hstarts, hgoes, hheld, hstops⟩ := h
  cases hst : s.comp.state with
  | faulted => rw [(hfault (.inl hst)).1]
  | lockout => rw [(hfault (.inr hst)).1]
  | off =>
    cases hg : (s.counter .guard).run with
    | true => rw [(hkept hst (.inr hg)).1]
    | false =>
      rcases d.stops_or_runsAt s with hd | ⟨n, hn⟩
      · rw [(hkept hst (.inl hd)).1]
      · rw [(hstarts n hst hn hg).1]
  | running =>
    rcases d.stops_or_runsAt s with hd | ⟨n, hn⟩
    · by_cases hg : s.comp.guard = .minOn
      · rw [(hheld hst hd hg).1]
      · rw [(hstops hst hd hg).1]
    · rw [(hgoes n hst hn).1]

theorem FanAsked.requested {duty : Nat} (h : FanAsked duty s t) : t.air.fan.requested = duty := by
  rw [h.1, Fan.asked_requested]

variable (s)

/-- R75: SERVICE_HOLD tells whether SERVICE holds. -/
theorem tellHolder_serviceHold : (tellHolder s).level .serviceHold = decide (s.arb.holder = .service) := by
  have hset : (tellDoors (refreshHeater s)).arb = s.arb := by simp
  unfold tellHolder tellConditions
  dsimp only
  rw [hset]
  split
  · exact State.level_setLevel_self _ _ _
  · rw [State.level, Conditions.level, evalAllAlarms, evalAlarm_change_levels, evalAlarm_change_levels,
      evalAlarm_change_levels]
    exact State.level_setLevel_self _ _ _

/-- R132: with nobody, a slot or DOOR holding the heater is off. -/
theorem heaterWanted_of_holder (h : s.arb.holder ≠ .defrost) (h' : s.arb.holder ≠ .service) : s.heaterWanted = false := by
  unfold State.heaterWanted
  cases hh : s.arb.holder <;> simp_all

theorem isFree_iff (h : Holder) : h.isFree = true ↔ h = .nobody ∨ ∃ r, h = .slot r := by
  cases h <;> simp [Holder.isFree]

theorem heaterWanted_of_free (h : s.arb.holder.isFree = true) : s.heaterWanted = false := by
  rcases (isFree_iff _).mp h with h | ⟨r, h⟩ <;> exact heaterWanted_of_holder s (by simp [h]) (by simp [h])

/-! ### PLAN_COMMIT (R63, R64) -/

/-- R63, R64: the staged plan applied in IDLE, and its IDLE entry given. -/
theorem giveIdleOutputs_applyPlan_outputs (hs : SettingsLaw s) :
    OutputsGiven s.arb.staged.idle.freshOpen s.arb.staged.idle.chillOpen s.arb.staged.idle.fanDuty (.auto none) s
      (giveIdleOutputs (applyPlan s)) :=
  (outputs_of_row (applyPlan s) _ _ _ _ (hs.congr (by simp))).of_before
    (.of_bank (by simp) (by simp) (by simp) (by simp) (by simp) (by simp))

theorem giveIdleOutputs_own (hs : SettingsLaw s) : (giveIdleOutputs s).own = s.own := by
  unfold giveIdleOutputs
  dsimp only
  rw [giveDemand_own _ _ (hs.congr (by simp)), requestFan_own, giveOpenings_own]

theorem giveIdleOutputs_phase : (giveIdleOutputs s).defr.phase = s.defr.phase := by
  obtain ⟨st, on, hd⟩ := giveDemand_defr
    (requestFan s.arb.active.idle.fanDuty (giveOpenings s.arb.active.idle.freshOpen s.arb.active.idle.chillOpen s))
    (.auto none)
  unfold giveIdleOutputs
  dsimp only
  rw [hd]
  simp

theorem commitPlan_of_holder (h : s.arb.holder ≠ .nobody) :
    commitPlan s = { s with arb := { s.arb with commitPending := true } } := by
  unfold commitPlan
  split
  · next hh => exact absurd hh h
  all_goals rfl

/-- R63: the order in IDLE with no claim waiting. -/
theorem commitPlan_of_idle (h : s.arb.holder = .nobody) (hn : NoClaimWaits s) :
    commitPlan s = tellHolder (giveIdleOutputs (applyPlan s)) := by
  have he : commitPlan s = report (giveIdleOutputs (applyPlan s)) := by
    unfold commitPlan
    rw [h]
  have harb : (giveIdleOutputs (applyPlan s)).arb.holder = .nobody := by
    simpa [applyPlan] using h
  rw [he, report_of_no_claim]
  · simpa using hn.1
  · rw [giveIdleOutputs_phase]
    simpa using hn.2
  · rw [harb]
    rfl

end

/-- Settles O25: with a holder the commit waits; in IDLE the plan is applied and its IDLE entry given. -/
theorem planCommitByHolder : Obligations.PlanCommitByHolder := by
  intro tag s ha hs
  refine ⟨fun hh => ?_, fun hh hn => ?_⟩
  · exact congrArg Host.Outcome.next (submit_order_ok s tag .planCommit ha
      (by rw [doOrder, orderPlanCommit, commitPlan_of_holder s hh]) ha.1)
  · set u := giveIdleOutputs (applyPlan s) with hu
    have hus : u.settings = s.settings := by simp [hu]
    have harb : u.arb = { s.arb with active := s.arb.staged, commitPending := false } := by simp [hu, applyPlan]
    have hfree : u.arb.holder.isFree = true := by simp [harb, hh, Holder.isFree]
    have hdelta : u.cond.deltas.getLsbD 24 = true := by
      simp [hu, applyPlan, Conditions.mark_deltas, getLsbD_putBit, Cond.id]
    obtain ⟨⟨hfresh, hchill⟩, hfan, hdemand⟩ :=
      (giveIdleOutputs_applyPlan_outputs s hs).of_after (tellHolder_same u)
    refine ⟨tellHolder u, ?_, ?_, tellHolder_deltas_mono u 24 hdelta, hfresh.target, hchill.target, hfan.requested,
      ⟨hfresh, hchill⟩, hfan, hdemand, ?_⟩
    · refine congrArg Host.Outcome.next (submit_order_ok s tag .planCommit ha
        (by rw [doOrder, orderPlanCommit, commitPlan_of_idle s hh hn]) ?_)
      rw [tellHolder_own _ (hs.congr hus), giveIdleOutputs_own _ (hs.congr (by simp))]
      simpa using ha.1
    · rw [(tellHolder_keeps u).2.2.2.2.1, harb]
    · rw [tellHolder_doors u hfree]
      simp [hu]

section

variable (s : State)

/-! ### The claim that PENDING makes (R122, R123, R124) -/

/-- R66, R67, R122: what the claim of a defrost that finds the path free takes. -/
theorem claimDefrost_takes (hf : s.arb.holder.isFree = true) :
    (claimDefrost s).arb = { s.arb with holder := .defrost, stack := s.framed (s.effN (.saveMask .defrost)) } ∧
      (claimDefrost s).level .defrostActive = true ∧
      (s.arb.holder ≠ .nobody → ((claimDefrost s).counter .slot).run = false ∧
        ((claimDefrost s).counter .slot).count = (s.counter .slot).count) ∧
      (claimDefrost s).counter .gap = s.counter .gap ∧ (claimDefrost s).counter .runsec = s.counter .runsec := by
  have htc := tellHolder_counter (enterFirstPhase s.defrostTaken)
  obtain ⟨-, hcount⟩ := enterFirstPhase_frostKept s.defrostTaken
  rw [claimDefrost_eq]
  refine ⟨?_, ?_, fun hn => ?_, ?_, ?_⟩
  · rw [(tellHolder_keeps _).2.2.2.2.1, (enterFirstPhase_keeps _).2.2.2.2.1, defrostTaken_arb s hf]
  · rw [tellHolder_level_of_ne _ _ (by decide), State.level, (enterFirstPhase_keeps _).2.2.2.2.2.2.1]
    exact State.level_setLevel_self _ _ _
  · rw [htc _ (by simp), hcount _ (by decide) (.inr rfl)]
    exact pushFrame_slotCounter s _ hf hn
  · rw [htc _ (by simp), hcount _ (by decide) (.inl rfl), defrostTaken_counter s _ (by decide)]
  · rw [htc _ (by simp), hcount _ (by decide) (.inl rfl), defrostTaken_counter s _ (by decide)]

/-- R123, R124: the claim that enters PRE_CHILL. -/
theorem claimDefrost_preChill (hs : SettingsLaw s) (hf : s.arb.holder.isFree = true) (hn : s.effN .prechillTime ≠ 0)
    (hl : s.defr.compState ≠ .lockout) :
    (claimDefrost s).defr.phase = .preChill ∧ (claimDefrost s).defr.heaterDrive = false ∧
      (claimDefrost s).counter .phase = (s.counter .phase).timing (s.effN .prechillTime) ∧
      OutputsGiven s.arb.active.freeze.freshOpen s.arb.active.freeze.chillOpen s.arb.active.freeze.fanDuty
        (.fixed (s.effN .nMax)) s (claimDefrost s) ∧
      (claimDefrost s).own = s.own := by
  have hsame := defrostTaken_same s
  have hset : SettingsLaw s.defrostTaken := hs.congr hsame.drive.settings
  have heff : ∀ i, s.defrostTaken.effN i = s.effN i := State.effN_congr hsame.drive.settings
  have hfirst : enterFirstPhase s.defrostTaken = enterPreChill s.defrostTaken := by
    rw [enterFirstPhase, if_neg]
    simp [heff, hn, defrostTaken_defr, hl]
  obtain ⟨hp, hc, hout⟩ := enterPreChill_enters s.defrostTaken hset (by rwa [heff])
  rw [defrostTaken_arb s hf, heff] at hout
  rw [claimDefrost_eq, hfirst, tellHolder_defr, tellHolder_counter _ _ (by simp)]
  refine ⟨hp, ?_, ?_, (hout.of_before hsame).of_after (tellHolder_same _), ?_⟩
  · simp [State.heaterWanted, hp, defrostTaken_arb s hf]
  · rw [hc, heff, defrostTaken_counter s _ (by decide)]
  · rw [tellHolder_own _ (hset.congr (by simp)), enterPreChill_own _ hset (by rwa [heff]), defrostTaken_own]

theorem enterPending_of_free (hf : s.arb.holder.isFree = true) : enterPending s = claimDefrost (setPhase .pending s) := by
  show (if s.arb.holder.isFree then claimDefrost (setPhase .pending s) else setPhase .pending s) = _
  rw [if_pos hf]

/-- R122: the claim that PENDING makes at once, told from the state before it. -/
theorem enterPending_claimed (hs : SettingsLaw s) (hk : s.defr.compState = s.comp.state)
    (hf : s.arb.holder.isFree = true) : DefrostClaimed s (enterPending s) := by
  rw [enterPending_of_free s hf]
  exact claimDefrost_claimed (setPhase .pending s) hs hk hf

/-! ### START_DEFROST (R121) -/

theorem orderStartDefrost_stuck (hp : s.defr.phase = .idle) (hl : s.level .heaterStuck = true) :
    doOrder .startDefrost s = (.notApplicable, s) := by
  simp [doOrder, orderStartDefrost, hp, hl]

theorem orderStartDefrost_busy (hp : s.defr.phase ≠ .idle) : doOrder .startDefrost s = (.busy, s) := by
  unfold doOrder orderStartDefrost
  cases h : s.defr.phase <;> simp_all

theorem orderStartDefrost_idle (hp : s.defr.phase = .idle) (hl : s.level .heaterStuck = false) :
    doOrder .startDefrost s = (.ok, enterPending s) := by
  simp [doOrder, orderStartDefrost, hp, hl]

end

/-- Settles O19: the refusals, the claim that waits in PENDING, and the claim that is taken. -/
theorem startDefrostByPhaseAndHolder : Obligations.StartDefrostByPhaseAndHolder := by
  unfold Obligations.StartDefrostByPhaseAndHolder
  refine ⟨fun tag s ha => ⟨fun hp hl => ?_, fun hp => ?_, fun hp hl hh => ?_⟩, fun tag s ha hs hp hl hn hlock hh => ?_⟩
  · exact congrArg Host.Outcome.next
      (submit_order_refused s tag .startDefrost _ ha (orderStartDefrost_stuck s hp hl) rfl)
  · exact congrArg Host.Outcome.next (submit_order_refused s tag .startDefrost _ ha (orderStartDefrost_busy s hp) rfl)
  · exact congrArg Host.Outcome.next (submit_order_ok s tag .startDefrost ha
      ((orderStartDefrost_idle s hp hl).trans (by rw [enterPending_refused s hl hh])) ha.1)
  · have hf : s.arb.holder.isFree = true := (isFree_iff _).mpr hh
    obtain ⟨harb, hactive, hslot, hgap, hrunsec⟩ := claimDefrost_takes (setPhase .pending s) hf
    obtain ⟨hphase, hheater, hcount, ⟨⟨hfresh, hchill⟩, hfan, hdemand⟩, hown⟩ :=
      claimDefrost_preChill (setPhase .pending s) hs hf hn hlock
    refine ⟨claimDefrost (setPhase .pending s), ?_, harb, hactive, hphase, hheater, by simp, hcount, hslot, hgap,
      hrunsec, hdemand.demand, hfan.requested, hfresh.target, hchill.target, by simp, by simp, by simp, by simp⟩
    refine congrArg Host.Outcome.next (submit_order_ok s tag .startDefrost ha
      ((orderStartDefrost_idle s hp hl).trans (by rw [enterPending_of_free s hf])) ?_)
    rw [hown]
    exact ha.1

end Sys2Proof.Machine

/-! The growth of F and of GAP with the claim that a due defrost makes (R119, R120, R122), and HOLD (R75, R135). -/

namespace Sys2Proof.Machine

section

variable (s : State)

/-! ### RUNSEC and GAP (R119, R120, R156, R157) -/

theorem addFrost_eq (n : Nat) :
    addFrost n s = { s with defr := { s.defr with frost := min 65535 (s.defr.frost + n) } } := by
  unfold addFrost
  simp only [sat16_eq]
  rfl

/-- R119: an F that has room grows, and is then checked. -/
theorem growFrost_of_room (n : Nat) (hn : n ≠ 0) (h : s.defr.frost < 65535) :
    growFrost n s = dueCheck (addFrost n s) := by
  have hne : (addFrost n s).defr.frost ≠ s.defr.frost := by
    rw [addFrost_eq]
    show min 65535 (s.defr.frost + n) ≠ s.defr.frost
    omega
  unfold growFrost
  exact if_neg hne

/-- R119: an F at 65535 is not changed, so nothing is checked. -/
theorem growFrost_of_full (n : Nat) (h : s.defr.frost = 65535) : growFrost n s = addFrost n s := by
  have he : (addFrost n s).defr.frost = s.defr.frost := by
    rw [addFrost_eq]
    show min 65535 (s.defr.frost + n) = s.defr.frost
    omega
  unfold growFrost
  exact if_pos he

theorem growFrost_of_stuck (n : Nat) (h : s.level .heaterStuck = true) : growFrost n s = addFrost n s := by
  have hd : dueCheck (addFrost n s) = addFrost n s := dueCheck_of_not_due _ fun hdue => by
    have : s.level .heaterStuck = false := hdue.2.1
    simp [h] at this
  unfold growFrost
  dsimp only
  rw [hd, ite_self]

/-- R119: what a carry of RUNSEC adds to F. -/
def State.frostStep (s : State) : Nat := if 320 < s.defr.ambient then 2 else 1

theorem frostStep_ne_zero : s.frostStep ≠ 0 := by
  unfold State.frostStep
  split <;> decide

/-- R157: RUNSEC after its carry. -/
def State.carried (s : State) : State :=
  { s with bank := s.bank.set .runsec { s.counter .runsec with count := 0, part := 0 } }

/-- R156: GAP after an increment that has room. -/
def State.gapGrown (s : State) : State :=
  { s with
    bank := s.bank.set .gap
      { s.counter .gap with
        count := (s.counter .gap).count + 1
        saturated := (s.counter .gap).saturated || decide ((s.counter .gap).count + 1 = 65535)
        part := 0 } }

theorem exec_runsecCarry (hrun : (s.counter .runsec).run = true) (hcomp : s.defr.compState = .running) :
    exec .runsecCarry s = .next (finish (growFrost s.frostStep s.carried)) := by
  show Host.Outcome.next (finish (runsecCarries s)) = _
  have hgate : s.gate .runsec = true := by simpa [State.gate] using hcomp
  rw [runsecCarries, if_pos (by rw [hrun, hgate]; rfl)]
  rfl

theorem exec_gapIncrement (hrun : (s.counter .gap).run = true) (hc : (s.counter .gap).count < 65535) :
    exec .gapIncrement s = .next (finish (dueCheck s.gapGrown)) := by
  have hgrow : s.onCounter .gap Counter.increment = s.gapGrown := by
    have hinc : (s.counter .gap).increment =
        { s.counter .gap with
          count := (s.counter .gap).count + 1
          saturated := (s.counter .gap).saturated || decide ((s.counter .gap).count + 1 = 65535)
          part := 0 } := if_neg (by omega)
    unfold State.onCounter
    rw [hinc]
    rfl
  show Host.Outcome.next (finish (gapIncrements s)) = _
  rw [gapIncrements, if_pos (by simp [hrun, hc]), hgrow]

/-- R119, R156: the command `c` finds its counter running, and brings F or GAP to what it is in `w`. -/
def Grown (c : Instr) (s w : State) : Prop :=
  c = .runsecCarry ∧ (s.counter .runsec).run = true ∧ s.defr.compState = .running ∧
      w =
        { s with
          bank := s.bank.set .runsec { s.counter .runsec with count := 0, part := 0 }
          defr := { s.defr with frost := min 65535 (s.defr.frost + if 320 < s.defr.ambient then 2 else 1) } } ∨
    c = .gapIncrement ∧ (s.counter .gap).run = true ∧ (s.counter .gap).count < 65535 ∧ w = s.gapGrown

variable {s} {c : Instr} {w : State} (h : Grown c s w)

include h

theorem Grown.kept :
    w.settings = s.settings ∧ w.arb = s.arb ∧ w.comp = s.comp ∧ w.cond = s.cond ∧ w.link = s.link ∧ w.own = s.own ∧
      ∃ f, w.defr = { s.defr with frost := f } := by
  rcases h with ⟨-, -, -, rfl⟩ | ⟨-, -, -, rfl⟩
  · exact ⟨rfl, rfl, rfl, rfl, rfl, rfl, _, rfl⟩
  · exact ⟨rfl, rfl, rfl, rfl, rfl, rfl, s.defr.frost, rfl⟩

/-- R120: a change of F, and an increment of GAP, is a due check. -/
theorem Grown.exec_check (hn : ¬ (c = .runsecCarry ∧ 65535 ≤ s.defr.frost)) :
    exec c s = .next (finish (dueCheck w)) := by
  rcases h with ⟨rfl, hrun, hcomp, rfl⟩ | ⟨rfl, hrun, hc, rfl⟩
  · have hroom : s.defr.frost < 65535 := by
      by_contra hge
      exact hn ⟨rfl, by omega⟩
    rw [exec_runsecCarry s hrun hcomp, growFrost_of_room s.carried _ (frostStep_ne_zero s) hroom, addFrost_eq]
    rfl
  · exact exec_gapIncrement s hrun hc

/-- R119, R120: with HEATER_STUCK asserted, or F at 65535 already, no defrost falls due. -/
theorem Grown.exec_alone (hstay : s.level .heaterStuck = true ∨ c = .runsecCarry ∧ s.defr.frost = 65535) :
    exec c s = .next (finish w) := by
  rcases h with ⟨rfl, hrun, hcomp, rfl⟩ | ⟨rfl, hrun, hc, rfl⟩
  · have hgrow : growFrost s.frostStep s.carried = addFrost s.frostStep s.carried := by
      rcases hstay with hl | ⟨-, hf⟩
      · exact growFrost_of_stuck s.carried _ hl
      · exact growFrost_of_full s.carried _ hf
    rw [exec_runsecCarry s hrun hcomp, hgrow, addFrost_eq]
    rfl
  · have hl : s.level .heaterStuck = true := hstay.resolve_right (by simp)
    rw [exec_gapIncrement s hrun hc, dueCheck_of_not_due]
    intro hdue
    have : s.level .heaterStuck = false := hdue.2.1
    simp [hl] at this

end

/-- Settles O46: the growth alone, and the claim of a defrost that falls due by it. -/
theorem frostAndGapGrow : Obligations.FrostAndGapGrow := by
  unfold Obligations.FrostAndGapGrow
  refine ⟨fun s hst => ⟨?_, fun hrun hc hdue => ?_, fun hrun hc hp hl hgap hh => ?_⟩,
    fun c w s hst hs hheat hres hgrown hp hdue => ?_⟩
  · rintro frost rfl hrun hcomp hdue
    have hgrow := growFrost_of_not_due s.carried s.frostStep hdue
    rw [exec_runsecCarry s hrun hcomp, hgrow, addFrost_eq, finish_of_settled]
    · rfl
    · exact hst.of_eq rfl rfl
  · rw [exec_gapIncrement s hrun hc, dueCheck_of_not_due, finish_of_settled]
    · rfl
    · exact hst.of_eq rfl rfl
    · rintro ⟨hp, -, hd⟩
      have hcount : (s.gapGrown.counter .gap).count = (s.counter .gap).count + 1 := by
        simp [State.gapGrown, State.counter]
      rw [hcount] at hd
      exact hdue.elim (fun hne => hne hp) fun hno => hno hd
  · have hd : DueNow s.gapGrown := by
      refine ⟨hp, hl, .inr ?_⟩
      have hcount : (s.gapGrown.counter .gap).count = (s.counter .gap).count + 1 := by
        simp [State.gapGrown, State.counter]
      rw [hcount]
      exact hgap
    rw [exec_gapIncrement s hrun hc, dueCheck_of_due _ hd, enterPending_refused s.gapGrown hl hh,
      finish_of_settled]
    · rfl
    · exact hst.of_eq rfl rfl
  · have hgrown : Grown c s w := hgrown
    obtain ⟨hset, harb, hcomp, hcond, hlink, hown, f, hdefr⟩ := hgrown.kept
    have hset' : SettingsLaw w := hs.congr hset
    refine ⟨fun hstay => ?_, fun hl hn => ?_⟩
    · rw [hgrown.exec_alone hstay, finish_of_settled]
      exact hst.of_eq hlink (by rw [hown])
    · have hlw : w.level .heaterStuck = false := by rwa [State.level, hcond]
      have hdue' : DueNow w := ⟨by rw [hdefr]; exact hp, hlw, hdue⟩
      rw [hgrown.exec_check hn, dueCheck_of_due w hdue']
      refine ⟨fun hh => ?_, fun hh => ⟨enterPending w, ?_, enterPending_claimed w hset' ?_ ?_⟩⟩
      · rw [enterPending_refused w hlw (by rwa [harb]), finish_of_settled, harb, hdefr]
        exact hst.of_eq hlink (by rw [← hown])
      · have hfree : w.arb.holder.isFree = true := (isFree_iff _).mpr (by rwa [harb])
        have hresume : w.defr.resumeHeat = false := by
          rw [hdefr]
          refine Bool.eq_false_of_not_eq_true fun hyes => ?_
          have : s.defr.phase = .stopWait := hres hyes
          rw [hp] at this
          cases this
        rw [finish_of_settled]
        refine hst.of_eq ?_ ?_
        · rw [(enterPending_keeps w).2.2.2.2, hlink]
        · rw [(enterPending_taken w hset' hresume hfree).1, hown]
      · rw [hdefr, hcomp]
        exact hheat.1
      · exact (isFree_iff _).mpr (by rwa [harb])

/-! ### HOLD (R66, R67, R75, R135) -/

section

variable (s : State)

/-- R67: the frame that a claim with `mask` pushes for the holder it interrupts. -/
def State.heldFrame (s : State) (mask : Nat) : List SuspFrame :=
  match s.arb.holder with
  | .slot r => [.slot mask r.zone r.phase r.fixed (s.counter .slot).count (if mask % 2 = 1 then some r.route else none)]
  | .door => [.door mask]
  | .defrost => [.defrost mask]
  | _ => []

theorem pushFrame_heldFrame (mask : Nat) : (pushFrame mask s).arb = { s.arb with stack := s.heldFrame mask ++ s.arb.stack } := by
  unfold pushFrame State.heldFrame
  cases hh : s.arb.holder with
  | slot r => simp [maskHasRoute, State.stopC]
  | _ => rfl

/-- R135: DEFROST is suspended where it held the path. -/
def suspendHeld (s : State) (t : State) : State := if s.arb.holder = .defrost then suspendDefrost t else t

/-- The state in which the claim of the service hold gives its outputs. -/
def State.serviceTaken (s : State) : State :=
  ((suspendHeld s (setHolder .service (pushFrame (s.effN (.saveMask .service)) s))).restartC .svc
    (s.effN .svcMax)).onDefr fun d => { d with svcHeater := false }

theorem claimService_eq : claimService s = tellHolder (giveDemand .stop (requestFan 0 s.serviceTaken)) := by
  have hn : ∀ u, State.settings u = s.settings → u.effN .svcMax = s.effN .svcMax := fun u hu => State.effN_congr hu _
  unfold claimService State.serviceTaken suspendHeld giveServiceOutputs
  by_cases hh : s.arb.holder = .defrost
  · simp only [hh, decide_true, if_true]
    rw [hn _ (by simp)]
  · simp only [hh, decide_false, if_false, Bool.false_eq_true]
    rw [hn _ (by simp)]

theorem serviceTaken_counter (j : CounterId) (hs : j ≠ .slot) (hp : j ≠ .phase) (hv : j ≠ .svc) :
    s.serviceTaken.counter j = s.counter j := by
  have hdefr : ∀ f u, (State.onDefr f u).counter j = u.counter j := fun _ _ => rfl
  have hpush : (setHolder .service (pushFrame (s.effN (.saveMask .service)) s)).counter j = s.counter j :=
    pushFrame_counter s _ j hs
  unfold State.serviceTaken suspendHeld suspendDefrost
  rw [hdefr, State.counter_restartC_of_ne _ _ _ _ hv]
  split
  · rw [State.counter_stopC_of_ne _ _ _ hp, hdefr, hpush]
  · exact hpush

theorem serviceTaken_arb : s.serviceTaken.arb =
    { s.arb with holder := .service, stack := s.heldFrame (s.effN (.saveMask .service)) ++ s.arb.stack } := by
  have hpush := pushFrame_heldFrame s (s.effN (.saveMask .service))
  unfold State.serviceTaken suspendHeld
  split <;> simp [suspendDefrost, hpush]

theorem serviceTaken_defr : s.serviceTaken.defr =
    if s.arb.holder = .defrost then { s.defr with suspended := true, termCount := 0, svcHeater := false }
    else { s.defr with svcHeater := false } := by
  unfold State.serviceTaken suspendHeld
  split <;> simp [suspendDefrost]

theorem serviceTaken_kept :
    s.serviceTaken.air = s.air ∧ s.serviceTaken.comp = s.comp ∧ s.serviceTaken.settings = s.settings ∧
      s.serviceTaken.zones = s.zones ∧ s.serviceTaken.doors = s.doors := by
  unfold State.serviceTaken suspendHeld
  split <;> simp [suspendDefrost]

theorem serviceTaken_same : PathSame s s.serviceTaken := by
  have hc := serviceTaken_counter s
  obtain ⟨hair, hcomp, hset, hz, -⟩ := serviceTaken_kept s
  have hknown : s.serviceTaken.defr.compState = s.defr.compState := by
    rw [serviceTaken_defr]
    split <;> rfl
  refine ⟨hair, hc _ ?_ ?_ ?_, hc _ ?_ ?_ ?_, hcomp, hknown, hset, hz, hc _ ?_ ?_ ?_, hc _ ?_ ?_ ?_, hc _ ?_ ?_ ?_⟩
  all_goals decide

theorem serviceTaken_svc (hs : SettingsLaw s) :
    s.serviceTaken.counter .svc = (s.counter .svc).timing (s.effN .svcMax) := by
  have hpush : (setHolder .service (pushFrame (s.effN (.saveMask .service)) s)).counter .svc = s.counter .svc :=
    pushFrame_counter s _ .svc (by decide)
  have hheld : (suspendHeld s (setHolder .service (pushFrame (s.effN (.saveMask .service)) s))).counter .svc =
      s.counter .svc := by
    unfold suspendHeld
    split
    · rw [suspendDefrost, State.counter_stopC_of_ne _ _ _ (by decide)]
      exact hpush
    · exact hpush
  show State.counter (State.restartC .svc (s.effN .svcMax) _) .svc = _
  rw [State.counter_restartC_self _ _ _ (hs.effN_ne_zero _ (by decide)) (by decide), hheld]

/-- R135: PHASE stops where DEFROST is suspended. -/
theorem serviceTaken_phase (h : s.arb.holder = .defrost) : s.serviceTaken.counter .phase = (s.counter .phase).stop := by
  have hpush : (setHolder .service (pushFrame (s.effN (.saveMask .service)) s)).counter .phase = s.counter .phase :=
    pushFrame_counter s _ .phase (by decide)
  show State.counter (State.restartC .svc (s.effN .svcMax) _) .phase = _
  rw [State.counter_restartC_of_ne _ _ _ _ (by decide), suspendHeld, if_pos h, suspendDefrost, State.counter_stopC_self]
  exact congrArg Counter.stop hpush

theorem serviceTaken_own (hs : SettingsLaw s) : s.serviceTaken.own = s.own := by
  unfold State.serviceTaken suspendHeld
  rw [State.onDefr_own, State.restartC_own _ _ _ (hs.effN_ne_zero _ (by decide))]
  split <;> simp [suspendDefrost]

/-- R148: a report that SERVICE holds suspends a HELD pause. -/
theorem tellHolder_doors_of_service (h : s.arb.holder = .service) :
    (tellHolder s).doors =
      { s.doors with pause := if s.doors.pause = .held then .suspended else s.doors.pause } := by
  have hd : (tellHolder s).doors = (tellDoors (refreshHeater s)).doors := by simp [tellHolder]
  rw [hd]
  unfold tellDoors
  split <;> simp_all

/-- R49, R75: the outputs of SERVICE. -/
theorem claimService_outputs (hs : SettingsLaw s) :
    FanAsked 0 s (claimService s) ∧ DemandTaken .stop s (claimService s) := by
  have hsame := serviceTaken_same s
  have htell := tellHolder_same (giveDemand .stop (requestFan 0 s.serviceTaken))
  have hset : SettingsLaw (requestFan 0 s.serviceTaken) := hs.congr (by simp [hsame.drive.settings])
  rw [claimService_eq]
  refine ⟨?_, ?_⟩
  · exact (((requestFan_asked _ 0).of_after (giveDemand_fanSame .stop _)).of_before hsame.fan).of_after htell.fan
  · exact (((giveDemand_taken _ .stop hset).of_before (requestFan_driveSame 0 _)).of_before hsame.drive).of_after
      htell.drive.comp htell.drive.known htell.drive.guard htell.drive.ramp htell.drive.condrun

theorem claimService_counter (j : CounterId) (hj : j.onPath = false) (ha : ∀ z, j ≠ .alm z) :
    (claimService s).counter j = s.serviceTaken.counter j := by
  have hne : ∀ i : CounterId, i.onPath = true → j ≠ i := fun i hi h => by simp [h, hi] at hj
  rw [claimService_eq, tellHolder_counter _ _ ha, giveDemand_counter _ _ _ (hne _ rfl) (hne _ rfl) (hne _ rfl),
    requestFan_counter _ _ _ (hne _ rfl) (hne _ rfl)]

theorem claimService_arb : (claimService s).arb =
    { s.arb with holder := .service, stack := s.heldFrame (s.effN (.saveMask .service)) ++ s.arb.stack } := by
  rw [claimService_eq]
  simpa using serviceTaken_arb s

/-- R75, R113, R132, R135: the sequencer under a service hold. -/
theorem claimService_defr :
    (claimService s).defr.heaterDrive = false ∧ (claimService s).defr.svcHeater = false ∧
      (claimService s).defr.phase = s.defr.phase ∧ (claimService s).defr.frost = s.defr.frost ∧
      (s.arb.holder = .defrost → (claimService s).defr.suspended = true ∧ (claimService s).defr.termCount = 0) := by
  obtain ⟨st, on, hd⟩ := giveDemand_defr (requestFan 0 s.serviceTaken) .stop
  have hsvc : s.serviceTaken.defr.svcHeater = false := by
    rw [serviceTaken_defr]
    split <;> rfl
  have hdefr := serviceTaken_defr s
  rw [claimService_eq, tellHolder_defr]
  refine ⟨?_, ?_, ?_, ?_, fun hh => ?_⟩
  · simp [State.heaterWanted, serviceTaken_arb, hd, hsvc]
  · simp [hd, hsvc]
  · rw [hd, requestFan_keeps _ _ |>.2.2.2.2.2.2.1, hdefr]
    split <;> rfl
  · rw [hd, requestFan_keeps _ _ |>.2.2.2.2.2.2.1, hdefr]
    split <;> rfl
  · rw [hd, requestFan_keeps _ _ |>.2.2.2.2.2.2.1, hdefr, if_pos hh]
    exact ⟨rfl, rfl⟩

theorem claimService_own (hs : SettingsLaw s) : (claimService s).own = s.own := by
  have hset : SettingsLaw s.serviceTaken := hs.congr (serviceTaken_same s).drive.settings
  rw [claimService_eq, tellHolder_own _ (hset.congr (by simp)), giveDemand_own _ _ (hset.congr (by simp)),
    requestFan_own, serviceTaken_own s hs]

end

/-- Settles O21: SERVICE holds already, or takes the path from whoever holds it. -/
theorem holdTakesThePath : Obligations.HoldTakesThePath := by
  intro tag s ha hs
  refine ⟨fun hh => ?_, fun hh => ?_⟩
  · exact congrArg Host.Outcome.next (submit_order_refused s tag .hold _ ha (by simp [doOrder, orderHold, hh]) rfl)
  · obtain ⟨hfan, hdemand⟩ := claimService_outputs s hs
    obtain ⟨hheater, hsvc, hphase, hfrost, hsusp⟩ := claimService_defr s
    have hcount := claimService_counter s
    have hdoors : (claimService s).doors =
        { s.doors with pause := if s.doors.pause = .held then .suspended else s.doors.pause } := by
      rw [claimService_eq, tellHolder_doors_of_service _ (by simp [serviceTaken_arb])]
      simp [(serviceTaken_kept s).2.2.2.2]
    refine ⟨claimService s, ?_, claimService_arb s, ?_, ?_, hdemand.demand, hfan.requested, hdemand, hfan, ?_, hheater,
      hsvc, hphase, hfrost, fun hd => ?_, by rw [hdoors], by rw [hdoors], ?_, ?_, by simp, by simp, by simp, by simp⟩
    · refine congrArg Host.Outcome.next (submit_order_ok s tag .hold ha (by simp [doOrder, orderHold, hh]) ?_)
      rw [claimService_own s hs]
      exact ha.1
    · rw [hcount _ rfl (by simp), serviceTaken_svc s hs]
    · rw [claimService_eq, tellHolder_serviceHold]
      simp [serviceTaken_arb]
    · rw [claimService_eq]
      simp [(serviceTaken_kept s).1]
    · obtain ⟨hs1, hs2⟩ := hsusp hd
      rw [hcount _ rfl (by simp), serviceTaken_phase s hd]
      exact ⟨hs1, hs2, Counter.stop_run _, Counter.stop_count _⟩
    · rw [hcount _ rfl (by simp), serviceTaken_counter s _ (by decide) (by decide) (by decide)]
    · rw [hcount _ rfl (by simp), serviceTaken_counter s _ (by decide) (by decide) (by decide)]

end Sys2Proof.Machine

/-! A release of the path (R70): what is popped, and the SLOT frame (R71) and the DOOR frame (R72) that resume. -/

namespace Sys2Proof.Machine

section

variable {s t u : State}

/-! ### What a report of a free path leaves -/

theorem PathOnly.trans (h : PathOnly s t) (k : PathOnly t u) : PathOnly s u := by
  obtain ⟨h1, h2, h3, h4, h5, h6, h7, h8, h9, h10, h11, h12⟩ := h
  obtain ⟨k1, k2, k3, k4, k5, k6, k7, k8, k9, k10, k11, k12⟩ := k
  exact ⟨k1.trans h1, k2.trans h2, k3.trans h3, k4.trans h4, k5.trans h5, k6.trans h6, k7.trans h7, k8.trans h8,
    k9.trans h9, k10.trans h10, k11.trans h11, k12.trans h12⟩

variable (s)

theorem tellHolder_pathOnly (h : s.arb.holder.isFree = true) : PathOnly s (tellHolder s) := by
  have hc := tellHolder_counter s
  have hd := tellHolder_defr s
  exact ⟨by simp, by simp, by simp, by simp, tellHolder_doors s h, by rw [hd], by rw [hd], by rw [hd], hc _ nofun,
    hc _ nofun, hc _ nofun, hc _ nofun⟩

theorem report_of_held (h : s.arb.holder.isFree = false) : report s = tellHolder s := by
  have hh : (tellHolder s).arb.holder.isFree = false := by simpa using h
  unfold report
  dsimp only
  rw [hh]
  exact if_neg (by decide)

/-! ### The top of the stack, by what it is (R70) -/

/-- R70: the path is released and the top frame popped. -/
def State.popped (s : State) : State := dropTop (setHolder .nobody s)

theorem popped_arb : s.popped.arb = { s.arb with holder := .nobody, stack := s.arb.stack.tail } := rfl

theorem popped_eq {f : SuspFrame} {rest : List SuspFrame} (h : s.arb.stack = f :: rest) :
    s.popped = setHolder .nobody { s with arb := { s.arb with stack := rest } } := by
  show setHolder .nobody { s with arb := { s.arb with stack := s.arb.stack.tail } } = _
  rw [h]
  rfl

theorem releasePath_of_nil (h : s.arb.stack = []) : releasePath s = report (arbitrate (setHolder .nobody s)) := by
  have hs : (setHolder .nobody s).arb.stack = [] := h
  unfold releasePath
  dsimp only
  rw [hs]

theorem releasePath_of_slot {mask : Nat} {z : Zone} {phase : SlotPhase} {fixed : Bool} {remaining : Nat}
    {snapshot : Option Route} {rest : List SuspFrame}
    (h : s.arb.stack = .slot mask z phase fixed remaining snapshot :: rest) :
    releasePath s = report (popSlot mask z phase fixed remaining snapshot s.popped) := by
  have hs : (setHolder .nobody s).arb.stack = .slot mask z phase fixed remaining snapshot :: rest := h
  unfold releasePath
  dsimp only
  rw [hs]
  rfl

theorem releasePath_of_door {mask : Nat} {rest : List SuspFrame} (h : s.arb.stack = .door mask :: rest) :
    releasePath s = tellHolder (giveDoorOutputs (setHolder .door s.popped)) := by
  have hs : (setHolder .nobody s).arb.stack = .door mask :: rest := h
  have hheld : (giveDoorOutputs (setHolder .door s.popped)).arb.holder.isFree = false := by simp [Holder.isFree]
  rw [← report_of_held _ hheld]
  unfold releasePath
  dsimp only
  rw [hs]
  rfl

theorem releasePath_of_defrost {mask : Nat} {rest : List SuspFrame} (h : s.arb.stack = .defrost mask :: rest) :
    releasePath s = report (resumeDefrost s.popped) := by
  have hs : (setHolder .nobody s).arb.stack = .defrost mask :: rest := h
  unfold releasePath
  dsimp only
  rw [hs]
  rfl

/-! ### A SLOT frame (R71) -/

/-- R71: the state in which a popped slot is placed: a waiting commit is applied where there is no snapshot, and SLOT is
written with the time that remained. -/
def State.resuming (r : Slot) (snapshot : Option Route) (remaining : Nat) (s : State) : State :=
  ((setHolder (.slot r) (if snapshot = none then applyPending s else s)).stopC .slot).writeC .slot remaining

section

variable (z : Zone) (phase : SlotPhase) (fixed : Bool) (remaining : Nat) (snapshot : Option Route)

theorem resumeSlot_eq : resumeSlot z phase fixed remaining snapshot s =
    placeSlot (s.resumedSlot z phase fixed snapshot false)
      (s.resuming (s.resumedSlot z phase fixed snapshot false) snapshot remaining) := by
  unfold resumeSlot
  cases snapshot with
  | some route => rfl
  | none =>
    dsimp only
    rw [applyPending_arb]
    rfl

variable (r : Slot)

theorem resuming_before : PathSame s (if snapshot = none then applyPending s else s) := by
  split
  · exact applyPending_same s
  · exact .of_bank rfl rfl rfl rfl rfl rfl

theorem resuming_counter (j : CounterId) (hj : j ≠ .slot) : (s.resuming r snapshot remaining).counter j = s.counter j := by
  have hfirst : (if snapshot = none then applyPending s else s).counter j = s.counter j := by
    split
    · exact applyPending_counter s j
    · rfl
  unfold State.resuming
  rw [State.counter_writeC_of_ne _ _ _ _ hj, State.counter_stopC_of_ne _ _ _ hj]
  exact hfirst

theorem resuming_same : PathSame s (s.resuming r snapshot remaining) := by
  have hc := resuming_counter s remaining snapshot r
  obtain ⟨hair, -, -, ⟨hcomp, hknown, hset, hz, -⟩⟩ := resuming_before s snapshot
  refine ⟨?_, hc _ nofun, hc _ nofun, ?_, ?_, ?_, ?_, hc _ nofun, hc _ nofun, hc _ nofun⟩
  all_goals assumption

theorem resuming_slot :
    ((s.resuming r snapshot remaining).counter .slot).run = false ∧
      ((s.resuming r snapshot remaining).counter .slot).count = remaining ∧
      ((s.resuming r snapshot remaining).counter .slot).reload = remaining := by
  unfold State.resuming
  rw [State.counter_writeC_self, State.counter_stopC_self]
  simp [Counter.write]

theorem resuming_own : (s.resuming r snapshot remaining).own = s.own := by
  unfold State.resuming
  split <;> simp

theorem resuming_defr : (s.resuming r snapshot remaining).defr = s.defr := by
  unfold State.resuming
  split <;> simp

theorem resuming_cond :
    (s.resuming r snapshot remaining).cond = if snapshot = none then (applyPending s).cond else s.cond := by
  unfold State.resuming
  split <;> simp

/-- R71: a slot that resumes touches the counters of the path alone. -/
theorem resumeSlot_counter (j : CounterId) (hj : j.onPath = false) :
    (resumeSlot z phase fixed remaining snapshot s).counter j = s.counter j := by
  rw [resumeSlot_eq, placeSlot_counter _ _ _ hj,
    resuming_counter _ _ _ _ _ (fun h => by simp [h, CounterId.onPath] at hj)]

theorem resumeSlot_sequencer : SequencerSame s (resumeSlot z phase fixed remaining snapshot s) := by
  rw [resumeSlot_eq]
  exact (SequencerSame.of_eq (resuming_defr s _ _ _)).trans (placeSlot_sequencer _ _)

theorem resumeSlot_known (h : s.defr.compState = s.comp.state) :
    (resumeSlot z phase fixed remaining snapshot s).defr.compState =
      (resumeSlot z phase fixed remaining snapshot s).comp.state := by
  have hsame := resuming_same s remaining snapshot (s.resumedSlot z phase fixed snapshot false)
  rw [resumeSlot_eq]
  exact placeSlot_known _ _ (by rw [hsame.drive.known, hsame.drive.comp, h])

theorem resumeSlot_cond : (resumeSlot z phase fixed remaining snapshot s).cond =
    if snapshot = none then (applyPending s).cond else s.cond := by
  rw [resumeSlot_eq, (placeSlot_keeps _ _).2.2.2.2.2.1, resuming_cond]

theorem resumeSlot_levels : (resumeSlot z phase fixed remaining snapshot s).cond.levels = s.cond.levels := by
  rw [resumeSlot_cond]
  split
  · exact applyPending_levels s
  · rfl

theorem resumeSlot_isFree : (resumeSlot z phase fixed remaining snapshot s).arb.holder.isFree = true := by
  rw [resumeSlot_arb]
  rfl

theorem resumeSlot_own (hs : SettingsLaw s) (hn : remaining ≠ 0) :
    (resumeSlot z phase fixed remaining snapshot s).own = s.own := by
  have hset := (resuming_same s remaining snapshot (s.resumedSlot z phase fixed snapshot false)).drive.settings
  rw [resumeSlot_eq, placeSlot_own _ _ (hs.congr hset) (by rwa [(resuming_slot s _ _ _).2.1]), resuming_own]

theorem resumeSlot_pathOnly : PathOnly s (resumeSlot z phase fixed remaining snapshot s) := by
  obtain ⟨st, on, hd⟩ := resumeSlot_sequencer s z phase fixed remaining snapshot
  have hc := resumeSlot_counter s z phase fixed remaining snapshot
  exact ⟨by simp, by simp, by simp, by simp, by simp, by rw [hd], by rw [hd], by rw [hd], hc _ rfl, hc _ rfl, hc _ rfl,
    hc _ rfl⟩

/-- R49, R52, R71: the slot that resumes has its outputs, its count and its source. -/
theorem resumeSlot_resumed (hs : SettingsLaw s) (hn : remaining ≠ 0) :
    SlotResumed z phase fixed remaining snapshot s.arb.stack s
      (tellHolder (resumeSlot z phase fixed remaining snapshot s)) := by
  rintro plan route serving hplan hroute hserving
  set r := s.resumedSlot z phase fixed snapshot false with hr
  have hbefore := resuming_same s remaining snapshot r
  have hset : SettingsLaw (s.resuming r snapshot remaining) := hs.congr hbefore.drive.settings
  obtain ⟨hstopped, hcount, hreload⟩ := resuming_slot s remaining snapshot r
  have heq := resumeSlot_eq s z phase fixed remaining snapshot
  have hout := (placeSlot_outputs _ r hset).of_before hbefore
  have hslot := placeSlot_slotCounter _ r (by rwa [hcount]) hstopped
  rw [← hr] at heq
  rw [← heq] at hout hslot
  rw [hcount, hreload] at hslot
  obtain ⟨hrun, hcount, hreload⟩ := hslot
  have harb := resumeSlot_arb s z phase fixed remaining snapshot
  set x := resumeSlot z phase fixed remaining snapshot s with hx
  have hdamper : ∀ d, (tellHolder x).damper d = x.damper d := fun d => by simp [State.damper]
  have hb : x.bothSettled = serving := by
    rw [hserving, hdamper, hdamper]
    simp [State.bothSettled, DamperRec.settled, Bool.decide_and]
  have hp : plan = if snapshot = none then s.arb.nextPlan else s.arb.active := by
    rw [hplan]
    unfold Arbiter.nextPlan
    cases snapshot <;> simp
  have hrt : r.route = route := by
    rw [hroute, hp, hr]
    cases snapshot with
    | some q => rfl
    | none => cases z <;> rfl
  obtain ⟨ho, hf, hd⟩ := hout.of_after (tellHolder_same x)
  rw [hrt] at ho hf hd
  rw [hb] at hf hrun harb
  have hc := tellHolder_counter x
  rw [← hc .slot nofun] at hrun hcount hreload
  refine ⟨fun hw hnone => ?_, ?_, fun y => ?_, hrun, hcount, hreload, ho, hf, hd⟩
  · refine tellHolder_deltas_mono x 24 ?_
    rw [hx, resumeSlot_cond, if_pos hnone]
    exact applyPending_delta s hw
  · rw [(tellHolder_keeps x).2.2.2.2.1, harb, ← hp, ← hrt]
    rfl
  · exact (hc (.wait y) nofun).trans (resumeSlot_counter s z phase fixed remaining snapshot _ rfl)

end

/-! ### A DOOR frame (R72) -/

/-- The state that a popped DOOR frame leaves. -/
def State.doorResumed (s : State) : State := tellHolder (giveDoorOutputs (setHolder .door s.popped))

theorem doorResumed_arb : s.doorResumed.arb = { s.arb with holder := .door, stack := s.arb.stack.tail } := by
  simp [State.doorResumed, popped_arb]

/-- R148: a report that DOOR holds makes a SUSPENDED pause HELD. -/
theorem tellHolder_doors_of_door (h : s.arb.holder = .door) :
    (tellHolder s).doors =
      { s.doors with pause := if s.doors.pause = .suspended then .held else s.doors.pause } := by
  have hd : (tellHolder s).doors = (tellDoors (refreshHeater s)).doors := by simp [tellHolder]
  rw [hd]
  unfold tellDoors
  split <;> simp_all

theorem doorResumed_doors : s.doorResumed.doors =
    { s.doors with pause := if s.doors.pause = .suspended then .held else s.doors.pause } := by
  have hdoors : s.popped.doors = s.doors := rfl
  unfold State.doorResumed
  rw [tellHolder_doors_of_door _ (by simp)]
  simp [hdoors]

/-- R49: DOOR keeps the dampers' targets, stops the fan and demands AUTO. -/
theorem doorResumed_outputs (hs : SettingsLaw s) :
    s.doorResumed.air.dampers = s.air.dampers ∧ FanAsked 0 s s.doorResumed ∧ DemandTaken (.auto none) s s.doorResumed := by
  set v := setHolder .door s.popped with hv
  have hsame : PathSame s v := .of_bank rfl rfl rfl rfl rfl rfl
  have htell := tellHolder_same (giveDoorOutputs v)
  have hset : SettingsLaw (requestFan 0 v) := hs.congr (by simp [hsame.drive.settings])
  have hfan := ((requestFan_asked v 0).of_after (giveDemand_fanSame (.auto none) _)).of_before hsame.fan
  have hdemand := ((giveDemand_taken _ (.auto none) hset).of_before (requestFan_driveSame 0 v)).of_before hsame.drive
  refine ⟨?_, hfan.of_after htell.fan, ?_⟩
  · show (tellHolder (giveDoorOutputs v)).air.dampers = _
    rw [htell.air]
    simp [giveDoorOutputs, hsame.air]
  · exact hdemand.of_after htell.drive.comp htell.drive.known htell.drive.guard htell.drive.ramp htell.drive.condrun

theorem doorResumed_counter (j : CounterId) (hj : j.onPath = false) (ha : ∀ z, j ≠ .alm z) :
    s.doorResumed.counter j = s.counter j := by
  have hne : ∀ i : CounterId, i.onPath = true → j ≠ i := fun i hi h => by simp [h, hi] at hj
  unfold State.doorResumed giveDoorOutputs
  rw [tellHolder_counter _ _ ha, giveDemand_counter _ _ _ (hne _ rfl) (hne _ rfl) (hne _ rfl),
    requestFan_counter _ _ _ (hne _ rfl) (hne _ rfl)]
  rfl

theorem doorResumed_sequencer : SequencerSame s s.doorResumed := by
  refine .trans ?_ (tellHolder_sequencer _)
  exact (SequencerSame.of_eq (s := s) (by simp [State.popped, dropTop])).trans (giveDemand_defr _ _)

theorem doorResumed_own (hs : SettingsLaw s) : s.doorResumed.own = s.own := by
  have hset : SettingsLaw (setHolder .door s.popped) := hs
  unfold State.doorResumed giveDoorOutputs
  rw [tellHolder_own _ (hset.congr (by simp)), giveDemand_own _ _ (hset.congr (by simp)), requestFan_own]
  rfl

end

end Sys2Proof.Machine

/-! The DEFROST frame that resumes (R72, R136): the phase goes on, with its outputs and its PHASE count. -/

namespace Sys2Proof.Machine

section

variable {s t u : State}

/-! ### What no phase touches -/

/-- Whether the sequencer is suspended, and the heater command of SERVICE, stand as they did. -/
def HoldKept (s t : State) : Prop := t.defr.suspended = s.defr.suspended ∧ t.defr.svcHeater = s.defr.svcHeater

theorem HoldKept.trans (h : HoldKept s t) (k : HoldKept t u) : HoldKept s u := ⟨k.1.trans h.1, k.2.trans h.2⟩

theorem SequencerSame.holdKept (h : SequencerSame s t) : HoldKept s t := by
  obtain ⟨st, on, h⟩ := h
  exact ⟨by rw [h], by rw [h]⟩

variable (s)

theorem setPhase_holdKept (p : DefrostPhase) : HoldKept s (setPhase p s) := ⟨rfl, rfl⟩

theorem startC_phase_holdKept : HoldKept s (s.startC .phase) := ⟨by simp, by simp⟩

theorem giveStopOutputs_holdKept : HoldKept s (giveStopOutputs s) := (giveStopOutputs_sequencer s).holdKept

theorem enterHeat_holdKept : HoldKept s (enterHeat s) := by
  unfold enterHeat
  dsimp only
  refine .trans ?_ (giveStopOutputs_holdKept _)
  refine .trans ?_ (setPhase_holdKept _ _)
  exact ⟨by simp, by simp⟩

theorem continueHeat_holdKept : HoldKept s (continueHeat s) := by
  unfold continueHeat
  refine .trans ?_ (startC_phase_holdKept _)
  refine .trans ?_ (giveStopOutputs_holdKept _)
  exact ⟨rfl, rfl⟩

theorem enterStopWait_holdKept : HoldKept s (enterStopWait s) := by
  unfold enterStopWait endStopWait
  dsimp only
  refine .trans ((setPhase_holdKept s .stopWait).trans (giveStopOutputs_holdKept _)) ?_
  split
  · exact ⟨rfl, rfl⟩
  · split
    · exact continueHeat_holdKept _
    · exact enterHeat_holdKept _

theorem enterPreChill_holdKept : HoldKept s (enterPreChill s) := by
  rw [enterPreChill_eq]
  refine .trans ?_ (SequencerSame.holdKept (giveDemand_defr _ _))
  exact ⟨by simp [State.prechilling, setPhase], by simp [State.prechilling, setPhase]⟩

theorem enterFirstPhase_holdKept : HoldKept s (enterFirstPhase s) := by
  unfold enterFirstPhase
  split
  · exact enterStopWait_holdKept s
  · exact enterPreChill_holdKept s

/-! ### PHASE goes on (R136, R153) -/

/-- R153: PHASE was stopped with time left. -/
def State.phaseHeld (s : State) : Prop := (s.counter .phase).run = false ∧ (s.counter .phase).count ≠ 0

/-- R153: PHASE goes on from the count it was stopped with. -/
theorem startC_phase_eq (h : s.phaseHeld) :
    s.startC .phase = s.setCounter .phase { s.counter .phase with run := true, part := 0 } :=
  State.startC_oneShot_eq s .phase rfl h.1 h.2

theorem startC_phase_counter (h : s.phaseHeld) :
    (s.startC .phase).counter .phase = { s.counter .phase with run := true, part := 0 } := by
  rw [startC_phase_eq s h, State.counter_setCounter_self]

theorem startC_phase_own (h : s.phaseHeld) : (s.startC .phase).own = s.own :=
  State.startC_own _ _ (.inr (.inl h.2))

theorem startC_phase_same : PathSame s (s.startC .phase) := by
  have hc : ∀ j, j ≠ .phase → (s.startC .phase).counter j = s.counter j := fun j hj =>
    State.counter_startC_of_ne _ _ _ hj
  exact ⟨by simp, hc _ nofun, hc _ nofun, by simp, by simp, by simp, by simp, hc _ nofun, hc _ nofun, hc _ nofun⟩

theorem State.phaseHeld.congr {s t : State} (h : s.phaseHeld) (ht : t.counter .phase = s.counter .phase) :
    t.phaseHeld := by
  simpa [State.phaseHeld, ht] using h

/-! ### HEAT that goes on (R125, R136) -/

/-- R136: HEAT goes on with its budget and its PHASE count, beside a compressor that is not RUNNING. -/
def HeatContinued (s t : State) : Prop :=
  t.defr.phase = .heat ∧ t.defr.resumeHeat = false ∧
    t.counter .phase = { s.counter .phase with run := true, part := 0 } ∧ t.defr.heatBudget = s.defr.heatBudget ∧
    t.comp.state ≠ .running ∧ t.defr.compState = t.comp.state

/-- The state in which an interrupted HEAT gives its outputs. -/
def State.heatAgain (s : State) : State := setPhase .heat (s.onDefr fun d => { d with resumeHeat := false })

theorem heatAgain_same : PathSame s s.heatAgain := .of_bank rfl rfl rfl rfl rfl rfl

theorem continueHeat_eq : continueHeat s = (giveStopOutputs s.heatAgain).startC .phase := rfl

/-- R101: a compressor that is not RUNNING does not run after a demand to stop. -/
theorem giveStopOutputs_state (h : s.comp.state ≠ .running) : (giveStopOutputs s).comp.state = s.comp.state := by
  unfold giveStopOutputs
  rw [giveDemand_stop_of_not_running _ (by simpa using h)]
  simp [State.onComp]

theorem continueHeat_continued (hk : s.defr.compState = s.comp.state) (hn : s.comp.state ≠ .running)
    (hp : s.phaseHeld) : HeatContinued s (continueHeat s) := by
  have hcount : (giveStopOutputs s.heatAgain).counter .phase = s.counter .phase :=
    giveStopOutputs_counter _ _ (.inl rfl)
  have hstate : (giveStopOutputs s.heatAgain).comp.state = s.comp.state := giveStopOutputs_state s.heatAgain hn
  have hknown := giveStopOutputs_known s.heatAgain hk
  obtain ⟨st, on, hd⟩ := giveStopOutputs_sequencer s.heatAgain
  rw [continueHeat_eq]
  refine ⟨?_, ?_, ?_, ?_, ?_, ?_⟩
  · rw [(State.startC_keeps _ _).2.2.2.2.2.2.2.1, hd]
    rfl
  · rw [(State.startC_keeps _ _).2.2.2.2.2.2.2.1, hd]
    rfl
  · rw [startC_phase_counter _ (hp.congr hcount), hcount]
  · rw [(State.startC_keeps _ _).2.2.2.2.2.2.2.1, hd]
    rfl
  · rw [(startC_phase_same _).drive.comp, hstate]
    exact hn
  · rw [(startC_phase_same _).drive.comp, (startC_phase_same _).drive.known, hknown]

theorem continueHeat_outputs (hs : SettingsLaw s) : OutputsGiven 0 0 0 .stop s (continueHeat s) := by
  rw [continueHeat_eq]
  exact ((giveStopOutputs_outputs s.heatAgain hs).of_before (heatAgain_same s)).of_after (startC_phase_same _)

theorem continueHeat_own (hs : SettingsLaw s) (hp : s.phaseHeld) : (continueHeat s).own = s.own := by
  have hcount : (giveStopOutputs s.heatAgain).counter .phase = s.counter .phase :=
    giveStopOutputs_counter _ _ (.inl rfl)
  rw [continueHeat_eq, startC_phase_own _ (hp.congr hcount), giveStopOutputs_own s.heatAgain hs]
  rfl

/-- R125: after a STOP_WAIT whose compressor has stopped the outputs are given already. -/
theorem continueHeat_of_coldStopped (h : s.coldStopped) : continueHeat s = s.heatAgain.startC .phase := by
  rw [continueHeat_eq, giveStopOutputs_of_coldStopped]
  exact h

/-! ### STOP_WAIT before a HEAT that goes on (R125, R136) -/

theorem enterStopWait_continues (hr : s.defr.resumeHeat = true) (h : s.waiting.compRunning = false) :
    enterStopWait s = continueHeat s.waiting := by
  obtain ⟨st, on, hd⟩ := waiting_defr s
  have hresume : s.waiting.defr.resumeHeat = true := by rw [hd]; exact hr
  show (if s.waiting.compRunning then s.waiting else endStopWait s.waiting) = _
  rw [h, endStopWait, hresume]
  rfl

/-- R136: a HEAT to go on waits while the compressor runs, PHASE stopped with its count, and goes on otherwise. -/
theorem enterStopWait_resumes (hs : SettingsLaw s) (hk : s.defr.compState = s.comp.state)
    (hr : s.defr.resumeHeat = true) (hp : s.phaseHeld) :
    OutputsGiven 0 0 0 .stop s (enterStopWait s) ∧
      ((enterStopWait s).comp.state = .running → (enterStopWait s).defr.phase = .stopWait ∧
        (enterStopWait s).defr.resumeHeat = true ∧ (enterStopWait s).counter .phase = s.counter .phase ∧
        (enterStopWait s).defr.heatBudget = s.defr.heatBudget) ∧
      ((enterStopWait s).comp.state ≠ .running → HeatContinued s (enterStopWait s)) := by
  have hknown := waiting_known s hk
  have hcount := waiting_phase s
  obtain ⟨st, on, hd⟩ := waiting_defr s
  cases hrun : s.waiting.compRunning with
  | true =>
    have hstate : s.waiting.comp.state = .running := by simpa [State.compRunning, hknown] using hrun
    rw [enterStopWait_of_running s hrun]
    exact ⟨waiting_outputs s hs, fun _ => ⟨by rw [hd], by rw [hd]; exact hr, hcount, by rw [hd]⟩,
      fun hn => absurd hstate hn⟩
  | false =>
    have hstate : s.waiting.comp.state ≠ .running := by simpa [State.compRunning, hknown] using hrun
    obtain ⟨h1, h2, h3, h4, h5, h6⟩ := continueHeat_continued s.waiting hknown hstate (hp.congr hcount)
    rw [hcount] at h3
    rw [hd] at h4
    rw [enterStopWait_continues s hr hrun]
    refine ⟨?_, fun hn => absurd hn h5, fun _ => ⟨h1, h2, h3, h4, h5, h6⟩⟩
    have hcold : s.waiting.coldStopped := giveStopOutputs_coldStopped (setPhase .stopWait s) hk hrun
    rw [continueHeat_of_coldStopped _ hcold]
    exact (waiting_outputs s hs).of_after ((heatAgain_same _).trans (startC_phase_same _))

theorem enterStopWait_resumes_own (hs : SettingsLaw s) (hr : s.defr.resumeHeat = true) (hp : s.phaseHeld) :
    (enterStopWait s).own = s.own := by
  cases hrun : s.waiting.compRunning with
  | true => rw [enterStopWait_of_running s hrun, waiting_own s hs]
  | false =>
    rw [enterStopWait_continues s hr hrun, continueHeat_own _ (hs.congr (waiting_settings s)) (hp.congr (waiting_phase s)),
      waiting_own s hs]

/-- R99, R118: the sequencer knows the compressor's state after STOP_WAIT, too. -/
theorem enterStopWait_known (hk : s.defr.compState = s.comp.state) :
    (enterStopWait s).defr.compState = (enterStopWait s).comp.state := by
  have hknown := waiting_known s hk
  show (if s.waiting.compRunning then s.waiting else endStopWait s.waiting).defr.compState =
    (if s.waiting.compRunning then s.waiting else endStopWait s.waiting).comp.state
  split
  · exact hknown
  · unfold endStopWait
    split
    · rw [continueHeat_eq, (startC_phase_same _).drive.comp, (startC_phase_same _).drive.known]
      exact giveStopOutputs_known s.waiting.heatAgain hknown
    · exact giveStopOutputs_known (setPhase .heat s.waiting.heating) (by
        rw [(heating_same _).drive.known, (heating_same _).drive.comp, hknown])

end

end Sys2Proof.Machine

/-! What a popped DEFROST frame leaves, by the phase that was suspended (R72, R136). -/

namespace Sys2Proof.Machine

section

variable (s : State)

/-! ### A row of outputs, given again (R49, R136) -/

theorem startC_phase_frostKept : FrostKept s (s.startC .phase) :=
  ⟨by simp, fun j hj _ => State.counter_startC_of_ne _ _ _ hj⟩

/-- R136: a phase that goes on gives its row of outputs, and PHASE goes on. -/
def State.rowAgain (fresh chill duty : Nat) (d : Demand) (s : State) : State :=
  (giveDemand d (requestFan duty (giveOpenings fresh chill s))).startC .phase

section

variable (fresh chill duty : Nat) (d : Demand)

theorem giveRow_counter (j : CounterId) (hj : j.onPath = false ∨ j = .slot) :
    (giveDemand d (requestFan duty (giveOpenings fresh chill s))).counter j = s.counter j := by
  have hne : ∀ i : CounterId, i.onPath = true → i ≠ .slot → j ≠ i := fun i hi hn h => by
    subst h; simp_all
  rw [giveDemand_counter _ _ _ (hne _ rfl nofun) (hne _ rfl nofun) (hne _ rfl nofun),
    requestFan_counter _ _ _ (hne _ rfl nofun) (hne _ rfl nofun), giveOpenings_counter]

theorem rowAgain_outputs (hs : SettingsLaw s) : OutputsGiven fresh chill duty d s (s.rowAgain fresh chill duty d) :=
  (outputs_of_row s fresh chill duty d hs).of_after (startC_phase_same _)

theorem rowAgain_phaseCounter (h : s.phaseHeld) :
    (s.rowAgain fresh chill duty d).counter .phase = { s.counter .phase with run := true, part := 0 } := by
  have hcount := giveRow_counter s fresh chill duty d .phase (.inl rfl)
  rw [State.rowAgain, startC_phase_counter _ (h.congr hcount), hcount]

theorem rowAgain_sequencer : SequencerSame s (s.rowAgain fresh chill duty d) := by
  refine .trans ?_ (.of_eq (State.startC_keeps _ _).2.2.2.2.2.2.2.1)
  exact (SequencerSame.of_eq (s := s) (by simp)).trans (giveDemand_defr _ _)

theorem rowAgain_frostKept : FrostKept s (s.rowAgain fresh chill duty d) := by
  refine .trans ?_ (startC_phase_frostKept _)
  obtain ⟨st, on, hd⟩ := giveDemand_defr (requestFan duty (giveOpenings fresh chill s)) d
  exact ⟨by rw [hd]; simp, fun j _ hj => giveRow_counter s fresh chill duty d j hj⟩

theorem rowAgain_known (h : s.defr.compState = s.comp.state) :
    (s.rowAgain fresh chill duty d).defr.compState = (s.rowAgain fresh chill duty d).comp.state := by
  rw [State.rowAgain, (startC_phase_same _).drive.known, (startC_phase_same _).drive.comp]
  exact giveDemand_known _ _ (by simpa using h)

theorem rowAgain_own (hs : SettingsLaw s) (h : s.phaseHeld) : (s.rowAgain fresh chill duty d).own = s.own := by
  rw [State.rowAgain, startC_phase_own _ (h.congr (giveRow_counter s fresh chill duty d .phase (.inl rfl))),
    giveDemand_own _ _ (hs.congr (by simp)), requestFan_own, giveOpenings_own]

end

/-! ### The phase, by its name -/

/-- R72: the state in which the phase of a popped DEFROST frame goes on. -/
def State.defrostPopped (s : State) : State :=
  refreshHeater (setHolder .defrost (s.popped.onDefr fun d => { d with suspended := false }))

theorem defrostPopped_same : PathSame s s.defrostPopped := .of_bank rfl rfl rfl rfl rfl rfl

/-- R124, R136: PRE_CHILL that finds the compressor in LOCKOUT goes on to STOP_WAIT, PHASE stopped. -/
def State.preChillEnded (s : State) : State := s.defrostPopped.stopC .phase

/-- R136: HEAT beside a running compressor goes on after STOP_WAIT. -/
def State.heatWaits (s : State) : State := s.defrostPopped.onDefr fun d => { d with resumeHeat := true }

/-- R136: what the phase does that a popped frame resumes. -/
theorem resumeDefrost_eq : resumeDefrost s.popped =
    (match s.defr.phase with
      | .preChill =>
        if s.defr.compState = .lockout then enterStopWait s.preChillEnded
        else s.defrostPopped.rowAgain s.arb.active.freeze.freshOpen s.arb.active.freeze.chillOpen
          s.arb.active.freeze.fanDuty (.fixed (s.effN .nMax))
      | .stopWait => enterStopWait s.defrostPopped
      | .heat =>
        if s.compRunning then enterStopWait s.heatWaits
        else continueHeat s.defrostPopped
      | .drip => s.defrostPopped.rowAgain 0 0 0 .stop
      | .recover => s.defrostPopped.rowAgain 0 0 0 (.fixed (s.effN .nMax))
      | .idle => s.defrostPopped
      | .pending => s.defrostPopped) := by
  unfold resumeDefrost
  rfl

theorem stop_of_stopped (c : Counter) (h : c.run = false) : c.stop = c := by simp [Counter.stop, h]

theorem preChillEnded_phase (h : s.phaseHeld) : s.preChillEnded.counter .phase = s.counter .phase := by
  rw [State.preChillEnded, State.counter_stopC_self]
  exact stop_of_stopped _ h.1

theorem preChillEnded_frostKept : FrostKept s s.preChillEnded :=
  ⟨rfl, fun _ hj _ => State.counter_stopC_of_ne s.defrostPopped _ _ hj⟩

theorem preChillEnded_same : PathSame s s.preChillEnded := by
  have hc : ∀ j, j ≠ .phase → s.preChillEnded.counter j = s.counter j := fun j hj => State.counter_stopC_of_ne _ _ _ hj
  exact ⟨rfl, hc _ nofun, hc _ nofun, rfl, rfl, rfl, rfl, hc _ nofun, hc _ nofun, hc _ nofun⟩

theorem heatWaits_same : PathSame s s.heatWaits := .of_bank rfl rfl rfl rfl rfl rfl

theorem heatWaits_frostKept : FrostKept s s.heatWaits := ⟨rfl, fun _ _ _ => rfl⟩

/-! ### What every phase keeps -/

/-- What the phase that goes on leaves for the report after it. -/
structure PhaseKept (s x : State) : Prop where
  frost : FrostKept s x
  suspended : x.defr.suspended = false
  svcHeater : x.defr.svcHeater = s.defr.svcHeater
  known : x.defr.compState = x.comp.state
  own : x.own = s.own

variable {s} in
theorem PhaseKept.of_before {v x : State} (h : PhaseKept v x) (hf : FrostKept s v)
    (hv : v.defr.svcHeater = s.defr.svcHeater) (ho : v.own = s.own) : PhaseKept s x :=
  ⟨hf.trans h.frost, h.suspended, h.svcHeater.trans hv, h.known, h.own.trans ho⟩

section

variable (hs : SettingsLaw s) (hk : s.defr.compState = s.comp.state) (hu : s.defr.suspended = false)

include hs hk hu

theorem rowAgain_kept (fresh chill duty : Nat) (d : Demand) (hp : s.phaseHeld) :
    PhaseKept s (s.rowAgain fresh chill duty d) := by
  obtain ⟨hsusp, hsvc⟩ := (rowAgain_sequencer s fresh chill duty d).holdKept
  exact ⟨rowAgain_frostKept s _ _ _ _, hsusp.trans hu, hsvc, rowAgain_known s _ _ _ _ hk, rowAgain_own s _ _ _ _ hs hp⟩

theorem enterStopWait_kept (hr : s.defr.resumeHeat = true → s.phaseHeld) : PhaseKept s (enterStopWait s) := by
  obtain ⟨hsusp, hsvc⟩ := enterStopWait_holdKept s
  refine ⟨enterStopWait_frostKept s, hsusp.trans hu, hsvc, enterStopWait_known s hk, ?_⟩
  cases hresume : s.defr.resumeHeat with
  | true => exact enterStopWait_resumes_own s hs hresume (hr hresume)
  | false => exact enterStopWait_own s hs hresume

theorem continueHeat_kept (hn : s.comp.state ≠ .running) (hp : s.phaseHeld) : PhaseKept s (continueHeat s) := by
  obtain ⟨hsusp, hsvc⟩ := continueHeat_holdKept s
  obtain ⟨-, -, -, -, -, hknown⟩ := continueHeat_continued s hk hn hp
  exact ⟨continueHeat_frostKept s, hsusp.trans hu, hsvc, hknown, continueHeat_own s hs hp⟩

end

theorem compRunning_iff (hk : s.defr.compState = s.comp.state) : s.compRunning = true ↔ s.comp.state = .running := by
  simp [State.compRunning, hk]

theorem resumeDefrost_kept (hs : SettingsLaw s) (hk : s.defr.compState = s.comp.state) (hp : s.phaseHeld) :
    PhaseKept s (resumeDefrost s.popped) := by
  have hpopped : FrostKept s s.defrostPopped := ⟨rfl, fun _ _ _ => rfl⟩
  have hset : SettingsLaw s.defrostPopped := hs.congr (defrostPopped_same s).drive.settings
  have hknown : s.defrostPopped.defr.compState = s.defrostPopped.comp.state := hk
  have hheld : s.defrostPopped.phaseHeld := hp
  rw [resumeDefrost_eq]
  cases s.defr.phase with
  | preChill =>
    dsimp only
    split
    · refine (enterStopWait_kept s.preChillEnded hs hk rfl fun _ => hp.congr (preChillEnded_phase s hp)).of_before
        (preChillEnded_frostKept s) rfl rfl
    · exact (rowAgain_kept s.defrostPopped hset hknown rfl _ _ _ _ hheld).of_before hpopped rfl rfl
  | stopWait => exact (enterStopWait_kept s.defrostPopped hset hknown rfl fun _ => hheld).of_before hpopped rfl rfl
  | heat =>
    dsimp only
    split
    · exact (enterStopWait_kept s.heatWaits hs hk rfl fun _ => hp).of_before (heatWaits_frostKept s) rfl rfl
    · next hrun =>
      have hn : s.defrostPopped.comp.state ≠ .running := fun h => hrun ((compRunning_iff s hk).mpr h)
      exact (continueHeat_kept s.defrostPopped hset hknown rfl hn hheld).of_before hpopped rfl rfl
  | drip => exact (rowAgain_kept s.defrostPopped hset hknown rfl _ _ _ _ hheld).of_before hpopped rfl rfl
  | recover => exact (rowAgain_kept s.defrostPopped hset hknown rfl _ _ _ _ hheld).of_before hpopped rfl rfl
  | idle => exact ⟨hpopped, rfl, rfl, hk, rfl⟩
  | pending => exact ⟨hpopped, rfl, rfl, hk, rfl⟩

end

end Sys2Proof.Machine

/-! A popped DEFROST frame has resumed (R72, R136). -/

namespace Sys2Proof.Machine

section

variable {s x : State}

theorem resumeDefrost_arb (s : State) : (resumeDefrost s).arb = { s.arb with holder := .defrost } := by
  unfold resumeDefrost givePreChillOutputs giveRecoverOutputs
  dsimp only
  repeat' split
  all_goals simp

/-! ### STOP_WAIT with no HEAT to go on (R125) -/

section

variable (s)

theorem enterStopWait_noResume (hk : s.defr.compState = s.comp.state)
    (hr : s.defr.resumeHeat = false) : (enterStopWait s).defr.resumeHeat = false := by
  obtain ⟨st, on, hd⟩ := waiting_defr s
  cases hrun : s.waiting.compRunning with
  | true => rw [enterStopWait_of_running s hrun, hd, hr]
  | false =>
    rw [enterStopWait_of_stopped s hk hr hrun]
    simp [setPhase, State.heating, hd, hr]

/-- R125: PHASE stands while STOP_WAIT waits. -/
theorem enterStopWait_waitsPhase (hk : s.defr.compState = s.comp.state) (hr : s.defr.resumeHeat = false)
    (h : (enterStopWait s).defr.phase = .stopWait) : (enterStopWait s).counter .phase = s.counter .phase := by
  cases hrun : s.waiting.compRunning with
  | true => rw [enterStopWait_of_running s hrun, waiting_phase]
  | false =>
    rw [enterStopWait_of_stopped s hk hr hrun] at h
    cases h

end

/-- R125: HEAT is to be resumed in STOP_WAIT alone. -/
theorem ResumeLaw.no_resume {s : State} (hr : ResumeLaw s) (h : s.defr.phase ≠ .stopWait) : s.defr.resumeHeat = false :=
  Bool.eq_false_of_not_eq_true fun hyes => h (hr hyes)

theorem ResumeLaw.of_preChill {s : State} (hr : ResumeLaw s) (h : s.defr.phase = .preChill) : s.defr.resumeHeat = false :=
  hr.no_resume (by simp [h])

/-! ### What the report after a resumed phase tells -/

theorem OutputsGiven.told {fresh chill duty : Nat} {d : Demand} (h : OutputsGiven fresh chill duty d s x) :
    OutputsGiven fresh chill duty d s (tellHolder x) := h.of_after (tellHolder_same x)

theorem StopWaitResumed.told (h : StopWaitResumed s x) : StopWaitResumed s (tellHolder x) := by
  obtain ⟨hp, ho⟩ := h
  refine ⟨?_, OutputsGiven.told ho⟩
  rw [tellHolder_defr, (tellHolder_same x).drive.comp]
  exact hp

theorem HeatEntered.told (h : HeatEntered s x) : HeatEntered s (tellHolder x) :=
  h.of_after s (tellHolder_sequencer x) (tellHolder_counter x _ nofun)

variable (s)

section

variable (hs : SettingsLaw s) (hk : s.defr.compState = s.comp.state) (hp : s.phaseHeld)

include hs hp

/-- R136: a phase whose outputs are a row goes on. -/
theorem rowAgain_resumed (fresh chill duty : Nat) (d : Demand) :
    (s.defrostPopped.rowAgain fresh chill duty d).defr.phase = s.defr.phase ∧
      (s.defrostPopped.rowAgain fresh chill duty d).counter .phase = { s.counter .phase with run := true, part := 0 } ∧
      OutputsGiven fresh chill duty d s (s.defrostPopped.rowAgain fresh chill duty d) := by
  have hset : SettingsLaw s.defrostPopped := hs.congr (defrostPopped_same s).drive.settings
  obtain ⟨st, on, hd⟩ := rowAgain_sequencer s.defrostPopped fresh chill duty d
  refine ⟨by rw [hd]; rfl, rowAgain_phaseCounter s.defrostPopped fresh chill duty d hp, ?_⟩
  exact (rowAgain_outputs s.defrostPopped fresh chill duty d hset).of_before (defrostPopped_same s)

include hk

/-- R124, R136: a suspended PRE_CHILL in LOCKOUT goes on to HEAT. -/
theorem preChillEnded_resumed (hr : s.defr.resumeHeat = false) (hl : s.defr.compState = .lockout) :
    StopWaitResumed s (enterStopWait s.preChillEnded) ∧ HeatEntered s (enterStopWait s.preChillEnded) := by
  have hsame := preChillEnded_same s
  have hset : SettingsLaw s.preChillEnded := hs.congr hsame.drive.settings
  have hknown : s.preChillEnded.defr.compState = s.preChillEnded.comp.state := by
    rw [hsame.drive.known, hsame.drive.comp, hk]
  obtain ⟨hphase, hheat, hout⟩ := enterStopWait_enters s.preChillEnded hset hknown hr
  have hstate : (enterStopWait s.preChillEnded).comp.state ≠ .running := fun hrun => by
    have hw : s.preChillEnded.waiting.comp.state = s.comp.state :=
      giveStopOutputs_state (setPhase .stopWait s.preChillEnded) (by
        show s.comp.state ≠ .running
        rw [← hk, hl]
        decide)
    have hstopped : s.preChillEnded.waiting.compRunning = false := by
      simp [State.compRunning, waiting_known _ hknown, hw, ← hk, hl]
    rw [enterStopWait_of_stopped s.preChillEnded hknown hr hstopped, (heating_same _).drive.comp, hw, ← hk, hl] at hrun
    cases hrun
  refine ⟨⟨hphase, hout.of_before hsame⟩, ?_⟩
  rw [if_neg hstate] at hphase
  exact (hheat hphase).of_before s rfl hsame.drive.settings (preChillEnded_phase s hp)

omit hs hk hp in
/-- R125: after a STOP_WAIT whose compressor does not run HEAT is the phase. -/
theorem StopWaitResumed.of_outcome {x : State} (hout : OutputsGiven 0 0 0 .stop s x)
    (hrun : x.comp.state = .running → x.defr.phase = .stopWait)
    (hstop : x.comp.state ≠ .running → x.defr.phase = .heat) : StopWaitResumed s x := by
  refine ⟨?_, hout⟩
  split
  · next h => exact hrun h
  · next h => exact hstop h

/-- R136: STOP_WAIT, entered for a HEAT to go on, told of the state `s` before the pop. -/
theorem enterStopWait_resumed {v : State} (hv : PathSame s v) (hc : v.counter .phase = s.counter .phase)
    (hb : v.defr.heatBudget = s.defr.heatBudget) (hr : v.defr.resumeHeat = true) :
    StopWaitResumed s (enterStopWait v) ∧ (enterStopWait v).defr.heatBudget = s.defr.heatBudget ∧
      ((enterStopWait v).defr.phase = .stopWait →
        (enterStopWait v).defr.resumeHeat = true ∧ (enterStopWait v).counter .phase = s.counter .phase) ∧
      ((enterStopWait v).defr.phase = .heat →
        (enterStopWait v).defr.resumeHeat = false ∧
          (enterStopWait v).counter .phase = { s.counter .phase with run := true, part := 0 }) := by
  have hknown : v.defr.compState = v.comp.state := by rw [hv.drive.known, hv.drive.comp, hk]
  obtain ⟨hout, hrun, hstop⟩ := enterStopWait_resumes v (hs.congr hv.drive.settings) hknown hr (hp.congr hc)
  rw [hc, hb] at hrun
  unfold HeatContinued at hstop
  rw [hc, hb] at hstop
  refine ⟨.of_outcome s (hout.of_before hv) (fun h => (hrun h).1) fun h => (hstop h).1, ?_, fun h => ?_, fun h => ?_⟩
  · by_cases h : (enterStopWait v).comp.state = .running
    · exact (hrun h).2.2.2
    · exact (hstop h).2.2.2.1
  · by_cases hst : (enterStopWait v).comp.state = .running
    · obtain ⟨-, hres, hcount, -⟩ := hrun hst
      exact ⟨hres, hcount⟩
    · rw [(hstop hst).1] at h
      cases h
  · by_cases hst : (enterStopWait v).comp.state = .running
    · rw [(hrun hst).1] at h
      cases h
    · obtain ⟨-, hres, hcount, -⟩ := hstop hst
      exact ⟨hres, hcount⟩

/-- R136: a suspended STOP_WAIT goes on. -/
theorem stopWait_resumed :
    StopWaitResumed s (enterStopWait s.defrostPopped) ∧
      ((enterStopWait s.defrostPopped).defr.phase = .stopWait →
        (enterStopWait s.defrostPopped).defr.resumeHeat = s.defr.resumeHeat ∧
          (enterStopWait s.defrostPopped).counter .phase = s.counter .phase) ∧
      ((enterStopWait s.defrostPopped).defr.phase = .heat →
        (enterStopWait s.defrostPopped).defr.resumeHeat = false ∧
          (s.defr.resumeHeat = false → HeatEntered s (enterStopWait s.defrostPopped)) ∧
          (s.defr.resumeHeat = true →
            (enterStopWait s.defrostPopped).counter .phase = { s.counter .phase with run := true, part := 0 } ∧
              (enterStopWait s.defrostPopped).defr.heatBudget = s.defr.heatBudget)) := by
  have hsame := defrostPopped_same s
  have hset : SettingsLaw s.defrostPopped := hs.congr hsame.drive.settings
  cases hr : s.defr.resumeHeat with
  | true =>
    obtain ⟨hout, hbudget, hwait, hheat⟩ := enterStopWait_resumed s hs hk hp hsame rfl rfl hr
    exact ⟨hout, hwait, fun h => ⟨(hheat h).1, nofun, fun _ => ⟨(hheat h).2, hbudget⟩⟩⟩
  | false =>
    obtain ⟨hphase, hheat, hout⟩ := enterStopWait_enters s.defrostPopped hset hk hr
    have hres := enterStopWait_noResume s.defrostPopped hk hr
    refine ⟨⟨hphase, hout.of_before hsame⟩, fun h => ⟨hres, ?_⟩, fun h => ⟨hres, fun _ => ?_, nofun⟩⟩
    · exact enterStopWait_waitsPhase s.defrostPopped hk hr h
    · exact (hheat h).of_before s rfl rfl rfl

/-- R136: a suspended HEAT goes on at once, or after STOP_WAIT beside a running compressor. -/
theorem heat_resumed (x : State) (hx : x = if s.compRunning then enterStopWait s.heatWaits else continueHeat s.defrostPopped) :
    StopWaitResumed s x ∧ x.defr.heatBudget = s.defr.heatBudget ∧
      (x.defr.phase = .stopWait → x.defr.resumeHeat = true ∧ x.counter .phase = s.counter .phase) ∧
      (x.defr.phase = .heat →
        x.defr.resumeHeat = false ∧ x.counter .phase = { s.counter .phase with run := true, part := 0 }) := by
  subst hx
  split
  · exact enterStopWait_resumed s hs hk hp (heatWaits_same s) rfl rfl rfl
  · next hrun =>
    have hn : s.comp.state ≠ .running := fun h => hrun ((compRunning_iff s hk).mpr h)
    have hsame := defrostPopped_same s
    have hset : SettingsLaw s.defrostPopped := hs.congr hsame.drive.settings
    obtain ⟨hphase, hres, hcount, hbudget, hstate, -⟩ := continueHeat_continued s.defrostPopped hk hn hp
    have hout := (continueHeat_outputs s.defrostPopped hset).of_before hsame
    refine ⟨.of_outcome s hout (fun h => absurd h hstate) fun _ => hphase, hbudget, fun h => ?_,
      fun _ => ⟨hres, hcount⟩⟩
    rw [hphase] at h
    cases h

/-- R72, R136: what the release of a popped DEFROST frame leaves. -/
theorem resumeDefrost_resumed (hr : s.defr.phase = .preChill → s.defr.resumeHeat = false) :
    DefrostResumed s.arb.stack.tail s (tellHolder (resumeDefrost s.popped)) := by
  set x := resumeDefrost s.popped with hx
  have heq := resumeDefrost_eq s
  rw [← hx] at heq
  obtain ⟨⟨hfrost, hcounter⟩, hsusp, -, hknown, -⟩ := resumeDefrost_kept s hs hk hp
  rw [← hx] at hfrost hcounter hsusp hknown
  have harb : x.arb = { s.arb with holder := .defrost, stack := s.arb.stack.tail } := by
    rw [hx, resumeDefrost_arb, popped_arb]
  have hc := tellHolder_counter x
  have hdefr := tellHolder_defr x
  have hcomp := (tellHolder_same x).drive.comp
  have hstuck : x.level .heaterStuck = s.level .heaterStuck := by simp [State.level, hx, State.popped, dropTop]
  refine ⟨?_, ?_, ?_, ?_, ?_, ?_, fun hph hl => ?_, fun hph hl => ?_, fun hph => ?_, fun hph => ?_, fun hph => ?_,
    fun hph => ?_, ?_, by simp [hx, State.popped, dropTop], by simp [hx, State.popped, dropTop],
    by simp [hx, State.popped, dropTop], by simp [hx, State.popped, dropTop]⟩
  · simpa using harb
  · rw [hdefr, hsusp]
  · rw [hdefr]
    exact hfrost
  · exact (hc .gap nofun).trans (hcounter _ nofun (.inl rfl))
  · exact (hc .runsec nofun).trans (hcounter _ nofun (.inl rfl))
  · rw [hdefr, hcomp]
    simp [State.heaterWanted, harb, hstuck, hknown]
  · rw [hph] at heq
    dsimp only at heq
    rw [if_neg hl] at heq
    obtain ⟨hphase, hcount, hout⟩ := rowAgain_resumed s hs hp s.arb.active.freeze.freshOpen
      s.arb.active.freeze.chillOpen s.arb.active.freeze.fanDuty (.fixed (s.effN .nMax))
    rw [← heq, hph] at hphase
    rw [← heq] at hcount hout
    rw [hdefr, hc .phase nofun]
    exact ⟨hphase, hcount, hout.told⟩
  · rw [hph] at heq
    dsimp only at heq
    rw [if_pos hl] at heq
    obtain ⟨hwait, hheat⟩ := preChillEnded_resumed s hs hk hp (hr hph) hl
    rw [heq]
    exact ⟨hwait.told, hheat.told⟩
  · rw [hph] at heq
    dsimp only at heq
    obtain ⟨hout, hwait, hheat⟩ := stopWait_resumed s hs hk hp
    rw [← heq] at hout hwait hheat
    rw [hdefr, hc .phase nofun]
    refine ⟨hout.told, hwait, fun h => ?_⟩
    obtain ⟨hres, hnew, hagain⟩ := hheat h
    exact ⟨hres, fun hno => (hnew hno).told, hagain⟩
  · rw [hph] at heq
    dsimp only at heq
    obtain ⟨hout, hrest⟩ := heat_resumed s hs hk hp x heq
    rw [hdefr, hc .phase nofun]
    exact ⟨hout.told, hrest⟩
  · rw [hph] at heq
    dsimp only at heq
    obtain ⟨hphase, hcount, hout⟩ := rowAgain_resumed s hs hp 0 0 0 .stop
    rw [← heq, hph] at hphase
    rw [← heq] at hcount hout
    rw [hdefr, hc .phase nofun]
    exact ⟨hphase, hcount, hout.told⟩
  · rw [hph] at heq
    dsimp only at heq
    obtain ⟨hphase, hcount, hout⟩ := rowAgain_resumed s hs hp 0 0 0 (.fixed (s.effN .nMax))
    rw [← heq, hph] at hphase
    rw [← heq] at hcount hout
    rw [hdefr, hc .phase nofun]
    exact ⟨hphase, hcount, hout.told⟩
  · rw [tellHolder_doors_of_defrost _ (by rw [harb])]
    simp [hx, State.popped, dropTop]

end

end

end Sys2Proof.Machine

/-! What a release of the path, and the slot expiry it can signal, leave of SVC, of the service heater command and of the
conditions (R50, R70, R75, R155). -/

namespace Sys2Proof.Machine

/-- SVC and the service heater command stand as they did, no delta is cleared, and DEFROST_ACTIVE stands where no
defrost is PENDING. -/
structure BesidePath (s t : State) : Prop where
  svc : t.counter .svc = s.counter .svc
  svcHeater : t.defr.svcHeater = s.defr.svcHeater
  active : s.defr.phase ≠ .pending → t.defr.phase ≠ .pending ∧ t.level .defrostActive = s.level .defrostActive
  deltas : ∀ n, s.cond.deltas.getLsbD n = true → t.cond.deltas.getLsbD n = true

section

variable {s t u : State}

theorem BesidePath.trans (h : BesidePath s t) (k : BesidePath t u) : BesidePath s u :=
  ⟨k.svc.trans h.svc, k.svcHeater.trans h.svcHeater,
    fun hp => by
      obtain ⟨hp', ha⟩ := h.active hp
      obtain ⟨hp'', ha'⟩ := k.active hp'
      exact ⟨hp'', ha'.trans ha⟩,
    fun n hn => k.deltas n (h.deltas n hn)⟩

/-- An operation of the path that leaves the sequencer's record and every level. -/
theorem BesidePath.of_sequencer (hd : SequencerSame s t) (hc : t.counter .svc = s.counter .svc)
    (hl : t.cond.levels = s.cond.levels)
    (hm : ∀ n, s.cond.deltas.getLsbD n = true → t.cond.deltas.getLsbD n = true) : BesidePath s t := by
  obtain ⟨st, on, hd⟩ := hd
  exact ⟨hc, by rw [hd], fun hp => ⟨by rw [hd]; exact hp, by rw [State.level, State.level, Conditions.level, hl]; rfl⟩, hm⟩

variable (s)

theorem applyPending_deltas_mono (n : Nat) (h : s.cond.deltas.getLsbD n = true) :
    (applyPending s).cond.deltas.getLsbD n = true := by
  unfold applyPending applyPlan
  split
  · exact mark_deltas_mono _ _ n h
  · exact h

theorem arbitrate_deltas_mono (n : Nat) (h : s.cond.deltas.getLsbD n = true) :
    (arbitrate s).cond.deltas.getLsbD n = true := by
  refine arbitrate_elim s (fun t => t.cond.deltas.getLsbD n = true) ?_ fun z _ => ?_
  · rw [enterIdle_cond]
    exact applyPending_deltas_mono (setHolder .nobody s.fullEndGone) n h
  · rw [grantSlot_cond]
    exact applyPending_deltas_mono s.fullEndGone n h

theorem arbitrate_beside : BesidePath s (arbitrate s) :=
  .of_sequencer (arbitrate_sequencer s) (arbitrate_counter s .svc nofun rfl) (arbitrate_levels s)
    (arbitrate_deltas_mono s)

theorem resumeSlot_beside (z : Zone) (phase : SlotPhase) (fixed : Bool) (remaining : Nat) (snapshot : Option Route) :
    BesidePath s (resumeSlot z phase fixed remaining snapshot s) := by
  refine .of_sequencer (resumeSlot_sequencer s _ _ _ _ _) (resumeSlot_counter s _ _ _ _ _ _ rfl)
    (resumeSlot_levels s _ _ _ _ _) fun n hn => ?_
  rw [resumeSlot_cond]
  split
  · exact applyPending_deltas_mono s n hn
  · exact hn

theorem tellHolder_beside : BesidePath s (tellHolder s) := by
  have hd := tellHolder_defr s
  exact ⟨tellHolder_counter s _ nofun, by rw [hd], fun hp => ⟨by rw [hd]; exact hp, tellHolder_level_of_ne s _ nofun⟩,
    tellHolder_deltas_mono s⟩

theorem slotGone_beside (z : Zone) (full : Option Zone) : BesidePath s (State.slotGone z full s) :=
  .of_sequencer (.of_eq rfl) rfl rfl fun _ hn => hn

/-! ### The claims after a report (R122, R144) -/

theorem claimDoor_beside : BesidePath s (claimDoor s) := by
  have hcond : (giveDemand (.auto none) (requestFan 0 s.doorTaken)).cond = s.cond := by
    simp [State.doorTaken, State.claimed]
  have hsvc : (claimDoor s).counter .svc = s.counter .svc :=
    (claimDoor_counter s .svc nofun (.inl rfl)).trans (doorTaken_counter s .svc nofun nofun nofun)
  obtain ⟨st, on, hd⟩ := claimDoor_sequencer s
  refine ⟨hsvc, by rw [hd], fun hp => ⟨by rw [hd]; exact hp, ?_⟩, fun n hn => ?_⟩
  · rw [claimDoor_eq, tellHolder_level_of_ne _ .defrostActive nofun, State.level, hcond]
    rfl
  · rw [claimDoor_eq]
    exact tellHolder_deltas_mono _ n (by rwa [hcond])

theorem claimDefrost_beside (h : s.defr.phase = .pending) : BesidePath s (claimDefrost s) := by
  have hset := setLevel_deltas_mono (s.claimed .defrost (s.effN (.saveMask .defrost))) .defrostActive true
  obtain ⟨-, hcount⟩ := enterFirstPhase_frostKept s.defrostTaken
  obtain ⟨-, hheater⟩ := enterFirstPhase_holdKept s.defrostTaken
  rw [claimDefrost_eq]
  refine ⟨?_, ?_, fun hp => absurd h hp, fun n hn => tellHolder_deltas_mono _ n ?_⟩
  · rw [tellHolder_counter _ .svc nofun, hcount .svc nofun (.inl rfl), defrostTaken_counter s .svc nofun]
  · rw [tellHolder_defr]
    exact hheater.trans (by rw [defrostTaken_defr])
  · rw [(enterFirstPhase_keeps _).2.2.2.2.2.2.1]
    exact hset n (by simpa [State.claimed] using hn)

theorem report_beside : BesidePath s (report s) := by
  have hown : ∀ o : Own, BesidePath (tellHolder s) { tellHolder s with own := o } := fun _ =>
    ⟨rfl, rfl, fun hp => ⟨hp, rfl⟩, fun _ hn => hn⟩
  have hpend : (tellHolder s).defrostReclaims = true → (tellHolder s).defr.phase = .pending := of_decide_eq_true
  refine (tellHolder_beside s).trans ?_
  unfold report
  dsimp only
  split
  · split
    · exact hown (tellHolder s).own
    · exact claimDoor_beside _
    · next h => exact claimDefrost_beside _ (hpend h)
    · next h =>
      split
      · exact (hown _).trans (claimDoor_beside _)
      · exact (hown _).trans (claimDefrost_beside _ (hpend h))
  · exact hown (tellHolder s).own

/-! ### SERVICE_HOLD after a report (R75) -/

theorem claimDoor_serviceHold : (claimDoor s).level .serviceHold = false := by
  rw [claimDoor_eq, tellHolder_serviceHold]
  simp [State.doorTaken, State.claimed]

theorem claimDefrost_serviceHold : (claimDefrost s).level .serviceHold = false := by
  rw [claimDefrost_eq, tellHolder_serviceHold, (enterFirstPhase_keeps _).2.2.2.2.1]
  simp [State.defrostTaken, State.claimed]

/-- R75: whoever holds the path after a report that SERVICE does not, SERVICE_HOLD is negated. -/
theorem report_serviceHold (h : s.arb.holder ≠ .service) : (report s).level .serviceHold = false := by
  have htell : (tellHolder s).level .serviceHold = false := by rw [tellHolder_serviceHold, decide_eq_false h]
  unfold report
  dsimp only
  split
  · split
    · exact htell
    · exact claimDoor_serviceHold _
    · exact claimDefrost_serviceHold _
    · split
      · exact claimDoor_serviceHold _
      · exact claimDefrost_serviceHold _
  · exact htell

theorem isFree_ne_service {h : Holder} (hf : h.isFree = true) : h ≠ .service := by
  rintro rfl
  cases hf

/-! ### A release, and the expiry of SLOT after it -/

theorem StopWaitResumed.ne_pending {x : State} (h : StopWaitResumed s x) : x.defr.phase ≠ .pending := by
  rw [h.1]
  split <;> decide

section

variable (hs : SettingsLaw s) (hk : s.defr.compState = s.comp.state) (hr : ResumeLaw s)

include hs hk hr

/-- R136: no resumed phase is PENDING. -/
theorem resumeDefrost_ne_pending (hp : s.phaseHeld) (h : s.defr.phase ≠ .pending) :
    (tellHolder (resumeDefrost s.popped)).defr.phase ≠ .pending := by
  obtain ⟨-, -, -, -, -, -, hpre, hlock, hwait, hheat, hdrip, hrecover, -⟩ := resumeDefrost_resumed s hs hk hp hr.of_preChill
  cases hph : s.defr.phase with
  | preChill =>
    by_cases hl : s.defr.compState = .lockout
    · exact (hlock hph hl).1.ne_pending
    · rw [(hpre hph hl).1]
      decide
  | stopWait => exact (hwait hph).1.ne_pending
  | heat => exact (hheat hph).1.ne_pending
  | drip =>
    rw [(hdrip hph).1]
    decide
  | recover =>
    rw [(hrecover hph).1]
    decide
  | pending => exact absurd hph h
  | idle =>
    rw [resumeDefrost_eq, hph, tellHolder_defr]
    show s.defr.phase ≠ .pending
    exact h

theorem resumeDefrost_beside (hp : s.phaseHeld) : BesidePath s (tellHolder (resumeDefrost s.popped)) := by
  obtain ⟨⟨-, hcount⟩, -, hheater, -, -⟩ := resumeDefrost_kept s hs hk hp
  have hcond : (resumeDefrost s.popped).cond = s.cond := by simp [State.popped, dropTop]
  refine ⟨?_, ?_, fun hph => ⟨resumeDefrost_ne_pending s hs hk hr hp hph, ?_⟩, fun n hn => tellHolder_deltas_mono _ n ?_⟩
  · exact (tellHolder_counter _ .svc nofun).trans (hcount .svc nofun (.inl rfl))
  · rw [tellHolder_defr]
    exact hheater
  · rw [tellHolder_level_of_ne _ .defrostActive nofun, State.level, hcond]
    rfl
  · rwa [hcond]

theorem releasePath_beside (hp : (∃ mask rest, s.arb.stack = .defrost mask :: rest) → s.phaseHeld) :
    BesidePath s (releasePath s) := by
  have hnobody : BesidePath s (setHolder .nobody s) := .of_sequencer (.of_eq rfl) rfl rfl fun _ hn => hn
  have hpop : BesidePath s s.popped := .of_sequencer (.of_eq rfl) rfl rfl fun _ hn => hn
  cases hst : s.arb.stack with
  | nil =>
    rw [releasePath_of_nil s hst]
    exact hnobody.trans ((arbitrate_beside _).trans (report_beside _))
  | cons f rest =>
    cases f with
    | slot mask z phase fixed remaining snapshot =>
      rw [releasePath_of_slot s hst]
      refine hpop.trans (.trans ?_ (report_beside _))
      unfold popSlot
      split
      · exact resumeSlot_beside _ _ _ _ _ _
      · rw [popped_eq s hst, endSlot_eq_slotGone]
        exact .trans (t := State.slotGone z none { s with arb := { s.arb with stack := rest } })
          (.of_sequencer (.of_eq rfl) rfl rfl fun _ h => h) (arbitrate_beside _)
    | door mask =>
      have hcond : (giveDoorOutputs (setHolder .door s.popped)).cond = s.cond := by simp [State.popped, dropTop]
      obtain ⟨st, on, hd⟩ := doorResumed_sequencer s
      rw [releasePath_of_door s hst]
      refine ⟨doorResumed_counter s .svc rfl nofun, by rw [← State.doorResumed, hd],
        fun h => ⟨by rw [← State.doorResumed, hd]; exact h, ?_⟩, fun n hn => tellHolder_deltas_mono _ n (by rwa [hcond])⟩
      rw [tellHolder_level_of_ne _ .defrostActive nofun, State.level, hcond]
      rfl
    | defrost mask =>
      rw [releasePath_of_defrost s hst, report_of_held _ (by rw [resumeDefrost_arb]; rfl)]
      exact resumeDefrost_beside s hs hk hr (hp ⟨mask, rest, hst⟩)

end

theorem releasePath_serviceHold : (releasePath s).level .serviceHold = false := by
  cases hst : s.arb.stack with
  | nil =>
    rw [releasePath_of_nil s hst]
    exact report_serviceHold _ (isFree_ne_service (arbitrate_isFree _))
  | cons f rest =>
    cases f with
    | slot mask z phase fixed remaining snapshot =>
      rw [releasePath_of_slot s hst]
      refine report_serviceHold _ (isFree_ne_service ?_)
      unfold popSlot
      split
      · exact resumeSlot_isFree _ _ _ _ _ _
      · exact arbitrate_isFree _
    | door mask =>
      rw [releasePath_of_door s hst, tellHolder_serviceHold]
      simp
    | defrost mask =>
      rw [releasePath_of_defrost s hst]
      exact report_serviceHold _ (by rw [resumeDefrost_arb]; simp)

/-- R53 to R56: the expiry of SLOT leaves the state, begins EXTEND, or ends the slot. -/
theorem onSlotExpiry_cases :
    onSlotExpiry s = s ∨
      (∃ r n, n ≠ 0 ∧ onSlotExpiry s = (setHolder (.slot r) s).restartC .slot n) ∨
      ∃ r z full, s.arb.holder = .slot r ∧ onSlotExpiry s = report (arbitrate (State.slotGone z full s)) := by
  have hend : ∀ {r}, s.arb.holder = .slot r → ∀ z full, ∃ z' full', s.arb.holder = .slot r ∧
      report (endHeldSlot z full s) = report (arbitrate (State.slotGone z' full' s)) :=
    fun hr z full => ⟨z, _, hr, by rw [endHeldSlot_eq]⟩
  unfold onSlotExpiry
  split
  · next r hr =>
    split
    · exact .inr (.inr ⟨r, hend hr _ _⟩)
    · split_ifs with hf hc hn
      · exact .inr (.inr ⟨r, hend hr _ _⟩)
      · exact .inr (.inr ⟨r, hend hr _ _⟩)
      · exact .inr (.inr ⟨r, hend hr _ _⟩)
      · exact .inr (.inl ⟨_, _, hn, rfl⟩)
  all_goals exact .inl rfl

theorem onSlotExpiry_beside : BesidePath s (onSlotExpiry s) := by
  rcases onSlotExpiry_cases s with he | ⟨r, n, -, he⟩ | ⟨-, z, full, -, he⟩ <;> rw [he]
  · exact ⟨rfl, rfl, fun h => ⟨h, rfl⟩, fun _ h => h⟩
  · refine .of_sequencer (.of_eq (by simp)) ?_ (by simp) fun n hn => by simpa using hn
    exact State.counter_restartC_of_ne _ _ _ _ nofun
  · exact (slotGone_beside s z full).trans ((arbitrate_beside _).trans (report_beside _))

theorem onSlotExpiry_serviceHold (h : s.level .serviceHold = false) : (onSlotExpiry s).level .serviceHold = false := by
  rcases onSlotExpiry_cases s with he | ⟨r, n, -, he⟩ | ⟨-, z, full, -, he⟩ <;> rw [he]
  · exact h
  · simpa [State.level] using h
  · exact report_serviceHold _ (isFree_ne_service (arbitrate_isFree _))

/-- R155: an expiry of SLOT signals no further one. -/
theorem onSlotExpiry_own (hs : SettingsLaw s)
    (hr : ∀ r, s.arb.holder = .slot r → s.defr.phase = .pending → s.defr.resumeHeat = false) :
    (onSlotExpiry s).own.signalled = s.own.signalled := by
  rcases onSlotExpiry_cases s with he | ⟨r, n, hn, he⟩ | ⟨r, z, full, hslot, he⟩ <;> rw [he]
  · rw [State.restartC_own _ _ _ hn]
    rfl
  · set w := State.slotGone z full s with hw
    have hset : SettingsLaw w := hs
    obtain ⟨-, -, -, -, -, hp, -, hres, -⟩ := arbitrate_pathOnly w
    rw [report_own _ (hset.congr (by simp)) fun h => ?_, arbitrate_own w hset]
    · rfl
    · rw [hres]
      rw [hp] at h
      exact hr r hslot h

end

end Sys2Proof.Machine

/-! What a release of the path leaves (R70, R71, R72), as the end of an event and as the effect of an order, with the expiry
of SLOT that it may signal (R155). -/

namespace Sys2Proof.Machine

section

variable (s : State)

/-! ### The release, by the top of the stack -/

theorem maskHasTime_iff (mask : Nat) : maskHasTime mask = true ↔ mask / 2 % 2 = 1 := by simp [maskHasTime]

/-- R50, R58: arbitration, and the claims after it. -/
theorem report_arbitrate_claims (hs : SettingsLaw s) (hk : s.defr.compState = s.comp.state) :
    ∃ u, Arbitrated s u ∧ PathOnly s u ∧ ClaimsMade u (report (arbitrate s)) :=
  ⟨s.settledPath, settledPath_arbitrated s hs, settledPath_pathOnly s,
    report_claims _ (hs.congr (by simp)) (arbitrate_known s hk) (arbitrate_isFree s)⟩

section

variable (hs : SettingsLaw s) (hk : s.defr.compState = s.comp.state)

include hs hk

/-- R71: a SLOT frame resumes with TIME in its mask and its zone calling. -/
theorem releasePath_slot_resumed {mask : Nat} {z : Zone} {phase : SlotPhase} {fixed : Bool} {remaining : Nat}
    {snapshot : Option Route} {rest : List SuspFrame}
    (hst : s.arb.stack = .slot mask z phase fixed remaining snapshot :: rest) (ht : mask / 2 % 2 = 1)
    (hc : (s.zone z).calling = true) (hn : remaining ≠ 0) :
    ∃ u, SlotResumed z phase fixed remaining snapshot rest s u ∧ PathOnly s u ∧ ClaimsMade u (releasePath s) := by
  have hset : SettingsLaw s.popped := hs
  have hstack : s.popped.arb.stack = rest := by rw [popped_arb, hst]; rfl
  have hpop : popSlot mask z phase fixed remaining snapshot s.popped =
      resumeSlot z phase fixed remaining snapshot s.popped := by
    have hcall : (s.popped.zone z).calling = true := hc
    unfold popSlot
    rw [(maskHasTime_iff mask).mpr ht, hcall]
    rfl
  have hfree := resumeSlot_isFree s.popped z phase fixed remaining snapshot
  have hresumed := resumeSlot_resumed s.popped z phase fixed remaining snapshot hset hn
  rw [hstack] at hresumed
  rw [releasePath_of_slot s hst, hpop]
  exact ⟨tellHolder (resumeSlot z phase fixed remaining snapshot s.popped), hresumed,
    (resumeSlot_pathOnly s.popped z phase fixed remaining snapshot).trans (tellHolder_pathOnly _ hfree),
    report_claims _ (hset.congr (by simp)) (resumeSlot_known s.popped z phase fixed remaining snapshot hk) hfree⟩

omit hs hk in
/-- R71: a SLOT frame is dropped without TIME in its mask or with its zone not calling. -/
theorem releasePath_slot_dropped {mask : Nat} {z : Zone} {phase : SlotPhase} {fixed : Bool} {remaining : Nat}
    {snapshot : Option Route} {rest : List SuspFrame}
    (hst : s.arb.stack = .slot mask z phase fixed remaining snapshot :: rest)
    (hd : mask / 2 % 2 = 0 ∨ (s.zone z).calling = false) :
    releasePath s = report (arbitrate (State.slotGone z none { s with arb := { s.arb with stack := rest } })) := by
  have hpop : popSlot mask z phase fixed remaining snapshot s.popped = arbitrate (endSlot z false s.popped) := by
    have hcond : (maskHasTime mask && (s.popped.zone z).calling) = false := by
      rcases hd with hd | hd
      · have hno : maskHasTime mask = false := Bool.eq_false_of_not_eq_true fun h => by
          rw [maskHasTime_iff] at h
          omega
        rw [hno, Bool.false_and]
      · have hcall : (s.popped.zone z).calling = false := hd
        rw [hcall, Bool.and_false]
    unfold popSlot
    rw [hcond]
    rfl
  rw [releasePath_of_slot s hst, hpop, popped_eq s hst, endSlot_eq_slotGone]
  rfl

/-- R70, R71, R72: a release of the path. -/
theorem releasePath_released (hr : ResumeLaw s) (hp : (∃ mask rest, s.arb.stack = .defrost mask :: rest) → s.phaseHeld) :
    PathReleased s (releasePath s) := by
  refine ⟨fun hst => ?_, fun mask z phase fixed remaining snapshot rest hst => ⟨fun ht hc hn => ?_, fun hd w hw => ?_⟩,
    fun mask rest hst => ?_, fun mask rest hst => ?_⟩
  · rw [releasePath_of_nil s hst]
    exact report_arbitrate_claims (setHolder .nobody s) hs hk
  · exact releasePath_slot_resumed s hs hk hst ht hc hn
  · subst hw
    rw [releasePath_slot_dropped s hst hd]
    exact report_arbitrate_claims _ hs hk
  · obtain ⟨hdampers, hfan, hdemand⟩ := doorResumed_outputs s hs
    rw [releasePath_of_door s hst]
    refine ⟨?_, hdampers, hfan, hdemand, doorResumed_counter s .pause rfl nofun, doorResumed_doors s⟩
    rw [← State.doorResumed, doorResumed_arb, hst]
    rfl
  · have hresumed := resumeDefrost_resumed s hs hk (hp ⟨mask, rest, hst⟩) hr.of_preChill
    rw [releasePath_of_defrost s hst, report_of_held _ (by rw [resumeDefrost_arb]; rfl)]
    rwa [hst] at hresumed

end

/-! ### The expiry of SLOT that a release can signal (R71, R155) -/

theorem startC_signalled (i : CounterId) :
    (s.startC i).own.signalled = s.own.signalled ∨ (s.startC i).own.signalled = s.own.signalled ++ [i] := by
  unfold State.startC
  dsimp only
  split
  · exact .inr rfl
  · exact .inl rfl

theorem placeSlot_signalled (r : Slot) (hs : SettingsLaw s) :
    (placeSlot r s).own.signalled = s.own.signalled ∨ (placeSlot r s).own.signalled = s.own.signalled ++ [.slot] := by
  obtain ⟨u, he, hu⟩ := placeSlot_eq s r
  have hset : u.settings = s.settings := by subst hu; split <;> simp
  rw [he, giveDemand_own _ _ (hs.congr (by simp [hset])), requestFan_own, hu]
  split
  · exact startC_signalled (setHolder _ (giveOpenings _ _ s)) .slot
  · exact .inl rfl

/-- R50: a slot that still holds the path after a report has met no claim. -/
theorem report_of_slot {r : Slot} (h : (report s).arb.holder = .slot r) : report s = tellHolder s := by
  have hdoor : ∀ u, (claimDoor u).arb.holder ≠ .slot r := fun u => by
    rw [claimDoor_eq]
    simp [State.doorTaken, State.claimed]
  have hdefrost : ∀ u, (claimDefrost u).arb.holder ≠ .slot r := fun u => by
    rw [claimDefrost_eq, (tellHolder_keeps _).2.2.2.2.1, (enterFirstPhase_keeps _).2.2.2.2.1]
    simp [State.defrostTaken, State.claimed]
  revert h
  unfold report
  dsimp only
  split
  · split
    · exact fun _ => rfl
    · exact fun h => absurd h (hdoor _)
    · exact fun h => absurd h (hdefrost _)
    · split
      · exact fun h => absurd h (hdoor _)
      · exact fun h => absurd h (hdefrost _)
  · exact fun _ => rfl

/-- R122, R125: a PENDING defrost has no HEAT to resume. -/
theorem ResumeLaw.of_pending {s : State} (hr : ResumeLaw s) (h : s.defr.phase = .pending) : s.defr.resumeHeat = false :=
  hr.no_resume (by simp [h])

/-- R71, R155: a frame whose time is up already signals the expiry of SLOT as it resumes, and nothing is told of it then. -/
def ReleaseSignals (s : State) : Prop :=
  (releasePath s).own.signalled = s.own.signalled ++ [.slot] ∧ (∀ t, PathReleased s t) ∧
    ∀ r, (releasePath s).arb.holder = .slot r → (releasePath s).defr.phase = .pending →
      (releasePath s).defr.resumeHeat = false

section

variable (hs : SettingsLaw s) (hr : ResumeLaw s)

include hs hr

theorem report_arbitrate_own : (report (arbitrate s)).own.signalled = s.own.signalled := by
  obtain ⟨-, -, -, -, -, hp, -, hres, -⟩ := arbitrate_pathOnly s
  rw [report_own _ (hs.congr (by simp)) fun h => ?_, arbitrate_own s hs]
  rw [hres]
  rw [hp] at h
  exact hr.of_pending h

theorem releasePath_slot_signals {mask : Nat} {z : Zone} {phase : SlotPhase} {fixed : Bool} {remaining : Nat}
    {snapshot : Option Route} {rest : List SuspFrame}
    (hst : s.arb.stack = .slot mask z phase fixed remaining snapshot :: rest) :
    (releasePath s).own.signalled = s.own.signalled ∨ ReleaseSignals s := by
  by_cases hd : mask / 2 % 2 = 0 ∨ (s.zone z).calling = false
  · rw [releasePath_slot_dropped s hst hd]
    exact .inl (report_arbitrate_own _ hs hr)
  · obtain ⟨ht, hc⟩ := not_or.mp hd
    have ht : mask / 2 % 2 = 1 := by omega
    have hc : (s.zone z).calling = true := Bool.eq_true_of_not_eq_false hc
    set y := resumeSlot z phase fixed remaining snapshot s.popped with hy
    have hrel : releasePath s = report y := by
      have hcall : (s.popped.zone z).calling = true := hc
      rw [releasePath_of_slot s hst, popSlot, (maskHasTime_iff mask).mpr ht, hcall]
      rfl
    obtain ⟨hset, -, -, -, -, hp, -, hres, -⟩ := resumeSlot_pathOnly s.popped z phase fixed remaining snapshot
    rw [← hy] at hset hp hres
    have hset : SettingsLaw y := hs.congr hset
    have hpend : y.defr.phase = .pending → y.defr.resumeHeat = false := fun h => by
      rw [hres]
      rw [hp] at h
      exact hr.of_pending h
    have hown := report_own y hset hpend
    by_cases hn : remaining = 0
    · subst hn
      have hplaced : y.own.signalled = s.own.signalled ∨ y.own.signalled = s.own.signalled ++ [.slot] := by
        have hsame := resuming_same s.popped 0 snapshot (s.popped.resumedSlot z phase fixed snapshot false)
        have h := placeSlot_signalled _ (s.popped.resumedSlot z phase fixed snapshot false)
          (SettingsLaw.congr (s := s) hs hsame.drive.settings)
        rwa [← resumeSlot_eq, resuming_own] at h
      rw [← hrel] at hown
      rcases hplaced with h | h
      · exact .inl (hown.trans h)
      · refine .inr ⟨hown.trans h, fun t => ?_, fun r hslot => ?_⟩
        · refine ⟨fun hnil => ?_, fun _ _ _ _ _ _ _ h' => ⟨fun _ _ hne => ?_, fun hno => ?_⟩, fun _ _ h' => ?_,
            fun _ _ h' => ?_⟩
          all_goals simp_all
        · rw [hrel] at hslot ⊢
          rw [report_of_slot y hslot, tellHolder_defr]
          exact hpend
    · rw [hrel]
      exact .inl (hown.trans (by rw [hy, resumeSlot_own s.popped _ _ _ _ _ hs hn]; rfl))

theorem releasePath_signalled (hk : s.defr.compState = s.comp.state)
    (hp : (∃ mask rest, s.arb.stack = .defrost mask :: rest) → s.phaseHeld) :
    (releasePath s).own.signalled = s.own.signalled ∨ ReleaseSignals s := by
  cases hst : s.arb.stack with
  | nil =>
    rw [releasePath_of_nil s hst]
    exact .inl (report_arbitrate_own (setHolder .nobody s) hs hr)
  | cons f rest =>
    cases f with
    | slot mask z phase fixed remaining snapshot => exact releasePath_slot_signals s hs hr hst
    | door mask =>
      rw [releasePath_of_door s hst, ← State.doorResumed, doorResumed_own s hs]
      exact .inl rfl
    | defrost mask =>
      have hkept := resumeDefrost_kept s hs hk (hp ⟨mask, rest, hst⟩)
      rw [releasePath_of_defrost s hst, report_of_held _ (by rw [resumeDefrost_arb]; rfl),
        tellHolder_own _ (hs.congr (by simp [State.popped, dropTop])), hkept.own]
      exact .inl rfl

end

/-! ### The release as the end of a step -/

/-- R155: the one expiry of SLOT that is signalled is taken, and no further one follows. -/
theorem drainAll_of_slot (hsig : s.own.signalled = [.slot]) (hs : SettingsLaw s)
    (hr : ∀ r, s.arb.holder = .slot r → s.defr.phase = .pending → s.defr.resumeHeat = false) :
    drainAll s = onSlotExpiry { s with own := { s.own with signalled := [] } } ∧ (drainAll s).own.signalled = [] := by
  have hown := onSlotExpiry_own { s with own := { s.own with signalled := [] } } hs hr
  have he : drainAll s = onSlotExpiry { s with own := { s.own with signalled := [] } } := by
    have hquiet : (onSlotExpiry { s with own := { s.own with signalled := [] } }).own.signalled = [] := hown
    show drain 4 s = _
    rw [drain, hsig]
    simp [onExpiry, drain, hquiet]
  exact ⟨he, by rw [he]; exact hown⟩

theorem eq_withLink {l l' : Link} (x : State) (h : x.link = l) : x = { ({ x with link := l' } : State) with link := l } := by
  subst h
  rfl

/-- What the end of a release leaves in SVC, in the service heater command and in the conditions. -/
def ReleaseLeaves (s t : State) : Prop := PathReleased s t ∧ BesidePath s t ∧ t.level .serviceHold = false

section

variable (hs : SettingsLaw s) (hk : s.defr.compState = s.comp.state) (hr : ResumeLaw s)
  (hp : (∃ mask rest, s.arb.stack = .defrost mask :: rest) → s.phaseHeld)

include hs hk hr hp

theorem releasePath_leaves : ReleaseLeaves s (releasePath s) :=
  ⟨releasePath_released s hs hk hr hp, releasePath_beside s hs hk hr hp, releasePath_serviceHold s⟩

/-- R155: the step in which the path is released, with the link left as `l`: what its drain of expiries leaves. -/
theorem drained_release (hq : s.own.signalled = []) (l : Link) :
    ∃ t, drainAll { releasePath s with link := l } = { t with link := l } ∧ t.link = s.link ∧ ReleaseLeaves s t ∧
      t.own.signalled = [] := by
  have hlink : (releasePath s).link = s.link := by simp
  rcases releasePath_signalled s hs hr hk hp with hown | ⟨hown, hvacuous, hpend⟩ <;> rw [hq] at hown
  · exact ⟨releasePath s, drainAll_of_quiet _ hown, hlink, releasePath_leaves s hs hk hr hp, hown⟩
  · have hset : SettingsLaw { releasePath s with link := l } := hs.congr (releasePath_keeps s).2.1
    obtain ⟨hdrain, hquiet⟩ := drainAll_of_slot { releasePath s with link := l } hown hset hpend
    have hl : (drainAll { releasePath s with link := l }).link = l := (drainAll_keeps _).2.2
    have hbase : BesidePath s { releasePath s with link := l, own := { (releasePath s).own with signalled := [] } } :=
      .trans (releasePath_beside s hs hk hr hp) ⟨rfl, rfl, fun h => ⟨h, rfl⟩, fun _ h => h⟩
    have hbeside := hbase.trans (onSlotExpiry_beside _)
    have hhold := onSlotExpiry_serviceHold
      { releasePath s with link := l, own := { (releasePath s).own with signalled := [] } } (releasePath_serviceHold s)
    rw [← hdrain] at hbeside hhold
    refine ⟨{ drainAll { releasePath s with link := l } with link := s.link }, ?_, rfl, ⟨hvacuous _, ?_, hhold⟩, hquiet⟩
    · exact eq_withLink _ hl
    · exact hbeside.trans ⟨rfl, rfl, fun h => ⟨h, rfl⟩, fun _ h => h⟩

/-- R70: an event that ends in a release of the path. -/
theorem finish_released (hst : Settled s) :
    ∃ t, finish (releasePath s) = startNote t ∧ ReleaseLeaves s t := by
  obtain ⟨t, hdrain, hlink, hleaves, hquiet⟩ := drained_release s hs hk hr hp hst.1 s.link
  have hback : ({ t with link := s.link } : State) = t := by rw [← hlink]
  have hrel : ({ releasePath s with link := s.link } : State) = releasePath s := by
    rw [show s.link = (releasePath s).link by simp]
  rw [hback, hrel] at hdrain
  refine ⟨t, ?_, hleaves⟩
  have hsettled : Settled t := hst.of_eq hlink (hquiet.trans hst.1.symm)
  rw [← finish_of_settled t hsettled, finish, finish, hdrain, drainAll_of_quiet t hquiet]

/-- R70, R177: an order that ends in a release of the path. -/
theorem submit_order_released (s₀ : State) (tag : Byte) (o : Order) (ha : Accepting s₀)
    (ho : doOrder o s₀ = (.ok, releasePath s)) (hq : s.own.signalled = []) :
    ∃ t, submit (orderFrame tag o) s₀ = replied ⟨0x04#8, tag, [o.code]⟩ (.ok [o.code]) t ∧ ReleaseLeaves s t := by
  set r := replyTo (orderFrame tag o) (.ok [o.code]) with hr'
  obtain ⟨t, hdrain, hlink, hleaves, -⟩ := drained_release s hs hk hr hp hq
    { s.link with replies := s.link.replies ++ [r] }
  have hp : performFrame (orderFrame tag o) s₀ = (.ok [o.code], releasePath s) := by
    have hread : checkFrame (orderFrame tag o) = .request (.order o.code) := checkFrame_order tag o.code
    simp only [performFrame, hread]
    rw [perform_order, ho]
    rfl
  have htake : takeFrame (orderFrame tag o) s₀ =
      { releasePath s with link := { s.link with replies := s.link.replies ++ [r] } } := by
    have hl : (releasePath s).link = s.link := by simp
    unfold takeFrame
    rw [hp]
    show { releasePath s with link := { (releasePath s).link with replies := (releasePath s).link.replies ++ [r] } } = _
    rw [hl]
  refine ⟨t, ?_, hleaves⟩
  rw [submit_of_accepting _ s₀ ha, htake, hdrain, ← hlink]
  rfl

end

end

end Sys2Proof.Machine

/-! The end of a service hold: RELEASE and the SVC expiry (R70 to R72, R75). -/

namespace Sys2Proof.Machine

section

variable (s : State)

/-! ### What a release does not read -/

variable {s} in
/-- R75: a release reads neither SVC nor the service heater command. -/
theorem PathReleased.of_serviceGone {t : State} {c : Counter} {b : Bool}
    (h : PathReleased { s with defr := { s.defr with svcHeater := b }, bank := s.bank.set .svc c } t) :
    PathReleased s t := by
  obtain ⟨hnil, hslot, hdoor, hdefrost⟩ := h
  refine ⟨hnil, fun mask z phase fixed remaining snapshot rest hst => ⟨?_, ?_⟩, hdoor, hdefrost⟩
  · exact (hslot mask z phase fixed remaining snapshot rest hst).1
  · rintro hd w rfl
    obtain ⟨u, harb, hpath, hclaims⟩ := (hslot mask z phase fixed remaining snapshot rest hst).2 hd _ rfl
    exact ⟨u, harb, hpath, hclaims⟩

/-! ### A settled path with nobody or a slot (R49, R58, R60) -/

theorem settledPath_heaterDrive : s.settledPath.defr.heaterDrive = false := by
  rw [State.settledPath, tellHolder_defr]
  exact heaterWanted_of_free _ (arbitrate_isFree s)

theorem settledPath_serviceHold : s.settledPath.level .serviceHold = false := by
  rw [State.settledPath, tellHolder_serviceHold]
  exact decide_eq_false (isFree_ne_service (arbitrate_isFree s))

theorem settledPath_beside : BesidePath s s.settledPath := (arbitrate_beside s).trans (tellHolder_beside _)

/-- R60: IDLE is settled where no zone is chosen and no commit waits. -/
theorem settledPath_idle (hs : SettingsLaw s) (hc : s.choice = none) (hp : s.arb.commitPending = false) :
    s.settledPath.arb = { s.arb with holder := .nobody, fullEnd := none } ∧
      s.settledPath.air.fan.requested = s.arb.active.idle.fanDuty ∧
      (s.settledPath.damper .fresh).target = (s.arb.active.idle.freshOpen * 480 + 50) / 100 ∧
      (s.settledPath.damper .chill).target = (s.arb.active.idle.chillOpen * 480 + 50) / 100 ∧
      s.settledPath.comp.demand = .auto none := by
  obtain ⟨-, harb, ⟨hfresh, hchill⟩, hfan, hdemand⟩ :=
    (settledPath_arbitrated s hs).1 hc s.arb.active (by simp [hp])
  refine ⟨?_, hfan.requested, hfresh.target, hchill.target, hdemand.demand⟩
  rw [harb, ← hp]

/-- R58, R60: which of the two is settled, with the slot's route and its WAIT counter. -/
theorem settledPath_holder (hs : SettingsLaw s) :
    s.settledPath.arb.fullEnd = none ∧ s.settledPath.arb.stack = s.arb.stack ∧
      (s.settledPath.arb.holder = .nobody ↔ ∀ z, (s.zone z).calling = false) ∧
      (s.settledPath.arb.holder ≠ .nobody → ∃ r, s.settledPath.arb.holder = .slot r ∧ (s.zone r.zone).calling = true ∧
        r.phase = .min ∧ r.route = s.settledPath.arb.active.zone r.zone ∧ s.settledPath.arb.lastServed = r.zone ∧
        (s.settledPath.counter (.wait r.zone)).run = false) := by
  have hnone := choice_eq_none_iff (s := s)
  have harb := settledPath_arb s
  cases hc : s.choice with
  | none =>
    rw [arbitrate_arb_of_none s hc] at harb
    rw [harb]
    exact ⟨rfl, rfl, ⟨fun _ => hnone.mp hc, fun _ => rfl⟩, fun h => absurd rfl h⟩
  | some z =>
    have hwait := ((settledPath_arbitrated s hs).2 z hc _ _ _ _ rfl rfl rfl rfl).2.2.1
    rw [arbitrate_arb_of_some s hc] at harb
    rw [harb]
    refine ⟨rfl, rfl, ⟨nofun, fun h => ?_⟩, fun _ => ⟨_, rfl, s.choice_calling hc, rfl, rfl, rfl, ?_⟩⟩
    · rw [hnone.mpr h] at hc
      cases hc
    · show (s.settledPath.counter (.wait z)).run = false
      rw [hwait]
      exact Counter.stop_run _

/-! ### The end of a slot (R56) -/

theorem slotGone_wait (z : Zone) (full : Option Zone) : (State.slotGone z full s).counter (.wait z) =
    { s.counter (.wait z) with run := true, count := 0, saturated := false, part := 0 } := by
  simp [State.slotGone, State.counter]

theorem slotGone_counter (z : Zone) (full : Option Zone) (j : CounterId) (hj : j ≠ .slot) (hw : j ≠ .wait z) :
    (State.slotGone z full s).counter j = s.counter j := by
  simp [State.slotGone, State.counter, Bank.get_set_of_ne, hj, hw]

/-! ### The end of the hold (R75) -/

/-- R75, R113: the state in which SERVICE releases the path: SVC left as `c`, the service heater command lapsed. -/
def State.holdEnded (c : Counter) (s : State) : State :=
  { s with defr := { s.defr with svcHeater := false }, bank := s.bank.set .svc c }

theorem holdEnded_svc (c : Counter) : (s.holdEnded c).counter .svc = c := by simp [State.holdEnded, State.counter]

theorem orderRelease_of_service (h : s.arb.holder = .service) :
    doOrder .release s = (.ok, releasePath (s.holdEnded (s.counter .svc).stop)) := by
  show orderRelease s = _
  unfold orderRelease
  rw [if_pos h]
  rfl

theorem exec_svcExpiry (h : s.arb.holder = .service) (hr : (s.counter .svc).run = true) :
    exec .svcExpiry s = .next (finish (releasePath
      (s.holdEnded { s.counter .svc with run := false, count := 0, part := 0 }))) := by
  show Host.Outcome.next (finish (fireOneShot .svc onSvcExpiry s)) = _
  rw [fireOneShot_of_run _ _ _ hr]
  exact congrArg (fun u => Host.Outcome.next (finish u)) (if_pos h)

variable {s} in
/-- R75: what the end of a hold leaves, told of the state before it. -/
theorem ReleaseLeaves.of_holdEnded {t : State} {c : Counter} (h : ReleaseLeaves (s.holdEnded c) t) (hc : c.run = false) :
    PathReleased s t ∧ (t.counter .svc).run = false ∧ t.level .serviceHold = false ∧ t.defr.svcHeater = false := by
  obtain ⟨hrel, hbeside, hhold⟩ := h
  refine ⟨hrel.of_serviceGone, ?_, hhold, hbeside.svcHeater⟩
  rw [hbeside.svc, holdEnded_svc, hc]

/-- R70, R75: with nothing on the stack and no claim waiting, arbitration is the end of the hold. -/
theorem releasePath_settled (h : s.arb.stack = []) (hn : NoClaimWaits s) :
    releasePath s = (setHolder .nobody s).settledPath := by
  rw [releasePath_of_nil s h, report_arbitrate (setHolder .nobody s) hn]

end

/-- R70, R75: RELEASE of an empty stack with no claim waiting. -/
theorem release_settled (s : State) (tag : Byte) (ha : Accepting s) (hs : SettingsLaw s) (hh : s.arb.holder = .service)
    (hst : s.arb.stack = []) (hn : NoClaimWaits s) :
    exec (.release tag) s = .next (replied ⟨0x04#8, tag, [0x04#8]⟩ (.ok [0x04#8])
      (setHolder .nobody (s.holdEnded (s.counter .svc).stop)).settledPath) := by
  refine congrArg Host.Outcome.next (submit_order_ok s tag .release ha ?_ ?_)
  · rw [orderRelease_of_service s hh, releasePath_settled (s.holdEnded (s.counter .svc).stop) hst hn]
  · rw [settledPath_own (setHolder .nobody (s.holdEnded (s.counter .svc).stop)) hs]
    exact ha.1

/-- Settles O22: the refusal, the empty stack by what arbitration settles, and the stack by its top. -/
theorem releaseEndsTheHold : Obligations.ReleaseEndsTheHold := by
  unfold Obligations.ReleaseEndsTheHold
  refine ⟨fun tag s ha hs => ⟨fun hh => ?_, fun hh hst hn => ?_⟩, fun tag s ha hs hh hst hn => ?_,
    fun tag s ha hs hheat hres hh hp => ?_⟩
  · exact congrArg Host.Outcome.next (submit_order_refused s tag .release _ ha (by simp [doOrder, orderRelease, hh]) rfl)
  · set w := setHolder .nobody (s.holdEnded (s.counter .svc).stop) with hw
    have hset : SettingsLaw w := hs
    obtain ⟨hfull, hstack, hnobody, hslot⟩ := settledPath_holder w hset
    obtain ⟨hpset, hpz, hpsc, hpl, hpd, hpp, hpf, -, hpg, -⟩ := settledPath_pathOnly w
    obtain ⟨hsvc, hheater, -, -⟩ := settledPath_beside w
    refine ⟨w.settledPath, release_settled s tag ha hs hh hst hn, ?_, settledPath_serviceHold w, hheater,
      settledPath_heaterDrive w, hstack.trans hst, hfull, hnobody, hslot, hpg, hpp, hpf, by rw [hpd]; rfl, hpset, hpz, hpsc,
      hpl⟩
    rw [hsvc]
    show ((s.holdEnded (s.counter .svc).stop).counter .svc).run = false
    rw [holdEnded_svc, Counter.stop_run]
  · obtain ⟨hidle, hslot⟩ := settledPath_arbitrated (setHolder .nobody (s.holdEnded (s.counter .svc).stop)) hs
    exact ⟨_, release_settled s tag ha hs hh hst hn, hidle, hslot⟩
  · obtain ⟨t, hsub, hleaves⟩ := submit_order_released (s.holdEnded (s.counter .svc).stop) hs hheat.1 hres hp s tag
      .release ha (orderRelease_of_service s hh) ha.1
    obtain ⟨hrel, hsvc, hhold, hheater⟩ := hleaves.of_holdEnded (Counter.stop_run _)
    exact ⟨t, congrArg Host.Outcome.next hsub, hrel, hsvc, hhold, hheater⟩

/-- Settles O38: a SLOT frame that is dropped while no zone calls, and the stack by its top. -/
theorem svcExpiryEndsTheHold : Obligations.SvcExpiryEndsTheHold := by
  unfold Obligations.SvcExpiryEndsTheHold
  refine ⟨fun mask z p fixed remaining route s hst hs hn hh hstack hmask hcall hcommit hrun => ?_,
    fun s hst hs hheat hres hh hrun hp => ?_⟩
  · set v := s.holdEnded { s.counter .svc with run := false, count := 0, part := 0 } with hv
    set w := State.slotGone z none { v with arb := { v.arb with stack := [] } } with hw
    have hset : SettingsLaw w := hs
    have hzones : w.zones = s.zones := by
      show (if (s.zone z).subst = .timed then s.zones.set z { s.zone z with calling := false } else s.zones) = _
      split
      · exact zones_set_not_calling s z (hcall z)
      · rfl
    have hchoice : w.choice = none := choice_of_none_calling w fun y => by
      rw [State.zone_congr hzones y]
      exact hcall y
    have hrel : releasePath v = w.settledPath := by
      rw [releasePath_slot_dropped v hstack (.inl (by rcases hmask with rfl | rfl <;> rfl)), report_arbitrate w hn]
    obtain ⟨harb, -⟩ := settledPath_idle w hset hchoice hcommit
    obtain ⟨hpset, hpz, hpsc, hpl, hpd, -⟩ := settledPath_pathOnly w
    obtain ⟨hsvc, hheater, -, -⟩ := settledPath_beside w
    have hwait : ∀ y, w.settledPath.counter (.wait y) = w.counter (.wait y) := fun y =>
      settledPath_counter w _ (by simp [hchoice]) rfl nofun
    refine ⟨w.settledPath, ?_, harb, ?_, settledPath_serviceHold w, hheater, settledPath_heaterDrive w, ?_, ?_,
      fun y hy => ?_, hpset, hpz.trans hzones, hpsc, hpd, hpl⟩
    · rw [exec_svcExpiry s hh hrun, hrel, finish_of_settled]
      exact hst.of_eq hpl (by rw [settledPath_own w hset]; rfl)
    · rw [hsvc, hw, slotGone_counter _ _ _ .svc nofun nofun]
      exact congrArg Counter.run (holdEnded_svc s _)
    · rw [hwait, hw, slotGone_wait]
    · rw [hwait, hw, slotGone_wait]
    · rw [hwait, hw, slotGone_counter _ _ _ (.wait y) nofun (by simpa using hy)]
      rfl
  · obtain ⟨t, hfin, hleaves⟩ := finish_released (s.holdEnded { s.counter .svc with run := false, count := 0, part := 0 })
      hs hheat.1 hres hp hst
    obtain ⟨hrel, hsvc, hhold, hheater⟩ := hleaves.of_holdEnded rfl
    exact ⟨t, by rw [exec_svcExpiry s hh hrun, hfin], hrel, hsvc, hhold, hheater⟩

end Sys2Proof.Machine

/-! RELEASE pops a DOOR frame, or the frame of a suspended HEAT (R72, R136). -/

namespace Sys2Proof.Machine

section

variable {s t : State}

/-- R101: a compressor that is not RUNNING does not run after a demand to stop. -/
theorem DemandTaken.not_running (h : DemandTaken .stop s t) (hn : s.comp.state ≠ .running) : t.comp.state ≠ .running := by
  obtain ⟨hfault, hkept, -⟩ := h
  cases hst : s.comp.state with
  | faulted => rw [(hfault (.inl hst)).1]; simp [hst]
  | lockout => rw [(hfault (.inr hst)).1]; simp [hst]
  | off => rw [(hkept hst (.inl trivial)).1]; simp [hst]
  | running => exact absurd hst hn

/-- R105: a demand to stop waits for the minimum run. -/
theorem DemandTaken.held_running (h : DemandTaken .stop s t) (hr : s.comp.state = .running) (hg : s.comp.guard = .minOn) :
    t.comp.state = .running ∧ t.comp.stopHeld = true := by
  obtain ⟨-, -, -, -, hheld, -⟩ := h
  rw [(hheld hr trivial hg).1]
  exact ⟨hr, rfl⟩

end

theorem doorResumed_kept (s : State) : s.doorResumed.settings = s.settings ∧ s.doorResumed.zones = s.zones ∧
    s.doorResumed.scanner = s.scanner ∧ s.doorResumed.link = s.link := by
  simp [State.doorResumed, State.popped, dropTop]

/-- R132: DOOR holds with the heater off. -/
theorem doorResumed_heaterDrive (s : State) : s.doorResumed.defr.heaterDrive = false := by
  rw [State.doorResumed, tellHolder_defr]
  exact heaterWanted_of_holder _ (by simp) (by simp)

/-- Settles O23: the DOOR frame holds the path again; the HEAT frame goes on, or waits for the compressor. -/
theorem releaseResumesThePoppedFrame : Obligations.ReleaseResumesThePoppedFrame := by
  unfold Obligations.ReleaseResumesThePoppedFrame
  refine ⟨fun tag mask rest s ha hs hh hst => ?_, fun tag mask rest s ha hs hheat hh hst hph hrun hcount hstuck => ?_⟩
  · set v := s.holdEnded (s.counter .svc).stop with hv
    have hrel : releasePath v = v.doorResumed := releasePath_of_door v hst
    have hhold := releasePath_serviceHold v
    obtain ⟨hdampers, hfan, hdemand⟩ := doorResumed_outputs v hs
    obtain ⟨st, on, hd⟩ := doorResumed_sequencer v
    obtain ⟨hkset, hkz, hksc, hkl⟩ := doorResumed_kept v
    have hdoors := doorResumed_doors v
    have hcount := doorResumed_counter v
    rw [hrel] at hhold
    refine ⟨v.doorResumed, ?_, ?_, hdampers, hfan.requested, hdemand.demand, hhold, ?_, by rw [hd]; rfl,
      doorResumed_heaterDrive v, hcount .pause rfl nofun, hcount .settle rfl nofun, by rw [hdoors]; rfl,
      by rw [hdoors]; rfl, hkset, hkz, hksc, hkl⟩
    · refine congrArg Host.Outcome.next (submit_order_ok s tag .release ha ?_ ?_)
      · rw [orderRelease_of_service s hh, ← hv, hrel]
      · rw [doorResumed_own v hs]
        exact ha.1
    · have hstack : v.arb.stack.tail = rest := congrArg List.tail hst
      rw [doorResumed_arb, hstack]
      rfl
    · rw [hcount .svc rfl nofun, hv, holdEnded_svc, Counter.stop_run]
  · set v := s.holdEnded (s.counter .svc).stop with hv
    have hset : SettingsLaw v := hs
    have hheld : v.phaseHeld := ⟨hrun, hcount⟩
    have hvph : v.defr.phase = .heat := hph
    have hrel : releasePath v = tellHolder (resumeDefrost v.popped) := by
      rw [releasePath_of_defrost v hst, report_of_held _ (by rw [resumeDefrost_arb]; rfl)]
    have hhold := releasePath_serviceHold v
    obtain ⟨hfrost', -, -, -, hown⟩ := resumeDefrost_kept v hset hheat.1 hheld
    have hresumed := resumeDefrost_resumed v hset hheat.1 hheld (by simp [hvph])
    rw [hrel] at hhold
    set t := tellHolder (resumeDefrost v.popped) with ht
    obtain ⟨harb, hsusp, hfrost, -, -, hdrive, -, -, -, hheatr, -, -, -, htset, htz, htsc, htl⟩ := hresumed
    obtain ⟨⟨hphase, -, -, hdemand⟩, hbudget, hwaits, hgoes⟩ := hheatr hvph
    have hlevel : v.level .heaterStuck = false := hstuck
    rw [hlevel] at hdrive
    refine ⟨t, ?_, ?_, hsusp, hhold, ?_, hdemand.demand, hfrost, hbudget, fun hn => ?_, fun hr hg => ?_, htset, htz, htsc,
      htl⟩
    · refine congrArg Host.Outcome.next (submit_order_ok s tag .release ha ?_ ?_)
      · rw [orderRelease_of_service s hh, ← hv, hrel]
      · rw [ht, tellHolder_own _ (hset.congr (by simp [State.popped, dropTop])), hown]
        exact ha.1
    · have hstack : v.arb.stack.tail = rest := congrArg List.tail hst
      rw [harb, hstack]
      rfl
    · rw [ht, tellHolder_counter _ .svc nofun, hfrost'.2 .svc nofun (.inl rfl), hv, holdEnded_svc, Counter.stop_run]
    · have hstopped := hdemand.not_running hn
      rw [if_neg hstopped] at hphase
      obtain ⟨-, hc⟩ := hgoes hphase
      exact ⟨hphase, by simp [hdrive, hphase, hstopped], hc⟩
    · obtain ⟨hstate, hstop⟩ := hdemand.held_running hr hg
      rw [if_pos hstate] at hphase
      obtain ⟨hres, hc⟩ := hwaits hphase
      exact ⟨hphase, hres, by simp [hdrive, hphase], hc, hstop⟩

end Sys2Proof.Machine

/-! The defrost leaves the path (R73, R131, R134): ABORT_DEFROST by phase. -/

namespace Sys2Proof.Machine

section

variable {s t : State}

/-! ### A release that the defrost makes (R70, R131, R134) -/

/-- R70: with no DEFROST frame on the stack a release reads neither the conditions nor the heater drive. -/
theorem PathReleased.of_sequencerLeft {c : Conditions} {b b' : Bool} (hno : ∀ f ∈ s.arb.stack, f.isDefrost = false)
    (h : PathReleased { s with defr := { s.defr with suspended := b', heaterDrive := b }, cond := c } t) :
    PathReleased s t := by
  obtain ⟨hnil, hslot, hdoor, -⟩ := h
  refine ⟨hnil, fun mask z phase fixed remaining snapshot rest hst => ⟨?_, ?_⟩, hdoor, fun mask rest hst => ?_⟩
  · exact (hslot mask z phase fixed remaining snapshot rest hst).1
  · rintro hd w rfl
    obtain ⟨u, harb, hpath, hclaims⟩ := (hslot mask z phase fixed remaining snapshot rest hst).2 hd _ rfl
    exact ⟨u, harb, hpath, hclaims⟩
  · have := hno (.defrost mask) (by simp [hst])
    cases this

variable (s)

/-- R131, R134: the sequencer is IDLE and DEFROST_ACTIVE negated. -/
def State.defrostLeft (s : State) : State :=
  (setPhase .idle (s.onDefr fun d => { d with suspended := false })).setLevel .defrostActive false

theorem leaveDefrost_of_holding (hu : s.defr.suspended = false) (hh : s.arb.holder = .defrost) :
    leaveDefrost s = releasePath s.defrostLeft := by
  show (if s.defr.suspended then removeFrames SuspFrame.isDefrost s.defrostLeft
    else if s.defrostLeft.arb.holder = .defrost then releasePath s.defrostLeft else s.defrostLeft) = _
  rw [hu, if_neg (by decide)]
  exact if_pos hh

theorem leaveDefrost_of_suspended (hu : s.defr.suspended = true) :
    leaveDefrost s = removeFrames SuspFrame.isDefrost s.defrostLeft := by
  show (if s.defr.suspended then removeFrames SuspFrame.isDefrost s.defrostLeft
    else if s.defrostLeft.arb.holder = .defrost then releasePath s.defrostLeft else s.defrostLeft) = _
  rw [hu]
  rfl

theorem defrostLeft_active : s.defrostLeft.level .defrostActive = false := State.level_setLevel_self _ _ _

theorem defrostLeft_counter (j : CounterId) : s.defrostLeft.counter j = s.counter j := by
  simp [State.counter, State.defrostLeft]

theorem defrostLeft_defr : s.defrostLeft.defr.phase = .idle ∧ s.defrostLeft.defr.suspended = false ∧
    s.defrostLeft.defr.frost = s.defr.frost := by
  simp [State.defrostLeft, setPhase]

theorem defrostLeft_arb : s.defrostLeft.arb = s.arb := by simp [State.defrostLeft]

theorem defrostLeft_doors : s.defrostLeft.doors = s.doors := by simp [State.defrostLeft]

theorem defrostLeft_settings : s.defrostLeft.settings = s.settings := by simp [State.defrostLeft]

theorem defrostLeft_own : s.defrostLeft.own = s.own := by simp [State.defrostLeft]

theorem defrostLeft_known (h : s.defr.compState = s.comp.state) :
    s.defrostLeft.defr.compState = s.defrostLeft.comp.state := by
  simpa [State.defrostLeft, setPhase] using h

theorem defrostLeft_noFrame (hno : ∀ f ∈ s.arb.stack, f.isDefrost = false) :
    (∃ mask rest, s.defrostLeft.arb.stack = .defrost mask :: rest) → s.defrostLeft.phaseHeld := by
  rintro ⟨mask, rest, hst⟩
  rw [defrostLeft_arb] at hst
  have := hno (.defrost mask) (by simp [hst])
  cases this

theorem defrostLeft_resumeLaw (hr : s.defr.resumeHeat = false) : ResumeLaw s.defrostLeft := fun h => by
  have h : s.defr.resumeHeat = true := h
  rw [hr] at h
  cases h

variable {s} in
/-- R131, R134: what the release leaves that the defrost makes. -/
theorem ReleaseLeaves.of_defrostLeft (h : ReleaseLeaves s.defrostLeft t) (hno : ∀ f ∈ s.arb.stack, f.isDefrost = false) :
    PathReleased { s with defr := { s.defr with phase := .idle } } t ∧ t.level .defrostActive = false := by
  obtain ⟨hrel, hbeside, -⟩ := h
  refine ⟨PathReleased.of_sequencerLeft (s := { s with defr := { s.defr with phase := .idle } }) hno hrel, ?_⟩
  obtain ⟨-, hactive⟩ := hbeside.active (show DefrostPhase.idle ≠ .pending by decide)
  rw [hactive, defrostLeft_active]

/-- R58, R70: the path that the defrost has left, settled by arbitration. -/
def State.leftAndSettled (s : State) : State := (setHolder .nobody s.defrostLeft).settledPath

theorem leaveDefrost_settled (hu : s.defr.suspended = false) (hh : s.arb.holder = .defrost) (hst : s.arb.stack = [])
    (hp : s.doors.pause ≠ .deferred) : leaveDefrost s = s.leftAndSettled := by
  have hstack : s.defrostLeft.arb.stack = [] := by rw [defrostLeft_arb, hst]
  have hquiet : NoClaimWaits s.defrostLeft := by
    refine ⟨by rwa [defrostLeft_doors], ?_⟩
    rw [(defrostLeft_defr s).1]
    decide
  rw [leaveDefrost_of_holding s hu hh, releasePath_settled _ hstack hquiet]
  rfl

/-- R131, R134: what is left where nothing lies on the stack and no claim waits. -/
theorem leftAndSettled_leaves (hs : SettingsLaw s) :
    s.leftAndSettled.defr.phase = .idle ∧ s.leftAndSettled.defr.frost = s.defr.frost ∧
      s.leftAndSettled.defr.heaterDrive = false ∧ s.leftAndSettled.arb.holder.isFree = true ∧
      s.leftAndSettled.arb.stack = s.arb.stack ∧ s.leftAndSettled.level .defrostActive = false ∧
      (∀ j, j = .phase ∨ j = .gap ∨ j = .runsec → s.leftAndSettled.counter j = s.counter j) ∧
      (∀ n, s.cond.deltas.getLsbD n = true → s.leftAndSettled.cond.deltas.getLsbD n = true) ∧
      s.leftAndSettled.settings = s.settings ∧ s.leftAndSettled.zones = s.zones ∧
      s.leftAndSettled.scanner = s.scanner ∧ s.leftAndSettled.doors = s.doors ∧ s.leftAndSettled.link = s.link ∧
      s.leftAndSettled.own = s.own := by
  set v := setHolder .nobody s.defrostLeft with hv
  have hkept : v.settings = s.settings ∧ v.zones = s.zones ∧ v.scanner = s.scanner ∧ v.doors = s.doors ∧
      v.link = s.link ∧ v.own = s.own ∧ v.arb.stack = s.arb.stack := by
    simp [hv, State.defrostLeft]
  obtain ⟨hset, hz, hsc, hd, hl, ho, hst⟩ := hkept
  have hvset : SettingsLaw v := hs.congr hset
  have hvc : ∀ j, v.counter j = s.counter j := defrostLeft_counter s
  obtain ⟨hvp, -, hvf⟩ : v.defr.phase = .idle ∧ v.defr.suspended = false ∧ v.defr.frost = s.defr.frost :=
    defrostLeft_defr s
  obtain ⟨-, hstack, -, -⟩ := settledPath_holder v hvset
  obtain ⟨hpset, hpz, hpsc, hpl, hpd, hpp, hpf, -, hpg, hprs, hpph, -⟩ := settledPath_pathOnly v
  obtain ⟨-, -, hactive, hdeltas⟩ := settledPath_beside v
  refine ⟨hpp.trans hvp, hpf.trans hvf, settledPath_heaterDrive v, ?_, hstack.trans hst, ?_, ?_, fun n hn => hdeltas n ?_,
    hpset.trans hset, hpz.trans hz, hpsc.trans hsc, hpd.trans hd, hpl.trans hl, (settledPath_own v hvset).trans ho⟩
  · rw [State.leftAndSettled, settledPath_arb]
    exact arbitrate_isFree _
  · exact (hactive (by simp [hvp])).2.trans (defrostLeft_active s)
  · rintro j (rfl | rfl | rfl)
    · exact hpph.trans (hvc _)
    · exact hpg.trans (hvc _)
    · exact hprs.trans (hvc _)
  · exact setLevel_deltas_mono _ _ _ n hn

/-! ### ABORT_DEFROST (R134) -/

/-- R134: the phases that an abort leaves before HEAT. -/
def State.beforeHeat (s : State) : Prop :=
  s.defr.phase = .preChill ∨ (s.defr.phase = .stopWait ∧ s.defr.resumeHeat = false)

theorem orderAbortDefrost_of_beforeHeat (h : s.beforeHeat) :
    doOrder .abortDefrost s = (.ok, leaveDefrost (s.stopC .phase)) := by
  show orderAbortDefrost s = _
  unfold orderAbortDefrost
  rcases h with h | ⟨h, hr⟩
  · rw [h]
    rfl
  · rw [h, hr]
    rfl

theorem orderAbortDefrost_of_heat (h : s.defr.phase = .heat ∨ (s.defr.phase = .stopWait ∧ s.defr.resumeHeat = true)) :
    doOrder .abortDefrost s = (.ok, endHeat .abort s) := by
  show orderAbortDefrost s = _
  unfold orderAbortDefrost
  rcases h with h | ⟨h, hr⟩
  · rw [h]
  · rw [h, hr]
    rfl

theorem State.beforeHeat.no_resume (hr : ResumeLaw s) (h : s.beforeHeat) : s.defr.resumeHeat = false := by
  rcases h with h | ⟨-, h⟩
  · exact hr.of_preChill h
  · exact h

/-- R132: beside DEFROST the heater follows the service command alone. -/
theorem heaterWanted_of_ne_defrost (hh : s.arb.holder ≠ .defrost) :
    s.heaterWanted = (decide (s.arb.holder = .service) && s.defr.svcHeater && !s.level .heaterStuck &&
      decide (s.defr.compState ≠ .running)) := by
  unfold State.heaterWanted
  cases hs : s.arb.holder with
  | defrost => exact absurd hs hh
  | service => simp
  | _ => rfl

theorem setPhase_of_ne_defrost (p : DefrostPhase) (hh : s.arb.holder ≠ .defrost) : setPhase p s =
    { s with
      defr := { s.defr with
        phase := p
        heaterDrive :=
          decide (s.arb.holder = .service) && s.defr.svcHeater && !s.level .heaterStuck &&
            decide (s.defr.compState ≠ .running) } } := by
  have hwanted := heaterWanted_of_ne_defrost { s with defr := { s.defr with phase := p } } hh
  show ({ s with defr := { s.defr with
    phase := p, heaterDrive := ({ s with defr := { s.defr with phase := p } } : State).heaterWanted } } : State) = _
  rw [hwanted]
  rfl

/-- R129: an abort adapts nothing. -/
theorem adaptDue_abort : adaptDue .abort s = s := by simp [adaptDue, adaptedDue]

/-- R128, R134: HEAT is aborted. -/
def State.heatAborted (s : State) : State :=
  ((s.stopC .phase).onDefr fun d =>
    { d with lastHeat := s.heatElapsed / 60, termCount := 0, resumeHeat := false, frost := d.frost / 2 }).clearC .runsec

/-- R130: the state in which DRIP gives its outputs. -/
def State.dripping (s : State) : State := (setPhase .drip s).restartC .phase (s.effN .dripTime)

theorem endHeat_abort (hu : s.defr.suspended = false) : endHeat .abort s = giveStopOutputs s.heatAborted.dripping := by
  have he : ∀ u, State.settings u = s.settings → u.effN .dripTime = s.effN .dripTime := fun u hu => State.effN_congr hu _
  have hd : enterDrip s.heatAborted = giveStopOutputs s.heatAborted.dripping := by
    have hn : ¬ (setPhase .drip s.heatAborted).defr.suspended = true := by
      show ¬ s.defr.suspended = true
      simp [hu]
    show (if (setPhase .drip s.heatAborted).defr.suspended then _ else _) = _
    rw [if_neg hn]
    rfl
  rw [← hd]
  show enterDrip (adaptDue .abort s.heatAborted) = _
  rw [adaptDue_abort]

theorem heatAborted_counter (j : CounterId) (hp : j ≠ .phase) (hr : j ≠ .runsec) :
    s.heatAborted.counter j = s.counter j := by
  unfold State.heatAborted
  rw [State.counter_clearC_of_ne _ _ _ hr]
  exact State.counter_stopC_of_ne s _ _ hp

theorem heatAborted_runsec : (s.heatAborted.counter .runsec).count = 0 := by
  unfold State.heatAborted State.clearC
  rw [State.counter_onCounter_self]
  rfl

theorem dripping_counter (j : CounterId) (hj : j ≠ .phase) : s.dripping.counter j = s.counter j := by
  unfold State.dripping
  rw [State.counter_restartC_of_ne _ _ _ _ hj, setPhase_counter]

theorem dripping_phase (hs : SettingsLaw s) : s.dripping.counter .phase = (s.counter .phase).timing (s.effN .dripTime) := by
  unfold State.dripping
  rw [State.counter_restartC_self _ _ _ (hs.effN_ne_zero _ (by decide)) (by decide), setPhase_counter]

theorem dripping_own (hs : SettingsLaw s) : s.dripping.own = s.own := by
  unfold State.dripping
  rw [State.restartC_own _ _ _ (hs.effN_ne_zero _ (by decide))]
  rfl

end

/-- R128, R130, R134: an abort of HEAT enters DRIP with half of F. -/
theorem abortDefrost_heat (s : State) (tag : Byte) (ha : Accepting s) (hs : SettingsLaw s) (hu : s.defr.suspended = false)
    (hph : s.defr.phase = .heat ∨ (s.defr.phase = .stopWait ∧ s.defr.resumeHeat = true)) :
    ∃ t, exec (.abortDefrost tag) s = .next (replied ⟨0x04#8, tag, [0x02#8]⟩ (.ok [0x02#8]) t) ∧
      t.defr.phase = .drip ∧ t.defr.frost = s.defr.frost / 2 ∧ t.defr.resumeHeat = false ∧ t.defr.termCount = 0 ∧
      t.defr.lastHeat = (s.defr.heatBudget - (s.counter .phase).count) / 60 ∧
      (t.counter .phase).run = true ∧ (t.counter .phase).count = s.effN .dripTime ∧ (t.counter .runsec).count = 0 ∧
      t.counter .gap = s.counter .gap ∧ t.comp.demand = .stop ∧ t.air.fan.requested = 0 ∧
      (t.damper .fresh).target = 0 ∧ (t.damper .chill).target = 0 ∧
      t.settings = s.settings ∧ t.zones = s.zones ∧ t.scanner = s.scanner ∧ t.arb = s.arb ∧ t.doors = s.doors ∧
      t.cond = s.cond ∧ t.link = s.link := by
  set x := s.heatAborted.dripping with hx
  have hkeep : x.settings = s.settings ∧ x.zones = s.zones ∧ x.scanner = s.scanner ∧ x.arb = s.arb ∧ x.doors = s.doors ∧
      x.cond = s.cond ∧ x.link = s.link := by
    simp [hx, State.dripping, State.heatAborted]
  obtain ⟨hset, hz, hsc, harb, hdo, hco, hl⟩ := hkeep
  have haset : SettingsLaw s.heatAborted := hs
  have hxset : SettingsLaw x := hs.congr hset
  obtain ⟨⟨hfresh, hchill⟩, hfan, hdemand⟩ := giveStopOutputs_outputs x hxset
  obtain ⟨st, on, hd⟩ := giveStopOutputs_sequencer x
  have hcount := giveStopOutputs_counter x
  have hxd : x.defr.phase = .drip ∧ x.defr.frost = s.defr.frost / 2 ∧ x.defr.resumeHeat = false ∧ x.defr.termCount = 0 ∧
      x.defr.lastHeat = s.heatElapsed / 60 := by
    simp [hx, State.dripping, State.heatAborted, setPhase]
  obtain ⟨hp, hf, hr, ht, hlast⟩ := hxd
  refine ⟨giveStopOutputs x, ?_, by rw [hd]; exact hp, by rw [hd]; exact hf, by rw [hd]; exact hr, by rw [hd]; exact ht,
    by rw [hd]; exact hlast, ?_, ?_, ?_, ?_, hdemand.demand, hfan.requested, hfresh.target, hchill.target, by simpa using hset,
    by simpa using hz, by simpa using hsc, by simpa using harb, by simpa using hdo, by simpa using hco, by simpa using hl⟩
  · refine congrArg Host.Outcome.next (submit_order_ok s tag .abortDefrost ha
      ((orderAbortDefrost_of_heat s hph).trans (by rw [endHeat_abort s hu])) ?_)
    rw [giveStopOutputs_own x hxset, hx, dripping_own _ haset]
    exact ha.1
  · rw [hcount .phase (.inl rfl), hx, dripping_phase _ haset]
    rfl
  · rw [hcount .phase (.inl rfl), hx, dripping_phase _ haset]
    rfl
  · rw [hcount .runsec (.inl rfl), hx, dripping_counter _ .runsec nofun, heatAborted_runsec]
  · rw [hcount .gap (.inl rfl), hx, dripping_counter _ .gap nofun, heatAborted_counter _ .gap nofun nofun]

/-- Settles O20: by phase, with the frame on the stack or the path held, and HEAT. -/
theorem abortDefrostByPhase : Obligations.AbortDefrostByPhase := by
  unfold Obligations.AbortDefrostByPhase
  refine ⟨fun tag s ha => ⟨fun hp => ?_, fun hp hh => ?_, fun hp hu => ?_, fun hp hu hh hst hpause hs => ?_⟩,
    fun tag s ha hs hu hp => abortDefrost_heat s tag ha hs hu hp,
    fun tag w s ha hs hheat hres hp hu hh hno hw => ?_⟩
  · refine congrArg Host.Outcome.next (submit_order_refused s tag .abortDefrost .notApplicable ha ?_ rfl)
    show orderAbortDefrost s = _
    unfold orderAbortDefrost
    rcases hp with hp | hp | hp <;> rw [hp]
  · have ho : doOrder .abortDefrost s = (.ok, setPhase .idle s) := by
      show orderAbortDefrost s = _
      unfold orderAbortDefrost
      rw [hp]
    rw [setPhase_of_ne_defrost s _ hh] at ho
    exact congrArg Host.Outcome.next (submit_order_ok s tag .abortDefrost ha ho ha.1)
  · set u := s.stopC .phase with hu'
    have hsusp : u.defr.suspended = true := hu
    set t := removeFrames SuspFrame.isDefrost u.defrostLeft with ht
    have hdefr : t.defr = u.defrostLeft.defr := rfl
    have hkept : t.settings = s.settings ∧ t.zones = s.zones ∧ t.scanner = s.scanner ∧ t.air = s.air ∧ t.comp = s.comp ∧
        t.doors = s.doors ∧ t.link = s.link := by
      simp [ht, hu', State.defrostLeft]
    obtain ⟨hp', hs', hf'⟩ := defrostLeft_defr u
    refine ⟨t, ?_, hdefr ▸ hp', hdefr ▸ hs', hdefr ▸ hf', ?_, defrostLeft_active u, ?_, fun i hi => ?_, hkept⟩
    · refine congrArg Host.Outcome.next (submit_order_ok s tag .abortDefrost ha ?_ ha.1)
      rw [orderAbortDefrost_of_beforeHeat s hp, ← hu', leaveDefrost_of_suspended u hsusp]
    · simp [ht, hu', removeFrames, State.defrostLeft, State.onArb]
    · show (u.defrostLeft.counter .phase).run = false
      rw [defrostLeft_counter, hu', State.counter_stopC_self, Counter.stop_run]
    · show u.defrostLeft.counter i = _
      rw [defrostLeft_counter, hu', State.counter_stopC_of_ne _ _ _ hi]
  · set u := s.stopC .phase with hu'
    have hset : SettingsLaw u := hs
    have hkept : u.settings = s.settings ∧ u.zones = s.zones ∧ u.scanner = s.scanner ∧ u.doors = s.doors ∧
        u.link = s.link ∧ u.own = s.own := by
      simp [hu']
    obtain ⟨hkset, hkz, hksc, hkd, hkl, hko⟩ := hkept
    obtain ⟨hp', hf', hheat, hfree, hstack, hactive, hcount, -, hlset, hlz, hlsc, hld, hll, hlo⟩ :=
      leftAndSettled_leaves u hset
    refine ⟨u.leftAndSettled, ?_, hp', hf', hheat, hfree, hstack.trans hst, hactive, ?_, ?_, ?_, hlset.trans hkset,
      hlz.trans hkz, hlsc.trans hksc, hld.trans hkd, hll.trans hkl⟩
    · refine congrArg Host.Outcome.next (submit_order_ok s tag .abortDefrost ha ?_ ?_)
      · rw [orderAbortDefrost_of_beforeHeat s hp, leaveDefrost_settled u hu hh hst hpause]
      · rw [hlo, hko]
        exact ha.1
    · rw [hcount .phase (.inl rfl), hu', State.counter_stopC_self, Counter.stop_run]
    · rw [hcount .gap (.inr (.inl rfl)), hu', State.counter_stopC_of_ne s .phase .gap nofun]
    · rw [hcount .runsec (.inr (.inr rfl)), hu', State.counter_stopC_of_ne s .phase .runsec nofun]
  · set u := s.stopC .phase with hu'
    have hquiet : u.defrostLeft.own.signalled = [] := by
      rw [defrostLeft_own]
      exact ha.1
    obtain ⟨t, hsub, hleaves⟩ := submit_order_released u.defrostLeft (hs.congr (defrostLeft_settings u))
      (defrostLeft_known u hheat.1) (defrostLeft_resumeLaw u (State.beforeHeat.no_resume s hres hp))
      (defrostLeft_noFrame u hno) s tag .abortDefrost ha
      ((orderAbortDefrost_of_beforeHeat s hp).trans (by rw [leaveDefrost_of_holding u hu hh])) hquiet
    obtain ⟨hrel, hactive⟩ := hleaves.of_defrostLeft hno
    rw [hw]
    exact ⟨t, congrArg Host.Outcome.next hsub, hrel, hactive⟩

end Sys2Proof.Machine

/-! The PHASE expiry of DRIP and of RECOVER (R130, R131). -/

namespace Sys2Proof.Machine

section

variable (s : State)

/-- R155: PHASE has expired. -/
def State.phaseExpired (s : State) : State :=
  s.setCounter .phase { s.counter .phase with run := false, count := 0, part := 0 }

theorem phaseExpires_of_run (p : DefrostPhase) (hp : s.defr.phase = p) (hr : (s.counter .phase).run = true) :
    phaseExpires p onPhaseExpiry s = onPhaseExpiry s.phaseExpired := by
  rw [phaseExpires, if_pos hp, fireOneShot_of_run _ _ _ hr]
  rfl

/-! ### RECOVER is entered (R131) -/

/-- R132: while DEFROST holds in another phase than HEAT, outputs leave the heater off. -/
theorem giveDemand_heaterDrive (d : Demand) (hh : s.arb.holder = .defrost) (hp : s.defr.phase ≠ .heat)
    (hoff : s.defr.heaterDrive = false) : (giveDemand d s).defr.heaterDrive = false := by
  have hset : ∀ st u, State.arb u = s.arb → State.defr u = s.defr → (setCompState st u).defr.heaterDrive = false :=
    fun st u ha hd => by
      show State.heaterWanted _ = false
      unfold State.heaterWanted
      simp [State.onDefr, State.onComp, ha, hd, hh, hp]
  rcases giveDemand_cases s d with ⟨f, -, he⟩ | ⟨n, he⟩ | he <;> rw [he]
  · exact hoff
  · simpa [startComp] using hset .running (s.onComp fun c => { c with demand := d }) rfl rfl
  · simpa [stopComp, beginPostRun] using hset .off (s.onComp fun c => { c with demand := d }) rfl rfl

/-- R131: the state in which RECOVER gives its outputs, both dampers homing and PHASE restarted. -/
def State.recovering (s : State) : State :=
  (requestHoming .chill (requestHoming .fresh (setPhase .recover s))).restartC .phase 600

theorem enterRecover_eq : enterRecover s = giveDemand (.fixed (s.effN .nMax)) (requestFan 0 s.recovering) := by
  have hn : s.recovering.nMax = s.effN .nMax := State.effN_congr (by simp [State.recovering]) .nMax
  rw [← hn]
  rfl

theorem requestHoming_homing (r : DamperRec) : r.requestHoming.state = .homing ∧ r.requestHoming.target = 0 := by
  unfold DamperRec.requestHoming
  cases r.state <;> simp [DamperRec.beginHoming]

theorem recovering_damper (d : Damper) : s.recovering.damper d = (s.damper d).requestHoming := by
  have hair : s.recovering.air = (requestHoming .chill (requestHoming .fresh s)).air := by
    simp [State.recovering, requestHoming, State.onDamper, State.damper]
  rw [State.damper, hair]
  cases d <;> rfl

theorem recovering_counter (j : CounterId) (hj : j ≠ .phase) : s.recovering.counter j = s.counter j := by
  unfold State.recovering
  rw [State.counter_restartC_of_ne _ _ _ _ hj]
  simp [State.counter]

theorem recovering_phase : s.recovering.counter .phase = (s.counter .phase).timing 600 := by
  unfold State.recovering
  rw [State.counter_restartC_self _ _ _ (by decide) (by decide)]
  simp [State.counter]

theorem recovering_own : s.recovering.own = s.own := by
  unfold State.recovering
  rw [State.restartC_own _ _ _ (by decide)]
  simp

theorem recovering_defr (hh : s.arb.holder = .defrost) :
    s.recovering.defr = { s.defr with phase := .recover, heaterDrive := false } := by
  have hd : s.recovering.defr = (setPhase .recover s).defr := by simp [State.recovering]
  rw [hd]
  simp [setPhase, State.heaterWanted, hh]

end

/-- R131: the PHASE expiry of DRIP. -/
theorem dripExpiry_enters (s : State) (hst : Settled s) (hs : SettingsLaw s) (hr : (s.counter .phase).run = true)
    (hh : s.arb.holder = .defrost) (hp : s.defr.phase = .drip) :
    ∃ t, exec .dripExpiry s = .next (startNote t) ∧
      t.defr.phase = .recover ∧ t.defr.frost = s.defr.frost ∧ t.defr.lastHeat = s.defr.lastHeat ∧
      t.defr.heaterDrive = false ∧ t.counter .phase = (s.counter .phase).timing 600 ∧
      t.counter .gap = s.counter .gap ∧ t.counter .runsec = s.counter .runsec ∧
      (∀ d, (t.damper d).state = .homing ∧ (t.damper d).target = 0) ∧ t.air.fan.requested = 0 ∧
      t.comp.demand = .fixed (s.effN .nMax) ∧
      t.settings = s.settings ∧ t.zones = s.zones ∧ t.scanner = s.scanner ∧ t.arb = s.arb ∧ t.doors = s.doors ∧
      t.cond = s.cond ∧ t.link = s.link := by
  set w := s.phaseExpired with hw
  set x := w.recovering with hx
  have hxd : x.defr = { s.defr with phase := .recover, heaterDrive := false } := recovering_defr w hh
  have hkept : x.settings = s.settings ∧ x.zones = s.zones ∧ x.scanner = s.scanner ∧ x.arb = s.arb ∧ x.doors = s.doors ∧
      x.cond = s.cond ∧ x.link = s.link := by
    simp [hx, hw, State.recovering, State.phaseExpired]
  obtain ⟨hset, hz, hsc, harb, hdo, hco, hl⟩ := hkept
  have hfset : SettingsLaw (requestFan 0 x) := hs.congr (by simpa using hset)
  have hfan := (requestFan_asked x 0).of_after (giveDemand_fanSame (.fixed (s.effN .nMax)) _)
  have hcount : ∀ j : CounterId, j.onPath = false →
      (giveDemand (.fixed (s.effN .nMax)) (requestFan 0 x)).counter j = x.counter j := fun j hj => by
    have hne : ∀ i : CounterId, i.onPath = true → j ≠ i := fun i hi h => by simp [h, hi] at hj
    rw [giveDemand_counter _ _ _ (hne _ rfl) (hne _ rfl) (hne _ rfl), requestFan_counter _ _ _ (hne _ rfl) (hne _ rfl)]
  obtain ⟨st, on, hd⟩ := giveDemand_defr (requestFan 0 x) (.fixed (s.effN .nMax))
  have hdefr : (requestFan 0 x).defr = x.defr := by simp
  rw [hdefr, hxd] at hd
  have heq : onPhaseExpiry w = giveDemand (.fixed (s.effN .nMax)) (requestFan 0 x) := by
    have hwp : w.defr.phase = .drip := hp
    unfold onPhaseExpiry
    rw [hwp]
    exact enterRecover_eq w
  refine ⟨_, ?_, by rw [hd], by rw [hd], by rw [hd], ?_, ?_, ?_, ?_, fun d => ?_, hfan.requested, giveDemand_demand _ _,
    by simpa using hset, by simpa using hz, by simpa using hsc, by simpa using harb, by simpa using hdo, by simpa using hco,
    by simpa using hl⟩
  · show Host.Outcome.next (finish (phaseExpires .drip onPhaseExpiry s)) = _
    rw [phaseExpires_of_run s _ hp hr, ← hw, heq, finish_of_settled]
    refine hst.of_eq (by simpa using hl) ?_
    rw [giveDemand_own _ _ hfset, requestFan_own, hx, recovering_own]
    rfl
  · refine giveDemand_heaterDrive _ _ (by simpa [harb] using hh) ?_ ?_
    · rw [hdefr, hxd]
      simp
    · rw [hdefr, hxd]
  · rw [hcount .phase rfl, hx, recovering_phase, hw, State.phaseExpired, State.counter_setCounter_self]
    rfl
  · rw [hcount .gap rfl, hx, recovering_counter _ .gap nofun]
    exact State.counter_setCounter_of_ne _ _ _ _ nofun
  · rw [hcount .runsec rfl, hx, recovering_counter _ .runsec nofun]
    exact State.counter_setCounter_of_ne _ _ _ _ nofun
  · have hdamper : (giveDemand (.fixed (s.effN .nMax)) (requestFan 0 x)).damper d = (w.damper d).requestHoming := by
      rw [← recovering_damper w d]
      simp [State.damper, hx]
    rw [hdamper]
    exact requestHoming_homing _

/-! ### RECOVER ends (R131) -/

section

variable (s : State)

/-- R131: RECOVER has ended: PHASE stopped, GAP cleared, DEFROST_DONE raised. -/
def State.recovered (s : State) : State := ((s.stopC .phase).clearC .gap).raise .defrostDone

theorem exec_recoverExpiry (hp : s.defr.phase = .recover) (hr : (s.counter .phase).run = true) :
    exec .recoverExpiry s = .next (finish (leaveDefrost s.phaseExpired.recovered)) := by
  show Host.Outcome.next (finish (phaseExpires .recover onPhaseExpiry s)) = _
  rw [phaseExpires_of_run s _ hp hr]
  have hwp : s.phaseExpired.defr.phase = .recover := hp
  unfold onPhaseExpiry
  rw [hwp]
  rfl

theorem recovered_done : s.recovered.cond.deltas.getLsbD 22 = true := by
  show (Conditions.mark .defrostDone _).deltas.getLsbD 22 = true
  rw [Conditions.mark_deltas, getLsbD_putBit]
  simp [Cond.id]

theorem recovered_bank : s.phaseExpired.recovered.bank =
    (s.bank.set .phase { s.counter .phase with run := false, count := 0, part := 0 }).set .gap (s.counter .gap).clear := by
  have hstop : (s.phaseExpired.stopC .phase).bank =
      s.bank.set .phase { s.counter .phase with run := false, count := 0, part := 0 } := by
    show s.phaseExpired.bank.set .phase (s.phaseExpired.counter .phase).stop = _
    rw [State.phaseExpired, State.counter_setCounter_self, stop_of_stopped _ rfl]
    simp
  have hgap : (s.phaseExpired.stopC .phase).counter .gap = s.counter .gap := by
    rw [State.counter_stopC_of_ne _ .phase .gap nofun]
    exact State.counter_setCounter_of_ne _ _ _ _ nofun
  show (s.phaseExpired.stopC .phase).bank.set .gap ((s.phaseExpired.stopC .phase).counter .gap).clear = _
  rw [hstop, hgap]

theorem recovered_eq : s.phaseExpired.recovered =
    { s with
      bank :=
        (s.bank.set .phase { s.counter .phase with run := false, count := 0, part := 0 }).set .gap (s.counter .gap).clear
      cond := s.cond.mark .defrostDone } := by
  rw [← recovered_bank]
  rfl

end

/-- Settles O49: DRIP, RECOVER over an empty stack with no zone calling, and RECOVER whatever lies on the stack. -/
theorem dripAndRecoverExpiry : Obligations.DripAndRecoverExpiry := by
  unfold Obligations.DripAndRecoverExpiry
  refine ⟨fun s hst hs hr hu hh => ⟨fun hp => dripExpiry_enters s hst hs hr hh hp, fun hp hstack hpause hcommit hcall => ?_⟩,
    fun w s hst hs hheat hres hr hu hh hp hno hw => ?_⟩
  · have heq := recovered_eq s
    set u := s.phaseExpired.recovered with hu'
    have hset : SettingsLaw u := hs.congr (by rw [heq])
    obtain ⟨hp', hf', hheat, -, -, hactive, hcount, hdeltas, hlset, hlz, hlsc, hld, hll, hlo⟩ :=
      leftAndSettled_leaves u hset
    set v := setHolder .nobody u.defrostLeft with hv
    have hvset : SettingsLaw v := hset.congr (defrostLeft_settings u)
    have hvarb : v.arb = { s.arb with holder := .nobody } := by
      rw [hv, setHolder, State.onArb, defrostLeft_arb, heq]
    have hvz : v.zones = s.zones := by simp [hv, State.defrostLeft, heq]
    have hchoice : v.choice = none := choice_of_none_calling v fun z => by
      rw [State.zone_congr hvz]
      exact hcall z
    obtain ⟨harb, hfan, -, -, hdemand⟩ := settledPath_idle v hvset hchoice (by rw [hvarb]; exact hcommit)
    rw [hvarb] at harb hfan
    refine ⟨u.leftAndSettled, ?_, harb, hp', ?_, hheat, ?_, ?_, ?_, ?_, hdeltas _ (recovered_done _), hactive, hdemand, hfan,
      ?_, ?_, ?_, ?_, ?_⟩
    · rw [exec_recoverExpiry s hp hr, ← hu', leaveDefrost_settled u (by rw [heq]; exact hu) (by rw [heq]; exact hh)
        (by rw [heq]; exact hstack) (by rw [heq]; exact hpause), finish_of_settled]
      exact hst.of_eq (by rw [hll, heq]) (by rw [hlo, heq])
    · rw [hf', heq]
    · rw [hcount .phase (.inl rfl), State.counter, recovered_bank]
      simp [Bank.get_set_of_ne]
    · rw [hcount .gap (.inr (.inl rfl)), State.counter, recovered_bank]
      simp [Counter.clear]
    · rw [hcount .gap (.inr (.inl rfl)), State.counter, recovered_bank]
      simp [Counter.clear]
    · rw [hcount .runsec (.inr (.inr rfl)), State.counter, recovered_bank]
      simp [Bank.get_set_of_ne, State.counter]
    · rw [hlset, heq]
    · rw [hlz, heq]
    · rw [hlsc, heq]
    · rw [hld, heq]
    · rw [hll, heq]
  · have heq := recovered_eq s
    set u := s.phaseExpired.recovered with hu'
    have hset : SettingsLaw u := hs.congr (by rw [heq])
    have hnou : ∀ f ∈ u.arb.stack, f.isDefrost = false := by rw [heq]; exact hno
    have hknown : u.defr.compState = u.comp.state := by rw [heq]; exact hheat.1
    have hsettled : Settled u.defrostLeft :=
      hst.of_eq (by simp [State.defrostLeft, heq]) (by rw [defrostLeft_own, heq])
    have hresume : ResumeLaw u.defrostLeft := defrostLeft_resumeLaw u (by rw [heq]; exact hres.no_resume (by simp [hp]))
    obtain ⟨t, hfin, hleaves⟩ := finish_released u.defrostLeft (hset.congr (defrostLeft_settings u))
      (defrostLeft_known u hknown) hresume (defrostLeft_noFrame u hnou) hsettled
    obtain ⟨hrel, hactive⟩ := hleaves.of_defrostLeft hnou
    have hdone : t.cond.deltas.getLsbD 22 = true :=
      hleaves.2.1.deltas 22 (setLevel_deltas_mono _ _ _ 22 (recovered_done _))
    refine ⟨t, ?_, ?_, hdone, hactive⟩
    · rw [exec_recoverExpiry s hp hr, ← hu', leaveDefrost_of_holding u (by rw [heq]; exact hu) (by rw [heq]; exact hh), hfin]
    · rw [heq] at hrel
      rw [hw]
      exact PathReleased.of_sequencerLeft (b := s.defr.heaterDrive) (b' := s.defr.suspended)
        (c := s.cond.mark .defrostDone) hno hrel

end Sys2Proof.Machine

/-! How a door pause ends (R73, R147, R148). -/

namespace Sys2Proof.Machine

section

variable (s : State)

/-! ### The two expiries -/

/-- R147, R148: one of the pause's two counters has expired, the other is stopped, and there is no pause. -/
def State.pauseEnded (i j : CounterId) (spent : Bool) (s : State) : State :=
  { s with
    bank := (s.bank.set i { s.counter i with run := false, count := 0, part := 0 }).set j (s.counter j).stop
    doors := { s.doors with pause := .none, pauseSpent := spent } }

theorem pauseEnded_eq (i j : CounterId) (spent : Bool) (h : j ≠ i) :
    setPause .none (setPauseSpent spent
      ((s.setCounter i { s.counter i with run := false, count := 0, part := 0 }).stopC j)) = s.pauseEnded i j spent := by
  have hj : (s.setCounter i { s.counter i with run := false, count := 0, part := 0 }).counter j = s.counter j :=
    State.counter_setCounter_of_ne _ _ _ _ h
  rw [State.stopC_eq, hj]
  rfl

theorem pauseEnded_counter (i j : CounterId) (spent : Bool) (k : CounterId) (hi : k ≠ i) (hj : k ≠ j) :
    (s.pauseEnded i j spent).counter k = s.counter k := by
  simp [State.pauseEnded, State.counter, Bank.get_set_of_ne, hi, hj]

theorem pauseEnded_expired (i j : CounterId) (spent : Bool) (h : i ≠ j) :
    ((s.pauseEnded i j spent).counter i).run = false := by
  simp [State.pauseEnded, State.counter, Bank.get_set_of_ne, h]

theorem pauseEnded_stopped (i j : CounterId) (spent : Bool) :
    (s.pauseEnded i j spent).counter j = (s.counter j).stop := by
  simp [State.pauseEnded, State.counter]

theorem endPause_of_held (hp : s.doors.pause = .held) (hh : s.arb.holder = .door) :
    endPause s = releasePath (setPause .none s) := by
  unfold endPause
  rw [hp]
  exact if_pos hh

theorem endPause_of_suspended (hp : s.doors.pause = .suspended) :
    endPause s = setPause .none (removeFrames SuspFrame.isDoor s) := by
  unfold endPause
  rw [hp]

theorem endPause_expired (i j : CounterId) (spent : Bool) (h : j ≠ i) (hp : s.doors.pause = .held)
    (hh : s.arb.holder = .door) :
    endPause (setPauseSpent spent
      ((s.setCounter i { s.counter i with run := false, count := 0, part := 0 }).stopC j)) =
        releasePath (s.pauseEnded i j spent) := by
  rw [← pauseEnded_eq s i j spent h]
  exact endPause_of_held _ hp hh

theorem exec_settleExpiry_held (hr : (s.counter .settle).run = true) (hp : s.doors.pause = .held)
    (hh : s.arb.holder = .door) :
    exec .settleExpiry s = .next (finish (releasePath (s.pauseEnded .settle .pause false))) := by
  show Host.Outcome.next (finish (fireOneShot .settle onSettleExpiry s)) = _
  rw [fireOneShot_of_run _ _ _ hr, onSettleExpiry, endPause_expired s .settle .pause _ nofun hp hh]

theorem exec_pauseExpiry_held (hr : (s.counter .pause).run = true) (hp : s.doors.pause = .held)
    (hh : s.arb.holder = .door) :
    exec .pauseExpiry s = .next (finish (releasePath (s.pauseEnded .pause .settle s.anyOpen))) := by
  show Host.Outcome.next (finish (fireOneShot .pause onPauseExpiry s)) = _
  rw [fireOneShot_of_run _ _ _ hr, onPauseExpiry, endPause_expired s .pause .settle _ nofun hp hh]
  rfl

theorem anyOpen_eq : s.anyOpen =
    (s.doors.recs.freshLeft.isOpen || s.doors.recs.freshRight.isOpen || s.doors.recs.chillDrawer.isOpen ||
      s.doors.recs.freezeDrawer.isOpen) := by
  simp [State.anyOpen, allDoors, State.door, PerDoor.get, Bool.or_assoc]

theorem anyOpen_iff : s.anyOpen = true ↔ ∃ d, (s.door d).isOpen = true := by
  simp only [State.anyOpen, List.any_eq_true]
  exact ⟨fun ⟨d, _, h⟩ => ⟨d, h⟩, fun ⟨d, h⟩ => ⟨d, by cases d <;> decide, h⟩⟩

/-! ### A slot that serves on (R71) -/

section

variable (z : Zone) (phase : SlotPhase) (fixed : Bool) (remaining : Nat) (snapshot : Option Route)

/-- R71, R153: a slot that serves at once times what remained. -/
theorem resumeSlot_timing (hn : remaining ≠ 0)
    (hb : (resumeSlot z phase fixed remaining snapshot s).bothSettled = true) :
    (resumeSlot z phase fixed remaining snapshot s).counter .slot = (s.counter .slot).timing remaining := by
  set r := s.resumedSlot z phase fixed snapshot false with hr
  have heq := resumeSlot_eq s z phase fixed remaining snapshot
  rw [← hr] at heq
  obtain ⟨u, he, hu⟩ := placeSlot_eq (s.resuming r snapshot remaining) r
  rw [← heq, hb] at hu
  have hslot : (if snapshot = none then applyPending s else s).counter .slot = s.counter .slot := by
    split
    · exact applyPending_counter s _
    · rfl
  have hwrite : (s.resuming r snapshot remaining).counter .slot = ((s.counter .slot).stop).write remaining := by
    unfold State.resuming
    rw [State.counter_writeC_self, State.counter_stopC_self]
    exact congrArg (fun c => Counter.write remaining (Counter.stop c)) hslot
  have hstart : u.counter .slot = (((s.counter .slot).stop).write remaining).start .oneShot := by
    rw [hu, if_pos rfl, State.counter_startC_self]
    exact congrArg (Counter.start .oneShot) hwrite
  rw [heq, he, giveDemand_counter _ .slot _ nofun nofun nofun, requestFan_counter _ .slot _ nofun nofun, hstart]
  cases hrun : (s.counter .slot).run <;>
    simp [Counter.write, Counter.start, Counter.timing, Counter.stop, hrun, hn]

end

variable {s} in
/-- R81: a damper given the target it has is left alone. -/
theorem OpeningsTaken.same_dampers {t : State} {fresh chill : Nat} (h : OpeningsTaken fresh chill s t)
    (hf : (s.damper .fresh).target = (fresh * 480 + 50) / 100) (hc : (s.damper .chill).target = (chill * 480 + 50) / 100) :
    t.air.dampers = s.air.dampers := by
  obtain ⟨⟨hfresh, -⟩, ⟨hchill, -⟩⟩ := h
  have h1 : t.air.dampers.fresh = s.air.dampers.fresh := hfresh hf.symm
  have h2 : t.air.dampers.chill = s.air.dampers.chill := hchill hc.symm
  cases hd : t.air.dampers
  cases hd' : s.air.dampers
  simp_all

end

/-- R71, R148: the PAUSE expiry over a SLOT frame that serves on. -/
theorem pauseExpiry_serves (s : State) (z : Zone) (p : SlotPhase) (fixed : Bool) (remaining : Nat) (route : Route)
    (hst : Settled s) (hs : SettingsLaw s) (hr : (s.counter .pause).run = true) (hp : s.doors.pause = .held)
    (hh : s.arb.holder = .door) (hstack : s.arb.stack = [.slot 3 z p fixed remaining (some route)]) (hn : remaining ≠ 0)
    (hcall : (s.zone z).calling = true) (hph : s.defr.phase ≠ .pending)
    (hdamper : ∀ d, (s.damper d).state = .ready ∧ (s.damper d).position = some (s.damper d).target)
    (hfresh : (s.damper .fresh).target = (route.freshOpen * 480 + 50) / 100)
    (hchill : (s.damper .chill).target = (route.chillOpen * 480 + 50) / 100) :
    ∃ t, exec .pauseExpiry s = .next (startNote t) ∧
      t.arb =
        { s.arb with
          holder := .slot
            { zone := z, phase := p, fixed := fixed, route := route, source := .snapshot, serving := true }
          stack := [] } ∧
      t.counter .slot = (s.counter .slot).timing remaining ∧ (t.counter .pause).run = false ∧
      (t.counter .settle).run = false ∧
      t.doors.pause = .none ∧ (t.doors.pauseSpent = true ↔ ∃ e, (s.door e).isOpen = true) ∧
      t.doors.recs = s.doors.recs ∧ t.air.dampers = s.air.dampers ∧ t.air.fan.requested = route.fanDuty ∧
      t.comp.demand = .auto route.floor ∧
      t.settings = s.settings ∧ t.zones = s.zones ∧ t.scanner = s.scanner ∧ t.link = s.link := by
  set w := s.pauseEnded .pause .settle s.anyOpen with hw
  have hset : SettingsLaw w.popped := hs
  set y := resumeSlot z p fixed remaining (some route) w.popped with hy
  have hpop : popSlot 3 z p fixed remaining (some route) w.popped = y := by
    have hc : (w.popped.zone z).calling = true := hcall
    unfold popSlot
    rw [hc]
    rfl
  obtain ⟨hyset, hyz, hysc, hyl, hyd, hyp, -, -, -, -, -, -⟩ := resumeSlot_pathOnly w.popped z p fixed remaining (some route)
  rw [← hy] at hyset hyz hysc hyl hyd hyp
  have hfree : y.arb.holder.isFree = true := resumeSlot_isFree w.popped z p fixed remaining (some route)
  have hrel : releasePath w = tellHolder y := by
    rw [releasePath_of_slot w hstack, hpop, report_of_no_claim]
    · rw [hyd]
      show PauseState.none ≠ .deferred
      decide
    · rw [hyp]
      exact hph
    · exact hfree
  obtain ⟨htset, htz, htsc, htl, htd, -⟩ := tellHolder_pathOnly y hfree
  have hcount : ∀ j : CounterId, j.onPath = false → (∀ z, j ≠ .alm z) → (tellHolder y).counter j = w.counter j :=
    fun j hj ha => (tellHolder_counter y j ha).trans (resumeSlot_counter w.popped z p fixed remaining (some route) j hj)
  have hresumed := resumeSlot_resumed w.popped z p fixed remaining (some route) hset hn
  rw [← hy] at hresumed
  have hplan : s.arb.active = if w.popped.arb.commitPending = true ∧ some route = none then w.popped.arb.staged
      else w.popped.arb.active := by
    rw [if_neg (by simp)]
    rfl
  obtain ⟨-, -, -, -, -, -, hopen, -, -⟩ := hresumed s.arb.active route _ hplan rfl rfl
  have hair : (tellHolder y).air.dampers = s.air.dampers := hopen.same_dampers hfresh hchill
  have hstand : ∀ d, (tellHolder y).damper d = s.damper d := fun d => by rw [State.damper, State.damper, hair]
  obtain ⟨-, harb, -, -, -, -, -, hfan, hdemand⟩ := hresumed s.arb.active route true hplan rfl (by simp [hstand, hdamper])
  have hsettled : y.bothSettled = true := by
    have hd : ∀ d, y.damper d = s.damper d := fun d => by rw [← hstand, State.damper, State.damper, (tellHolder_same y).air]
    simp [State.bothSettled, DamperRec.settled, hd, hdamper]
  refine ⟨tellHolder y, ?_, ?_, ?_, ?_, ?_, ?_, ?_, ?_, hair, hfan.requested, hdemand.demand, htset.trans hyset,
    htz.trans hyz, htsc.trans hysc, htl.trans hyl⟩
  · rw [exec_pauseExpiry_held s hr hp hh, ← hw, hrel, finish_of_settled]
    refine hst.of_eq (htl.trans hyl) ?_
    rw [tellHolder_own _ (hset.congr hyset), hy, resumeSlot_own _ _ _ _ _ _ hset hn]
    rfl
  · have htail : w.arb.stack.tail = [] := congrArg List.tail hstack
    rw [harb, popped_arb, htail]
    simp [hw, State.pauseEnded]
  · rw [tellHolder_counter _ .slot nofun, hy, resumeSlot_timing _ _ _ _ _ _ hn hsettled]
    exact congrArg (Counter.timing remaining) (pauseEnded_counter s .pause .settle s.anyOpen .slot nofun nofun)
  · rw [hcount .pause rfl nofun, hw, pauseEnded_expired s .pause .settle _ nofun]
  · rw [hcount .settle rfl nofun, hw, pauseEnded_stopped, Counter.stop_run]
  · rw [htd, hyd]
    rfl
  · rw [htd, hyd]
    exact anyOpen_iff s
  · rw [htd, hyd]
    rfl

/-- R60, R70, R147: the SETTLE expiry with nothing on the stack and no zone calling. -/
theorem settleExpiry_idle (s : State) (hst : Settled s) (hs : SettingsLaw s) (hr : (s.counter .settle).run = true)
    (hp : s.doors.pause = .held) (hh : s.arb.holder = .door) (hstack : s.arb.stack = []) (hph : s.defr.phase ≠ .pending)
    (hcommit : s.arb.commitPending = false) (hcall : ∀ z, (s.zone z).calling = false) :
    ∃ t, exec .settleExpiry s = .next (startNote t) ∧
      t.arb = { s.arb with holder := .nobody, fullEnd := none } ∧
      t.doors = { s.doors with pause := .none, pauseSpent := false } ∧ (t.counter .settle).run = false ∧
      (t.counter .pause).run = false ∧ t.air.fan.requested = s.arb.active.idle.fanDuty ∧
      (t.damper .fresh).target = (s.arb.active.idle.freshOpen * 480 + 50) / 100 ∧
      (t.damper .chill).target = (s.arb.active.idle.chillOpen * 480 + 50) / 100 ∧ t.comp.demand = .auto none ∧
      t.settings = s.settings ∧ t.zones = s.zones ∧ t.scanner = s.scanner ∧ t.link = s.link := by
  set w := s.pauseEnded .settle .pause false with hw
  set v := setHolder .nobody w with hv
  have hset : SettingsLaw v := hs
  have hchoice : v.choice = none := choice_of_none_calling v hcall
  have hrel : releasePath w = v.settledPath := releasePath_settled w hstack ⟨by
    show PauseState.none ≠ .deferred
    decide, hph⟩
  obtain ⟨harb, hfan, hfresh, hchill, hdemand⟩ := settledPath_idle v hset hchoice hcommit
  obtain ⟨hpset, hpz, hpsc, hpl, hpd, -⟩ := settledPath_pathOnly v
  have hcount : ∀ j : CounterId, (∀ z, j ≠ .wait z) → j.onPath = false → (∀ z, j ≠ .alm z) →
      v.settledPath.counter j = w.counter j := fun j hw' hj ha => settledPath_counter v j (fun z _ => hw' z) hj ha
  refine ⟨v.settledPath, ?_, harb, hpd, ?_, ?_, hfan, hfresh, hchill, hdemand, hpset, hpz, hpsc, hpl⟩
  · rw [exec_settleExpiry_held s hr hp hh, ← hw, hrel, finish_of_settled]
    exact hst.of_eq hpl (by rw [settledPath_own v hset]; rfl)
  · rw [hcount .settle nofun rfl nofun, hw, pauseEnded_expired s .settle .pause _ nofun]
  · rw [hcount .pause nofun rfl nofun, hw, pauseEnded_stopped, Counter.stop_run]

/-- Settles O52: a suspended pause, the two ends that are told whole, and the release that any other end makes. -/
theorem pauseEndsAtSettleOrPauseExpiry : Obligations.PauseEndsAtSettleOrPauseExpiry := by
  unfold Obligations.PauseEndsAtSettleOrPauseExpiry
  refine ⟨fun s hst hs => ⟨fun hr hp => ?_, settleExpiry_idle s hst hs,
    fun mask z p fixed remaining route hr hp hh hstack hmask => ?_⟩,
    fun c w s hst hs hheat hres hp hh hno hw => ?_⟩
  · have heq : endPause (setPauseSpent false
        ((s.setCounter .settle { s.counter .settle with run := false, count := 0, part := 0 }).stopC .pause)) =
          removeFrames SuspFrame.isDoor (s.pauseEnded .settle .pause false) := by
      rw [← pauseEnded_eq s .settle .pause false nofun]
      exact endPause_of_suspended _ hp
    show Host.Outcome.next (finish (fireOneShot .settle onSettleExpiry s)) = _
    rw [fireOneShot_of_run _ _ _ hr, onSettleExpiry, heq, finish_of_settled]
    · rfl
    · exact hst.of_eq rfl rfl
  · subst hmask
    exact pauseExpiry_serves s z p fixed remaining route hst hs hr hp hh hstack
  · have hlaw : ∀ (i j : CounterId) (spent : Bool), w = s.pauseEnded i j spent →
        ∃ t, finish (releasePath w) = startNote t ∧ ReleaseLeaves w t := by
      rintro i j spent rfl
      refine finish_released _ hs hheat.1 hres ?_ hst
      rintro ⟨mask, rest, hstack⟩
      have hstack : s.arb.stack = .defrost mask :: rest := hstack
      have := hno (.defrost mask) (by simp [hstack])
      cases this
    rcases hw with ⟨rfl, hr, hw⟩ | ⟨rfl, hr, hw⟩
    · have hw : w = s.pauseEnded .settle .pause false := hw
      obtain ⟨t, hfin, hrel, -⟩ := hlaw _ _ _ hw
      exact ⟨t, by rw [exec_settleExpiry_held s hr hp hh, ← hw, hfin], hrel⟩
    · rw [← anyOpen_eq] at hw
      have hw : w = s.pauseEnded .pause .settle s.anyOpen := hw
      obtain ⟨t, hfin, hrel, -⟩ := hlaw _ _ _ hw
      exact ⟨t, by rw [exec_pauseExpiry_held s hr hp hh, ← hw, hfin], hrel⟩

end Sys2Proof.Machine

/-! The ends of moves and homings (R82, R84, R86), and the end of SWITCHING (R52). -/

namespace Sys2Proof.Machine

section

variable (s : State)

/-! ### The slot serves (R52) -/

/-- R52: SERVING, and SLOT started. -/
def State.serving (r : Slot) (s : State) : State := (setHolder (.slot { r with serving := true }) s).startC .slot

section

variable (r : Slot)

theorem serveSlot_eq : serveSlot r s = giveDemand (.auto r.route.floor) (requestFan r.route.fanDuty (s.serving r)) := rfl

theorem serving_counter (j : CounterId) (hj : j ≠ .slot) : (s.serving r).counter j = s.counter j :=
  State.counter_startC_of_ne _ _ _ hj

theorem serving_same : PathSame s (s.serving r) := by
  have hc := serving_counter s r
  exact ⟨by simp [State.serving], hc _ nofun, hc _ nofun, by simp [State.serving], by simp [State.serving],
    by simp [State.serving], by simp [State.serving], hc _ nofun, hc _ nofun, hc _ nofun⟩

theorem serveSlot_arb : (serveSlot r s).arb = { s.arb with holder := .slot { r with serving := true } } := by
  simp [serveSlot]

theorem serveSlot_dampers : (serveSlot r s).air.dampers = s.air.dampers := by
  rw [serveSlot_eq]
  simp [State.serving]

theorem serveSlot_outputs (hs : SettingsLaw s) :
    FanAsked r.route.fanDuty s (serveSlot r s) ∧ DemandTaken (.auto r.route.floor) s (serveSlot r s) := by
  have hsame := serving_same s r
  have hset : SettingsLaw (requestFan r.route.fanDuty (s.serving r)) := hs.congr (by simp [hsame.drive.settings])
  rw [serveSlot_eq]
  exact ⟨((requestFan_asked _ _).of_after (giveDemand_fanSame _ _)).of_before hsame.fan,
    (giveDemand_taken _ _ hset).of_before (hsame.drive.trans (requestFan_driveSame _ _))⟩

theorem serveSlot_counter (j : CounterId) (hj : j.onPath = false) : (serveSlot r s).counter j = s.counter j := by
  have hne : ∀ i : CounterId, i.onPath = true → j ≠ i := fun i hi h => by simp [h, hi] at hj
  rw [serveSlot_eq, giveDemand_counter _ _ _ (hne _ rfl) (hne _ rfl) (hne _ rfl),
    requestFan_counter _ _ _ (hne _ rfl) (hne _ rfl), serving_counter _ _ _ (hne _ rfl)]

/-- R52: SLOT goes on from its count. -/
theorem serveSlot_slot (hr : (s.counter .slot).run = false) (hc : (s.counter .slot).count ≠ 0) :
    (serveSlot r s).counter .slot = { s.counter .slot with run := true, part := 0 } := by
  rw [serveSlot_eq, giveDemand_counter _ .slot _ nofun nofun nofun, requestFan_counter _ .slot _ nofun nofun, State.serving,
    State.startC_oneShot_eq (setHolder (.slot { r with serving := true }) s) .slot rfl hr hc, State.counter_setCounter_self]
  rfl

theorem serveSlot_sequencer : SequencerSame s (serveSlot r s) := by
  rw [serveSlot_eq]
  exact (SequencerSame.of_eq (s := s) (by simp [State.serving])).trans (giveDemand_defr _ _)

theorem serveSlot_known (h : s.defr.compState = s.comp.state) :
    (serveSlot r s).defr.compState = (serveSlot r s).comp.state := by
  rw [serveSlot_eq]
  exact giveDemand_known _ _ (by simpa [State.serving] using h)

theorem serveSlot_own (hs : SettingsLaw s) (hc : (s.counter .slot).count ≠ 0) : (serveSlot r s).own = s.own := by
  rw [serveSlot_eq, giveDemand_own _ _ (hs.congr (by simp [(serving_same s r).drive.settings])), requestFan_own,
    State.serving, State.startC_own (setHolder (.slot { r with serving := true }) s) .slot (.inr (.inl hc))]
  rfl

theorem serveSlot_isFree : (serveSlot r s).arb.holder.isFree = true := by
  rw [serveSlot_arb]
  rfl

theorem serveSlot_pathOnly : PathOnly s (serveSlot r s) := by
  obtain ⟨st, on, hd⟩ := serveSlot_sequencer s r
  have hc := serveSlot_counter s r
  exact ⟨by simp, by simp, by simp, by simp, by simp, by rw [hd], by rw [hd], by rw [hd], hc _ rfl, hc _ rfl, hc _ rfl,
    hc _ rfl⟩

/-! ### Completions (R52, R86) -/

theorem onCompletion_of_slot (h : s.arb.holder = .slot r) :
    onCompletion s = if !r.serving && s.bothSettled then report (serveSlot r s) else s := by
  have he : (!r.serving && s.bothSettled) = true → endSwitching s = serveSlot r s := fun hc => by
    unfold endSwitching
    rw [h]
    exact if_pos hc
  unfold onCompletion
  rw [h]
  dsimp only
  split
  · next hc => rw [he hc]
  · rfl

end

theorem onCompletion_of_no_slot (h : ∀ r, s.arb.holder ≠ .slot r) : onCompletion s = s := by
  unfold onCompletion
  split
  · next r hr => exact absurd hr (h r)
  all_goals rfl

variable (d : Damper)

/-- R82: a move has ended. -/
def State.moveEnded (s : State) (d : Damper) : State := s.onDamper d DamperRec.complete

/-- R84: a homing has ended. -/
def State.homed (s : State) (d : Damper) : State := s.onDamper d DamperRec.endHoming

theorem exec_damperMoveComplete (h : (s.damper d).state = .moving) :
    exec (.damperMoveComplete d) s = .next (finish (onCompletion (s.moveEnded d))) := by
  show Host.Outcome.next (finish (damperArrives d s)) = _
  rw [damperArrives, if_pos h]
  rfl

/-- R84, R86: a homing that ends is a completion where its damper is settled then. -/
theorem exec_homingEnd (h : (s.damper d).state = .homing) :
    exec (.homingEnd d) s = .next (finish (if ((s.homed d).damper d).settled then onCompletion (s.homed d) else s.homed d)) := by
  show Host.Outcome.next (finish (homingEnds d s)) = _
  rw [homingEnds, if_pos h]
  rfl

/-- R84: after a homing the damper stands at 0, and moves on where its target is another. -/
theorem endHoming_eq (r : DamperRec) : r.endHoming =
    { r with
      state := if r.target = 0 then .ready else .moving
      position := some 0, homingSteps := 0, moveCount := 0, homeDue := false, stepPart := 0 } := by
  unfold DamperRec.endHoming DamperRec.takeReady
  by_cases h : r.target = 0
  · simp [h]
  · have hne : ¬ (some 0 = some r.target) := fun he => h (Option.some.inj he).symm
    simp [h, hne, DamperRec.beginMove]

theorem bothSettled_iff : s.bothSettled = true ↔
    ∀ e, (s.damper e).state = .ready ∧ (s.damper e).position = some (s.damper e).target := by
  simp only [State.bothSettled, DamperRec.settled, Bool.and_eq_true, decide_eq_true_eq]
  refine ⟨fun ⟨hf, hc⟩ e => ?_, fun h => ⟨h _, h _⟩⟩
  cases e
  · exact hf
  · exact hc

end

/-- R82, R84: a damper of the state `s` has settled in `w`, by the end of a move or of a homing with target 0. -/
def DamperSettles (c : Instr) (d : Damper) (s w : State) : Prop :=
  c = .damperMoveComplete d ∧ (s.damper d).state = .moving ∧ w = s.moveEnded d ∨
    c = .homingEnd d ∧ (s.damper d).state = .homing ∧ (s.damper d).target = 0 ∧ w = s.homed d

section

variable {c : Instr} {d : Damper} {s w : State}

/-- R82, R84: the two ways in which a damper settles, its record written out. -/
theorem damperSettles_of_written
    (h : c = .damperMoveComplete d ∧ (s.damper d).state = .moving ∧
          w = { s with
            air := { s.air with
              dampers := s.air.dampers.set d
                { s.damper d with
                  state := .ready, position := some (s.damper d).target, moveCount := (s.damper d).moveCount + 1
                  homeDue := (s.damper d).homeDue || decide ((s.damper d).moveCount + 1 = 100), stepPart := 0 } } } ∨
        c = .homingEnd d ∧ (s.damper d).state = .homing ∧ (s.damper d).target = 0 ∧
          w = { s with
            air := { s.air with
              dampers := s.air.dampers.set d
                { s.damper d with
                  state := .ready, position := some 0, homingSteps := 0, moveCount := 0, homeDue := false
                  stepPart := 0 } } }) : DamperSettles c d s w := by
  rcases h with ⟨rfl, hm, rfl⟩ | ⟨rfl, hm, ht, rfl⟩
  · exact .inl ⟨rfl, hm, rfl⟩
  · refine .inr ⟨rfl, hm, ht, ?_⟩
    rw [State.homed, State.onDamper, endHoming_eq, if_pos ht]

theorem DamperSettles.exec_eq (h : DamperSettles c d s w) : exec c s = .next (finish (onCompletion w)) := by
  rcases h with ⟨rfl, hm, rfl⟩ | ⟨rfl, hm, ht, rfl⟩
  · exact exec_damperMoveComplete s d hm
  · have hsettled : ((s.homed d).damper d).settled = true := by
      have hend : (s.homed d).damper d = (s.damper d).endHoming := PerDamper.get_set_self _ _ _
      simp [hend, endHoming_eq, DamperRec.settled, ht]
    rw [exec_homingEnd s d hm, if_pos hsettled]

/-- What the end of a move or of a homing leaves. -/
theorem DamperSettles.kept (h : DamperSettles c d s w) :
    w.arb = s.arb ∧ w.link = s.link ∧ w.own = s.own ∧ FanSame s w ∧ DriveSame s w ∧ PathOnly s w ∧
      ∀ j, w.counter j = s.counter j := by
  rcases h with ⟨-, -, rfl⟩ | ⟨-, -, -, rfl⟩
  all_goals
    exact ⟨rfl, rfl, rfl, ⟨rfl, rfl, rfl⟩, ⟨rfl, rfl, rfl, rfl, rfl, rfl, rfl⟩,
      ⟨rfl, rfl, rfl, rfl, rfl, rfl, rfl, rfl, rfl, rfl, rfl, rfl⟩, fun _ => rfl⟩

/-- R86: a completion that settles its damper alone. -/
theorem DamperSettles.alone (h : DamperSettles c d s w) (hst : Settled s) {r : Slot} (hr : s.arb.holder = .slot r)
    (hno : r.serving = true ∨ ∃ e, (w.damper e).state ≠ .ready ∨ (w.damper e).position ≠ some (w.damper e).target) :
    exec c s = .next (startNote w) := by
  obtain ⟨harb, hlink, hown, -⟩ := h.kept
  have hcond : (!r.serving && w.bothSettled) = false := by
    rcases hno with hs | ⟨e, he⟩
    · simp [hs]
    · have hb : w.bothSettled = false := Bool.eq_false_of_not_eq_true fun hb => by
        obtain ⟨h1, h2⟩ := (bothSettled_iff w).mp hb e
        exact he.elim (· h1) (· h2)
      simp [hb]
  rw [h.exec_eq, onCompletion_of_slot w r (by rw [harb, hr]), hcond, if_neg (by decide), finish_of_settled]
  exact hst.of_eq hlink (by rw [hown])

/-- R52, R86: the completion that ends SWITCHING. -/
theorem DamperSettles.serves (h : DamperSettles c d s w) {r : Slot} (hr : s.arb.holder = .slot r) (hs : r.serving = false)
    (hb : ∀ e, (w.damper e).state = .ready ∧ (w.damper e).position = some (w.damper e).target) :
    exec c s = .next (finish (report (serveSlot r w))) := by
  have hcond : (!r.serving && w.bothSettled) = true := by simp [hs, (bothSettled_iff w).mpr hb]
  rw [h.exec_eq, onCompletion_of_slot w r (by rw [h.kept.1, hr]), hcond, if_pos rfl]

/-- R49, R52: what the slot that serves then has, told of the state before the completion. -/
theorem DamperSettles.served (h : DamperSettles c d s w) {r : Slot} (hset : SettingsLaw s)
    (hrun : (s.counter .slot).run = false) (hc : (s.counter .slot).count ≠ 0) :
    (tellHolder (serveSlot r w)).arb = { s.arb with holder := .slot { r with serving := true } } ∧
      (tellHolder (serveSlot r w)).counter .slot = { s.counter .slot with run := true, part := 0 } ∧
      (tellHolder (serveSlot r w)).air.dampers = w.air.dampers ∧
      FanAsked r.route.fanDuty s (tellHolder (serveSlot r w)) ∧
      DemandTaken (.auto r.route.floor) s (tellHolder (serveSlot r w)) ∧ PathOnly s (tellHolder (serveSlot r w)) := by
  obtain ⟨harb, -, -, hfan, hdrive, hpath, hcount⟩ := h.kept
  have hw : SettingsLaw w := hset.congr hdrive.settings
  have htell := tellHolder_same (serveSlot r w)
  obtain ⟨hf, hd⟩ := serveSlot_outputs w r hw
  refine ⟨?_, ?_, ?_, (hf.of_before hfan).of_after htell.fan, (hd.of_before hdrive).of_after htell.drive.comp
    htell.drive.known htell.drive.guard htell.drive.ramp htell.drive.condrun,
    hpath.trans ((serveSlot_pathOnly w r).trans (tellHolder_pathOnly _ (serveSlot_isFree w r)))⟩
  · rw [(tellHolder_keeps _).2.2.2.2.1, serveSlot_arb, harb]
  · rw [tellHolder_counter _ .slot nofun, serveSlot_slot w r (by rw [hcount, hrun]) (by rw [hcount]; exact hc), hcount]
  · rw [htell.air, serveSlot_dampers]

end

/-- Settles O39: without a slot, the end of SWITCHING with no claim waiting, and a completion of either damper. -/
theorem damperMoveAndHomingEnd : Obligations.DamperMoveAndHomingEnd := by
  unfold Obligations.DamperMoveAndHomingEnd
  refine ⟨fun d s hst hno => ⟨fun hm => ?_, fun hm => ?_⟩,
    fun r s hst hs hn hr hserv hmove hready hpos hrun hc hfan hduty => ?_,
    fun c d r w s hst hs hheat hres hr hc => ⟨fun hno => ?_, fun hserv hb hrun hcount => ?_⟩⟩
  · rw [exec_damperMoveComplete s d hm, onCompletion_of_no_slot (s.moveEnded d) hno, finish_of_settled]
    · rfl
    · exact hst.of_eq rfl rfl
  · have hend : (if ((s.homed d).damper d).settled then onCompletion (s.homed d) else s.homed d) = s.homed d := by
      rw [onCompletion_of_no_slot (s.homed d) hno, ite_self]
    rw [exec_homingEnd s d hm, hend, finish_of_settled]
    · rw [State.homed, State.onDamper, endHoming_eq]
    · exact hst.of_eq rfl rfl
  · set w := s.moveEnded .fresh with hw
    have hsettles : DamperSettles (.damperMoveComplete .fresh) .fresh s w := .inl ⟨rfl, hmove, rfl⟩
    have hb : ∀ e, (w.damper e).state = .ready ∧ (w.damper e).position = some (w.damper e).target := by
      rintro (_ | _)
      · exact ⟨rfl, rfl⟩
      · exact ⟨hready, hpos⟩
    obtain ⟨-, hlink, hown, -, hdrive, hpath, hcounter⟩ := hsettles.kept
    obtain ⟨harb, hslot, -, hf, hd, hp⟩ := hsettles.served (r := r) hs hrun hc
    obtain ⟨hset, hz, hsc, hl, hdo, -⟩ := hp
    obtain ⟨-, -, -, -, hdo', hph', -⟩ := hpath.trans (serveSlot_pathOnly w r)
    have hrep : report (serveSlot r w) = tellHolder (serveSlot r w) :=
      report_of_no_claim _ (by rw [hdo']; exact hn.1) (by rw [hph']; exact hn.2) (serveSlot_isFree w r)
    obtain ⟨hfan', -, hkick, -⟩ := hf
    obtain ⟨htime, htach, -⟩ := hkick hfan hduty
    refine ⟨tellHolder (serveSlot r w), ?_, harb, hslot, ?_, htime, htach, hd.demand, hset, hz, hsc, hdo, hl⟩
    · rw [hsettles.serves hr hserv hb, hrep, finish_of_settled]
      refine hst.of_eq hl ?_
      have hws : SettingsLaw w := hs.congr hdrive.settings
      rw [tellHolder_own _ (hws.congr (by simp)), serveSlot_own w r hws (by rw [hcounter]; exact hc), hown]
    · rw [hfan', Fan.asked, hfan]
      exact if_neg hduty
  · exact (damperSettles_of_written hc).alone hst hr hno
  · have hsettles := damperSettles_of_written hc
    obtain ⟨-, hlink, hown, -, hdrive, hpath, hcounter⟩ := hsettles.kept
    have hws : SettingsLaw w := hs.congr hdrive.settings
    have hserved : SettingsLaw (serveSlot r w) := hws.congr (by simp)
    obtain ⟨harb, hslot, hair, hf, hd, hp⟩ := hsettles.served (r := r) hs hrun hcount
    obtain ⟨-, -, -, hl, -, hph, -, hresume, -⟩ := hpath.trans (serveSlot_pathOnly w r)
    have hknown : w.defr.compState = w.comp.state := by rw [hdrive.known, hdrive.comp]; exact hheat.1
    refine ⟨tellHolder (serveSlot r w), report (serveSlot r w), ?_, harb, hslot, hair, hf, hd, hp,
      report_claims _ hserved (serveSlot_known w r hknown) (serveSlot_isFree w r)⟩
    rw [hsettles.serves hr hserv hb, finish_of_settled]
    refine hst.of_eq ((report_keeps _).2.2.2.2.trans hl) ?_
    rw [report_own _ hserved, serveSlot_own w r hws (by rw [hcounter]; exact hcount), hown]
    intro h
    rw [hresume]
    rw [hph] at h
    exact hres.of_pending h

end Sys2Proof.Machine

/-! An opening of a door with the claim of its pause (R139, R141, R143), and the growth of an open door's width (R146,
R159). -/

namespace Sys2Proof.Machine

section

variable (s : State) (d : Door)

/-! ### An opening (R139, R141, R143) -/

/-- R139, R141: the record of the door as its opening leaves it. -/
def State.openedRec (s : State) (d : Door) : DoorRec :=
  { s.door d with isOpen := true, raw := true, differs := 0, openCount := ((s.door d).openCount + 1) % 65536 }

/-- R139, R141: the opening in the door's record alone. -/
def State.doorOpened (s : State) (d : Door) : State :=
  { s with doors := { s.doors with recs := s.doors.recs.set d (s.openedRec d) } }

theorem doorOpens_of_open (h : (s.door d).isOpen = true) : doorOpens d s = s := if_pos h

/-- R141: what an opening does beside the record, told by the pause it finds. -/
theorem doorOpens_of_closed (h : (s.door d).isOpen = false) :
    doorOpens d s =
      if s.doors.pause.live && (s.counter .settle).run then (s.doorOpened d).stopC .settle
      else if (s.doorOpened d).othersClosed d && decide (s.doors.pause = .none) && !s.doors.pauseSpent then
        claimPause (s.doorOpened d)
      else s.doorOpened d := by
  rw [doorOpens, if_neg (by simp [h])]
  rfl

theorem othersClosed_doorOpened : (s.doorOpened d).othersClosed d = true ↔ ∀ e, e ≠ d → (s.door e).isOpen = false := by
  have hother : ∀ e, e ≠ d → (s.doorOpened d).door e = s.door e := fun e he =>
    s.door_onDoor_of_ne d e (fun _ => s.openedRec d) he
  have hall : ∀ e, e ∈ allDoors := fun e => by cases e <;> decide
  simp only [State.othersClosed, List.all_eq_true, Bool.or_eq_true, decide_eq_true_eq, Bool.not_eq_true']
  constructor
  · intro h e he
    rw [← hother e he]
    exact (h e (hall e)).resolve_left he
  · intro h e _
    by_cases he : e = d
    · exact .inl he
    · rw [hother e he]
      exact .inr (h e he)

/-- R141: a live pause has its SETTLE stopped. -/
theorem doorOpens_of_live (h : (s.door d).isOpen = false) (hp : s.doors.pause = .held ∨ s.doors.pause = .suspended)
    (hr : (s.counter .settle).run = true) : doorOpens d s = (s.doorOpened d).stopC .settle := by
  have hlive : s.doors.pause.live = true := by rcases hp with hp | hp <;> rw [hp] <;> rfl
  rw [doorOpens_of_closed s d h, if_pos (by simp [hlive, hr])]

/-- R141: with another door OPEN no claim is made. -/
theorem doorOpens_of_other (h : (s.door d).isOpen = false) (hp : s.doors.pause = .none)
    (ho : ∃ e, e ≠ d ∧ (s.door e).isOpen = true) : doorOpens d s = s.doorOpened d := by
  obtain ⟨e, he, hopen⟩ := ho
  have hothers : (s.doorOpened d).othersClosed d = false := by
    refine Bool.eq_false_of_not_eq_true fun hall => ?_
    simp [(othersClosed_doorOpened s d).mp hall e he] at hopen
  rw [doorOpens_of_closed s d h, if_neg (by simp [hp, PauseState.live]), if_neg (by simp [hothers])]

/-- R141: the first door to open claims a pause that is not spent. -/
theorem doorOpens_of_first (h : ∀ e, (s.door e).isOpen = false) (hp : s.doors.pause = .none)
    (hn : s.doors.pauseSpent = false) : doorOpens d s = claimPause (s.doorOpened d) := by
  rw [doorOpens_of_closed s d (h d), if_neg (by simp [hp, PauseState.live]),
    if_pos (by simp [(othersClosed_doorOpened s d).mpr fun e _ => h e, hp, hn])]

/-- R66: DEFROST and SERVICE refuse the claim, and the pause is DEFERRED. -/
theorem claimPause_refused (h : s.arb.holder = .defrost ∨ s.arb.holder = .service) :
    claimPause s = setPause .deferred s := by
  unfold claimPause
  rcases h with h | h <;> rw [h]

theorem claimPause_taken (h : s.arb.holder = .nobody ∨ ∃ r, s.arb.holder = .slot r) : claimPause s = claimDoor s := by
  unfold claimPause
  rcases h with h | ⟨r, h⟩ <;> rw [h]

theorem exec_doorOpening (hst : Settled (doorOpens d s)) :
    exec (.doorOpening d) s = .next (startNote (doorOpens d s)) :=
  congrArg Host.Outcome.next (finish_of_settled _ hst)

/-! ### The width of an open door (R146, R158, R159) -/

/-- R159: the width counter one higher. -/
def State.doorGrown (s : State) (d : Door) : State :=
  { s with
    bank := s.bank.set (.door d)
      { s.counter (.door d) with
        count := (s.counter (.door d)).count + 1
        saturated := (s.counter (.door d)).saturated || decide ((s.counter (.door d)).count + 1 = 65535)
        part := 0 } }

/-- R158, R159: the width stands while the door is CLOSED, and at 65535. -/
theorem doorIncrements_of_still (h : (s.door d).isOpen = false ∨ 65535 ≤ (s.counter (.door d)).count) :
    doorIncrements d s = s := by
  have hstill : ¬ (s.gate (.door d) = true ∧ (s.counter (.door d)).count < 65535) := by
    rintro ⟨hopen, hroom⟩
    rcases h with h | h
    · exact absurd hopen (by simp [State.gate, h])
    · omega
  rw [doorIncrements, if_neg (by simpa using fun _ => not_and.mp hstill)]

/-- R146, R159: the width of an open door goes up and is compared with AJAR_TIME. -/
theorem doorIncrements_of_open (hrun : (s.counter (.door d)).run = true) (ho : (s.door d).isOpen = true)
    (hc : (s.counter (.door d)).count < 65535) : doorIncrements d s = checkAjar d (s.doorGrown d) := by
  have hgrow : s.onCounter (.door d) Counter.increment = s.doorGrown d := by
    have hinc : (s.counter (.door d)).increment =
        { s.counter (.door d) with
          count := (s.counter (.door d)).count + 1
          saturated := (s.counter (.door d)).saturated || decide ((s.counter (.door d)).count + 1 = 65535)
          part := 0 } := if_neg (by omega)
    unfold State.onCounter
    rw [hinc]
    rfl
  rw [doorIncrements, if_pos (by simp [hrun, hc, State.gate, ho]), hgrow]

/-- R146: whether a grown width has reached AJAR_TIME. -/
theorem openTooLong_doorGrown (ho : (s.door d).isOpen = true) :
    (s.doorGrown d).openTooLong d = decide (s.effN .ajarTime ≤ (s.counter (.door d)).count + 1) := by
  have hcount : ((s.doorGrown d).counter (.door d)).count = (s.counter (.door d)).count + 1 := by
    simp [State.doorGrown, State.counter]
  have hopen : ((s.doorGrown d).door d).isOpen = true := ho
  rw [State.openTooLong, hcount, hopen, Bool.true_and]
  rfl

theorem exec_doorWidthIncrement (hst : Settled (doorIncrements d s)) :
    exec (.doorWidthIncrement d) s = .next (startNote (doorIncrements d s)) :=
  congrArg Host.Outcome.next (finish_of_settled _ hst)

end

/-- Settles O50: the opening by the pause and the holder it finds, and the width by the door and AJAR_TIME. -/
theorem doorOpeningAndWidth : Obligations.DoorOpeningAndWidth := by
  unfold Obligations.DoorOpeningAndWidth
  refine ⟨?_, ?_⟩
  · rintro d opened s hst hs rfl
    refine ⟨fun hopen => ?_, fun hclosed hp hr => ?_, fun hclosed ho hp => ?_, fun hall hp hn hh => ?_,
      fun hall hp hn hh => ?_⟩
    · rw [exec_doorOpening, doorOpens_of_open s d hopen]
      rwa [doorOpens_of_open s d hopen]
    · have hstop : (s.counter .settle).stop = { s.counter .settle with run := false, part := 0 } := if_pos hr
      rw [exec_doorOpening, doorOpens_of_live s d hclosed hp hr, ← hstop]
      · rfl
      · rw [doorOpens_of_live s d hclosed hp hr]
        exact hst.of_eq rfl rfl
    · rw [exec_doorOpening, doorOpens_of_other s d hclosed hp ho]
      · rfl
      · rw [doorOpens_of_other s d hclosed hp ho]
        exact hst.of_eq rfl rfl
    · have hrefused : doorOpens d s = setPause .deferred (s.doorOpened d) := by
        rw [doorOpens_of_first s d hall hp hn, claimPause_refused (s.doorOpened d) hh]
      rw [exec_doorOpening, hrefused]
      · rfl
      · rw [hrefused]
        exact hst.of_eq rfl rfl
    · have htaken : doorOpens d s = claimDoor (s.doorOpened d) := by
        rw [doorOpens_of_first s d hall hp hn, claimPause_taken (s.doorOpened d) hh]
      have hs' : SettingsLaw (s.doorOpened d) := hs.congr rfl
      obtain ⟨harb, hdoors, hpause, hsettle, hslot, hdampers, hfan, hdemand, hphase, hfrost, hset, hz, hsc, hlink⟩ :=
        claimDoor_claimed (s.doorOpened d) hs' ((isFree_iff _).mpr hh)
      have hwidth : (claimDoor (s.doorOpened d)).counter (.door d) = s.counter (.door d) :=
        (claimDoor_counter _ (.door d) nofun (.inl rfl)).trans (doorTaken_counter _ (.door d) nofun nofun nofun)
      refine ⟨claimDoor (s.doorOpened d), ?_, harb, hdoors, hpause, hsettle, hslot, hdampers, hfan.requested, hfan,
        hdemand.demand, hdemand, hwidth, hphase, hfrost, hset, hz, hsc, hlink⟩
      rw [exec_doorOpening, htaken]
      rw [htaken]
      exact hst.of_eq hlink (congrArg Own.signalled (claimDoor_own _ hs'))
  · rintro d grown s hst hrun rfl
    refine ⟨fun hstill => ?_, fun hopen hc hno => ?_, fun hopen hc hajar hlong => ?_⟩
    · rw [exec_doorWidthIncrement, doorIncrements_of_still s d hstill]
      rwa [doorIncrements_of_still s d hstill]
    · have hgrow : doorIncrements d s = s.doorGrown d := by
        rw [doorIncrements_of_open s d hrun hopen hc, checkAjar_eq, if_neg]
        rw [openTooLong_doorGrown s d hopen]
        have hajar : ((s.doorGrown d).door d).ajar = (s.door d).ajar := rfl
        rw [hajar]
        rcases hno with h | h
        · simp [h]
        · simp [Nat.not_le.mpr h]
      rw [exec_doorWidthIncrement, hgrow]
      · rfl
      · rw [hgrow]
        exact hst.of_eq rfl rfl
    · have hgrow : doorIncrements d s = setAjar d true (s.doorGrown d) := by
        rw [doorIncrements_of_open s d hrun hopen hc, checkAjar_eq, if_pos]
        rw [openTooLong_doorGrown s d hopen]
        have hnot : ((s.doorGrown d).door d).ajar = false := hajar
        simp [hnot, hlong]
      rw [exec_doorWidthIncrement, hgrow]
      · rfl
      · rw [hgrow]
        exact hst.of_eq rfl rfl

end Sys2Proof.Machine

/-! SERVICE_DRIVE: what is refused (R76, R113), what each field does to its output (R95, R112, R113), and when the answer
is CLAMPED (R96). -/

namespace Sys2Proof.Machine

/-! ### The fields (R95, R96, R112, R113) -/

/-- R95: what a damper field makes of the damper's record. -/
def drivenDamper (v : Int) (r : DamperRec) : DamperRec :=
  if v = keep then r else if v = -1 then r.requestHoming else r.give (limited 0 480 v).toNat

theorem DamperRec.requestHoming_homes (r : DamperRec) : DamperRec.Homes r r.requestHoming := by
  unfold DamperRec.Homes DamperRec.requestHoming
  cases h : r.state <;> simp [DamperRec.beginHoming, DamperRec.BeganHoming]

/-- R95: the damper keeps what stands, homes, or takes the limited target. -/
theorem drivenDamper_by_field (v : Int) (r : DamperRec) :
    (v = -32768 → drivenDamper v r = r) ∧ (v = -1 → DamperRec.Homes r (drivenDamper v r)) ∧
      (v ≠ -32768 → v ≠ -1 → DamperRec.Takes (max 0 (min 480 v)).toNat r (drivenDamper v r)) := by
  refine ⟨fun h => if_pos h, ?_, fun hk hh => ?_⟩
  · rintro rfl
    exact r.requestHoming_homes
  · rw [drivenDamper, if_neg (show v ≠ keep from hk), if_neg hh, limited_eq _ _ _ (by decide)]
    exact r.give_takes _

theorem DamperRec.Homes.homing {r t : DamperRec} (h : DamperRec.Homes r t) : t.state = .homing ∧ t.target = 0 := by
  obtain ⟨hsame, hbegun⟩ := h
  by_cases hr : r.state = .homing
  · rw [hsame hr]
    exact ⟨hr, rfl⟩
  · obtain ⟨hstate, -, -, -, htarget, -⟩ := hbegun hr
    exact ⟨hstate, htarget⟩

theorem drivenDamper_target (v : Int) (r : DamperRec) :
    (drivenDamper v r).target = if v = -32768 then r.target else (max 0 (min 480 v)).toNat := by
  obtain ⟨hkeep, hhome, htake⟩ := drivenDamper_by_field v r
  split
  · next h => rw [hkeep h]
  · next h =>
    by_cases h1 : v = -1
    · rw [(hhome h1).homing.2, h1]
      rfl
    · exact (htake h h1).target

theorem driveDuty_eq (v : Int) : driveDuty v = if v ≤ 0 then 0 else (max 25 (min 100 v)).toNat := by
  rw [driveDuty, limited_eq _ _ _ (by decide)]

theorem damperClamped_eq_false_iff (v : Int) : damperClamped v = false ↔ v = -32768 ∨ (-1 ≤ v ∧ v ≤ 480) := by
  simp only [damperClamped, limited_eq 0 480 v (by decide), Bool.and_eq_false_iff, decide_eq_false_iff_not]
  unfold keep
  omega

theorem fanClamped_eq_false_iff (v : Int) : fanClamped v = false ↔ v = -32768 ∨ v = 0 ∨ (25 ≤ v ∧ v ≤ 100) := by
  simp only [fanClamped, driveDuty_eq, Bool.and_eq_false_iff, decide_eq_false_iff_not]
  unfold keep
  split_ifs <;> omega

theorem heaterClamped_eq_false_iff (v : Int) : heaterClamped v = false ↔ v = -32768 ∨ v = 0 ∨ v = 1 := by
  simp only [heaterClamped, Bool.and_eq_false_iff, decide_eq_false_iff_not]
  unfold keep
  omega

theorem heaterAfter_eq_true_iff (v : Int) (now : Bool) :
    heaterAfter v now = true ↔ 0 < v ∨ (v = -32768 ∧ now = true) := by
  unfold heaterAfter keep
  split_ifs with h <;> simp [h]

theorem Demand.isFixed_iff (d : Demand) : d.isFixed = true ↔ ∃ n, d = .fixed n := by
  cases d <;> simp [Demand.isFixed]

section

variable {s : State} (hs : SettingsLaw s)

include hs

/-- R186: where N_MIN and N_MAX lie. -/
theorem SettingsLaw.speeds :
    900 ≤ s.eff .nMin ∧ s.eff .nMin ≤ s.eff .nMax ∧ (s.nMin : Int) = s.eff .nMin ∧ (s.nMax : Int) = s.eff .nMax := by
  have hmin : 900 ≤ s.eff .nMin ∧ s.eff .nMin ≤ 2400 := hs.1 .nMin
  have hmax : 3000 ≤ s.eff .nMax ∧ s.eff .nMax ≤ 5400 := hs.1 .nMax
  simp only [State.nMin, State.nMax, State.effN]
  omega

/-- R112: the demand of a compressor field. -/
theorem driveDemand_eq (v : Int) :
    driveDemand v s.nMin s.nMax =
      if v ≤ 0 then .stop else .fixed ((max (s.eff .nMin) (min (s.eff .nMax) v)).toNat / 30 * 30) := by
  obtain ⟨hlow, hle, hmin, hmax⟩ := hs.speeds
  obtain ⟨-, hmin30, hmax30⟩ := hs
  unfold driveDemand
  split_ifs
  · rfl
  all_goals
    congr 1
    omega

theorem compClamped_eq_false_iff (v : Int) :
    compClamped v s.nMin s.nMax = false ↔
      v = -32768 ∨ v = 0 ∨ (s.eff .nMin ≤ v ∧ v ≤ s.eff .nMax ∧ v % 30 = 0) := by
  obtain ⟨-, -, hmin, hmax⟩ := hs.speeds
  simp only [compClamped, hmin, hmax, Bool.and_eq_false_iff, decide_eq_false_iff_not, Bool.not_eq_false',
    Bool.or_eq_true, Bool.and_eq_true, decide_eq_true_eq, not_not, and_assoc]
  rfl

end

section

variable (s : State)

/-! ### The fields applied to the state -/

theorem driveDamper_eq (d : Damper) (v : Int) : driveDamper d v s = s.onDamper d (drivenDamper v) := by
  unfold driveDamper drivenDamper
  split
  · have hsame : s.air.dampers.set d (s.damper d) = s.air.dampers := PerDamper.set_get _ d
    simp [State.onDamper, hsame]
  · split <;> rfl

/-- The state after the damper fields of a SERVICE_DRIVE. -/
def State.dampersDriven (fresh chill : Int) (s : State) : State :=
  (s.onDamper .fresh (drivenDamper fresh)).onDamper .chill (drivenDamper chill)

theorem applyDrive_eq (fresh chill fan compressor heater : Int) :
    applyDrive fresh chill fan compressor heater s =
      driveHeater heater (driveComp compressor (driveFan fan (s.dampersDriven fresh chill))) := by
  rw [applyDrive, driveDamper_eq, driveDamper_eq]
  rfl

theorem driveFan_driveSame (v : Int) : DriveSame s (driveFan v s) := by
  unfold driveFan
  split
  · exact DriveSame.refl s
  · exact requestFan_driveSame _ s

theorem driveFan_keeps (v : Int) :
    (driveFan v s).settings = s.settings ∧ (driveFan v s).zones = s.zones ∧ (driveFan v s).scanner = s.scanner ∧
      (driveFan v s).arb = s.arb ∧ (driveFan v s).defr = s.defr ∧ (driveFan v s).doors = s.doors ∧
      (driveFan v s).cond = s.cond ∧ (driveFan v s).link = s.link ∧ (driveFan v s).own = s.own ∧
      (driveFan v s).air.dampers = s.air.dampers := by
  unfold driveFan
  split <;> simp

theorem driveComp_keeps (v : Int) :
    (driveComp v s).settings = s.settings ∧ (driveComp v s).zones = s.zones ∧ (driveComp v s).scanner = s.scanner ∧
      (driveComp v s).arb = s.arb ∧ (driveComp v s).air = s.air ∧ (driveComp v s).doors = s.doors ∧
      (driveComp v s).cond = s.cond ∧ (driveComp v s).link = s.link ∧
      (driveComp v s).defr.svcHeater = s.defr.svcHeater := by
  unfold driveComp
  split
  · simp
  · obtain ⟨st, on, hd⟩ := giveDemand_defr s (driveDemand v s.nMin s.nMax)
    simp [hd]

theorem driveComp_fanSame (v : Int) : FanSame s (driveComp v s) := by
  unfold driveComp
  split
  · exact ⟨rfl, rfl, rfl⟩
  · exact giveDemand_fanSame _ s

theorem driveComp_own (v : Int) (hs : SettingsLaw s) : (driveComp v s).own = s.own := by
  unfold driveComp
  split
  · rfl
  · exact giveDemand_own s _ hs

/-! ### An accepted SERVICE_DRIVE -/

section

variable (fresh chill fan compressor heater : Int)

/-- What a SERVICE_DRIVE leaves as it was. -/
theorem applyDrive_keeps (t : State) (ht : t = applyDrive fresh chill fan compressor heater s) :
    t.settings = s.settings ∧ t.zones = s.zones ∧ t.scanner = s.scanner ∧ t.arb = s.arb ∧ t.doors = s.doors ∧
      t.cond = s.cond ∧ t.link = s.link := by
  obtain ⟨fset, fz, fsc, farb, -, fdoors, fcond, flink, -⟩ := driveFan_keeps (s.dampersDriven fresh chill) fan
  obtain ⟨cset, cz, csc, carb, -, cdoors, ccond, clink, -⟩ :=
    driveComp_keeps (driveFan fan (s.dampersDriven fresh chill)) compressor
  rw [ht, applyDrive_eq]
  exact ⟨cset.trans fset, cz.trans fz, csc.trans fsc, carb.trans farb, cdoors.trans fdoors, ccond.trans fcond,
    clink.trans flink⟩

theorem applyDrive_own (hs : SettingsLaw s) : (applyDrive fresh chill fan compressor heater s).own = s.own := by
  obtain ⟨fset, -, -, -, -, -, -, -, fown, -⟩ := driveFan_keeps (s.dampersDriven fresh chill) fan
  rw [applyDrive_eq]
  exact (driveComp_own _ compressor (hs.congr fset)).trans fown

theorem applyDrive_damper :
    ((applyDrive fresh chill fan compressor heater s).damper .fresh = drivenDamper fresh (s.damper .fresh)) ∧
      (applyDrive fresh chill fan compressor heater s).damper .chill = drivenDamper chill (s.damper .chill) := by
  have hair : (applyDrive fresh chill fan compressor heater s).air.dampers = (s.dampersDriven fresh chill).air.dampers := by
    obtain ⟨-, -, -, -, -, -, -, -, -, fdampers⟩ := driveFan_keeps (s.dampersDriven fresh chill) fan
    obtain ⟨-, -, -, -, cair, -⟩ := driveComp_keeps (driveFan fan (s.dampersDriven fresh chill)) compressor
    rw [applyDrive_eq, ← fdampers]
    exact congrArg AirPath.dampers cair
  simp only [State.damper, hair]
  exact ⟨rfl, rfl⟩

/-- R96: the fan's field. -/
theorem applyDrive_fan :
    (fan = -32768 → FanSame s (applyDrive fresh chill fan compressor heater s)) ∧
      (fan ≠ -32768 → FanAsked (driveDuty fan) s (applyDrive fresh chill fan compressor heater s)) := by
  have hafter : FanSame (driveFan fan (s.dampersDriven fresh chill)) (applyDrive fresh chill fan compressor heater s) := by
    rw [applyDrive_eq]
    exact driveComp_fanSame _ compressor
  have hbefore : FanSame s (s.dampersDriven fresh chill) := ⟨rfl, rfl, rfl⟩
  refine ⟨fun h => ?_, fun h => ?_⟩
  · rw [driveFan, if_pos (show fan = keep from h)] at hafter
    exact hbefore.trans hafter
  · rw [driveFan, if_neg (show fan ≠ keep from h)] at hafter
    exact ((requestFan_asked _ _).of_after hafter).of_before hbefore

/-- R112: the compressor's field. -/
theorem applyDrive_comp (hs : SettingsLaw s) :
    (compressor = -32768 → CompKeepsTime s.comp s (applyDrive fresh chill fan compressor heater s)) ∧
      (compressor ≠ -32768 →
        DemandTaken (driveDemand compressor s.nMin s.nMax) s (applyDrive fresh chill fan compressor heater s)) := by
  have hbefore : DriveSame s (driveFan fan (s.dampersDriven fresh chill)) :=
    DriveSame.trans (t := s.dampersDriven fresh chill) ⟨rfl, rfl, rfl, rfl, rfl, rfl, rfl⟩ (driveFan_driveSame (s.dampersDriven fresh chill) fan)
  have hset : SettingsLaw (driveFan fan (s.dampersDriven fresh chill)) := hs.congr hbefore.settings
  rw [applyDrive_eq]
  refine ⟨fun h => ?_, fun h => ?_⟩
  · rw [driveComp, if_pos (show compressor = keep from h)]
    exact ⟨hbefore.comp, hbefore.guard, hbefore.ramp, hbefore.condrun⟩
  · rw [driveComp, if_neg (show compressor ≠ keep from h)]
    have hn : ∀ i, (driveFan fan (s.dampersDriven fresh chill)).effN i = s.effN i := State.effN_congr hbefore.settings
    rw [show State.nMin (driveFan fan _) = s.nMin from hn .nMin, show State.nMax (driveFan fan _) = s.nMax from hn .nMax]
    exact ((giveDemand_taken _ _ hset).of_before hbefore).of_after rfl rfl rfl rfl rfl

/-- R113, R132: the heater's field under SERVICE. -/
theorem applyDrive_heater (hh : s.arb.holder = .service) (t : State)
    (ht : t = applyDrive fresh chill fan compressor heater s) :
    t.defr.svcHeater = heaterAfter heater s.defr.svcHeater ∧
      t.defr.heaterDrive = (t.defr.svcHeater && !s.level .heaterStuck && decide (t.defr.compState ≠ .running)) := by
  obtain ⟨-, -, -, harb, -, hcond, -⟩ := applyDrive_keeps s fresh chill fan compressor heater t ht
  obtain ⟨-, -, -, -, fdefr, -⟩ := driveFan_keeps (s.dampersDriven fresh chill) fan
  obtain ⟨-, -, -, -, -, -, -, -, csvc⟩ := driveComp_keeps (driveFan fan (s.dampersDriven fresh chill)) compressor
  have hwanted : t.defr.heaterDrive = t.heaterWanted := by
    rw [ht, applyDrive_eq]
    rfl
  refine ⟨?_, ?_⟩
  · rw [ht, applyDrive_eq]
    refine congrArg (heaterAfter heater) (csvc.trans ?_)
    rw [fdefr]
    rfl
  · rw [hwanted, State.heaterWanted, harb, hh, State.level, hcond]
    rfl

end

/-! ### The request (R76, R113, R181) -/

variable (tag : Byte) (a b c d e : Half)

theorem checkFrame_serviceDrive :
    checkFrame (Request.frame tag (.serviceDrive a b c d e)) = .request (.serviceDrive a b c d e) := by
  simp [checkFrame, Request.frame, Request.kind, Request.body, halfBytes, isRequestKind, readRequest]

theorem exec_serviceDrive (ha : Accepting s) {x : Answer} {t : State}
    (hp : performServiceDrive a.toInt b.toInt c.toInt d.toInt e.toInt s = (x, t)) (hq : t.own.signalled = []) :
    exec (.serviceDrive tag a b c d e) s =
      .next (replied ⟨0x0D#8, tag, halfBytes a ++ halfBytes b ++ halfBytes c ++ halfBytes d ++ halfBytes e⟩ x t) := by
  have hperform : perform (.serviceDrive a b c d e) s = (x, t) := hp
  have hsubmit := submit_request s tag (.serviceDrive a b c d e) ha (checkFrame_serviceDrive tag a b c d e)
    (by rw [hperform]; exact hq)
  rw [hperform] at hsubmit
  exact congrArg Host.Outcome.next hsubmit

theorem exec_serviceDrive_refused (ha : Accepting s) {st : Status} (hr : s.refusesDrive d.toInt e.toInt = some st) :
    exec (.serviceDrive tag a b c d e) s =
      .next (replied ⟨0x0D#8, tag, halfBytes a ++ halfBytes b ++ halfBytes c ++ halfBytes d ++ halfBytes e⟩ (.refuse st)
        s) :=
  exec_serviceDrive s tag a b c d e ha (by rw [performServiceDrive, hr]; rfl) ha.1

/-- R113: the heater and a run of the compressor are asked for together. -/
def State.drivesBoth (s : State) (compressor heater : Int) : Prop :=
  (0 < heater ∨ (heater = -32768 ∧ s.defr.svcHeater = true)) ∧
    (s.comp.state = .running ∨ 0 < compressor ∨ (compressor = -32768 ∧ ∃ n, s.comp.demand = .fixed n))

theorem drivesBoth_iff (compressor heater : Int) :
    s.drivesBoth compressor heater ↔
      heaterAfter heater s.defr.svcHeater = true ∧
        (s.comp.state = .running ∨ asksRun compressor = true ∨ (compressor = keep ∧ s.comp.demand.isFixed = true)) := by
  simp only [State.drivesBoth, heaterAfter_eq_true_iff, asksRun, decide_eq_true_eq, Demand.isFixed_iff, keep]

theorem refusesDrive_of_holder (compressor heater : Int) (h : s.arb.holder ≠ .service) :
    s.refusesDrive compressor heater = some .notApplicable := if_pos h

theorem refusesDrive_of_lockout (compressor heater : Int) (h : s.arb.holder = .service)
    (hl : s.comp.state = .lockout ∧ 0 < compressor) : s.refusesDrive compressor heater = some .notApplicable := by
  rw [State.refusesDrive, if_neg (not_not.mpr h), if_pos ⟨hl.1, decide_eq_true hl.2⟩]

theorem refusesDrive_of_both (compressor heater : Int) (h : s.arb.holder = .service)
    (hl : ¬ (s.comp.state = .lockout ∧ 0 < compressor)) (hb : s.drivesBoth compressor heater) :
    s.refusesDrive compressor heater = some .busy := by
  rw [State.refusesDrive, if_neg (not_not.mpr h), if_neg (by simpa [asksRun] using hl),
    if_pos ((drivesBoth_iff s compressor heater).mp hb)]

theorem refusesDrive_none (compressor heater : Int) (h : s.arb.holder = .service)
    (hl : ¬ (s.comp.state = .lockout ∧ 0 < compressor)) (hb : ¬ s.drivesBoth compressor heater) :
    s.refusesDrive compressor heater = none := by
  rw [State.refusesDrive, if_neg (not_not.mpr h), if_neg (by simpa [asksRun] using hl),
    if_neg fun hx => hb ((drivesBoth_iff s compressor heater).mpr hx)]

/-- R96: CLAMPED tells of a field that was limited. -/
theorem driveStatus_eq (hs : SettingsLaw s) (fresh chill fan compressor heater : Int) :
    (if damperClamped fresh || damperClamped chill || fanClamped fan || compClamped compressor s.nMin s.nMax ||
        heaterClamped heater then Status.clamped else .ok) =
      if (fresh = -32768 ∨ (-1 ≤ fresh ∧ fresh ≤ 480)) ∧ (chill = -32768 ∨ (-1 ≤ chill ∧ chill ≤ 480)) ∧
          (fan = -32768 ∨ fan = 0 ∨ (25 ≤ fan ∧ fan ≤ 100)) ∧
          (compressor = -32768 ∨ compressor = 0 ∨
            (s.eff .nMin ≤ compressor ∧ compressor ≤ s.eff .nMax ∧ compressor % 30 = 0)) ∧
          (heater = -32768 ∨ heater = 0 ∨ heater = 1) then .ok
      else .clamped := by
  rw [← ite_not]
  refine if_congr ?_ rfl rfl
  simp only [Bool.not_eq_true, Bool.or_eq_false_iff, damperClamped_eq_false_iff, fanClamped_eq_false_iff,
    compClamped_eq_false_iff hs, heaterClamped_eq_false_iff, and_assoc]

end

/-- Settles O32: the three refusals in their order, and each output of an accepted request by its field. -/
theorem serviceDriveByItsFields : Obligations.ServiceDriveByItsFields := by
  unfold Obligations.ServiceDriveByItsFields
  refine ⟨fun tag a b c d e s ha => ⟨fun hh => ?_, fun hh hl hd => ?_, fun hh hl he hd => ?_⟩,
    fun tag a b c d e s ha hs hh hl hb => ?_⟩
  · exact exec_serviceDrive_refused s tag a b c d e ha (refusesDrive_of_holder s _ _ hh)
  · exact exec_serviceDrive_refused s tag a b c d e ha (refusesDrive_of_lockout s _ _ hh ⟨hl, hd⟩)
  · exact exec_serviceDrive_refused s tag a b c d e ha (refusesDrive_of_both s _ _ hh hl ⟨he, hd⟩)
  · obtain ⟨t, ht⟩ : ∃ t, t = applyDrive a.toInt b.toInt c.toInt d.toInt e.toInt s := ⟨_, rfl⟩
    obtain ⟨hfresh, hchill⟩ := applyDrive_damper s a.toInt b.toInt c.toInt d.toInt e.toInt
    obtain ⟨hfankeep, hfanask⟩ := applyDrive_fan s a.toInt b.toInt c.toInt d.toInt e.toInt
    obtain ⟨hcompkeep, hcomptake⟩ := applyDrive_comp s a.toInt b.toInt c.toInt d.toInt e.toInt hs
    obtain ⟨hsvc, hheater⟩ := applyDrive_heater s a.toInt b.toInt c.toInt d.toInt e.toInt hh t ht
    have hkept := applyDrive_keeps s a.toInt b.toInt c.toInt d.toInt e.toInt t ht
    have hown := applyDrive_own s a.toInt b.toInt c.toInt d.toInt e.toInt hs
    rw [← ht] at hfresh hchill hfankeep hfanask hcompkeep hcomptake hown
    rw [driveDuty_eq] at hfanask
    rw [driveDemand_eq hs] at hcomptake
    refine ⟨t, ?_, ?_, ?_, fun h => ?_, fun h => ?_, ?_, hfankeep, hfanask, hcompkeep, fun h => ?_, ?_, ?_, ?_, hheater,
      hkept⟩
    · refine exec_serviceDrive s tag a b c d e ha ?_ (by rw [hown]; exact ha.1)
      rw [performServiceDrive, refusesDrive_none s _ _ hh hl hb, ht, ← driveStatus_eq s hs]
    · rw [hfresh, drivenDamper_target]
    · rw [hchill, drivenDamper_target]
    · rw [hfresh]
      exact ((drivenDamper_by_field _ _).2.1 h).homing.1
    · rw [hchill]
      exact ((drivenDamper_by_field _ _).2.1 h).homing.1
    · rintro x m (⟨rfl, rfl⟩ | ⟨rfl, rfl⟩)
      · rw [hfresh]
        exact drivenDamper_by_field _ _
      · rw [hchill]
        exact drivenDamper_by_field _ _
    · rw [(hcomptake h).demand]
      exact hcomptake h
    · split
      · next h => rw [(hfankeep h).1]
      · next h => exact (hfanask h).requested
    · split
      · next h => rw [(hcompkeep h).1]
      · next h => exact (hcomptake h).demand
    · exact hsvc

end Sys2Proof.Machine

/-! The fan's own events: what the expiry of FANTIME ends (R89, R91, R92), a rising edge of the tachometer (R90, R160), and
its overflow with the stall that the third in a row makes (R91, R94). -/

namespace Sys2Proof.Machine

/-- R153: a fresh timing leaves nothing of a stop before it. -/
@[simp] theorem Counter.timing_stop (c : Counter) (n : Nat) : c.stop.timing n = c.timing n := by
  unfold Counter.stop
  split <;> rfl

section

variable (s : State)

/-- R153, R160: a start of a stopped capture-period counter: count 0, the first edge to come. -/
theorem State.startC_period_eq (i : CounterId) (hm : i.mode = .period) (hr : (s.counter i).run = false) :
    s.startC i = s.setCounter i { s.counter i with run := true, count := 0, part := 0, firstEdge := true } := by
  simp [State.startC, State.onCounter, Counter.start, hm, hr]

/-! ### The expiry of FANTIME (R89, R91, R92) -/

/-- R155: FANTIME has expired. -/
def State.fantimeExpired (s : State) : State :=
  s.setCounter .fantime { s.counter .fantime with run := false, count := 0, part := 0 }

theorem fanTimeExpires_of_run (during : FanState → Bool) (effect : State → State)
    (hd : during s.air.fan.state = true) (hr : (s.counter .fantime).run = true) :
    fanTimeExpires during effect s = effect s.fantimeExpired := by
  rw [fanTimeExpires, if_pos hd, fireOneShot_of_run _ _ _ hr]
  rfl

theorem exec_kickEnd (h : s.air.fan.state = .kick) (hr : (s.counter .fantime).run = true) :
    exec .kickEnd s = .next (finish (onKickEnd s.fantimeExpired)) := by
  show Host.Outcome.next (finish (fanTimeExpires _ onKickEnd s)) = _
  rw [fanTimeExpires_of_run s _ _ (by simp [h]) hr]

theorem exec_fanRetry (h : s.air.fan.state = .rest ∨ s.air.fan.state = .retryWait)
    (hr : (s.counter .fantime).run = true) :
    exec .fanRetry s = .next (finish (onFanRetry s.fantimeExpired)) := by
  show Host.Outcome.next (finish (fanTimeExpires _ onFanRetry s)) = _
  rw [fanTimeExpires_of_run s _ _ (by rcases h with h | h <;> simp [h]) hr]

theorem exec_provingWindowEnd (h : s.air.fan.state = .run) (hr : (s.counter .fantime).run = true) :
    exec .provingWindowEnd s = .next (finish (onProvingEnd s.fantimeExpired)) := by
  show Host.Outcome.next (finish (fanTimeExpires _ onProvingEnd s)) = _
  rw [fanTimeExpires_of_run s _ _ (by simp [h]) hr]

/-- R89: the kick of a fan whose TACH is stopped: full drive for 2 s, and TACH from a count of 0. -/
theorem kickFan_of_tach_stopped (hr : (s.counter .tach).run = false) :
    kickFan s =
      { s with
        bank := (s.bank.set .fantime ((s.counter .fantime).timing 2)).set .tach
          { s.counter .tach with run := true, count := 0, part := 0, firstEdge := true }
        air := { s.air with
          fan := { s.air.fan with state := .kick, drive := 255, overflowRun := 0, proven := false } } } := by
  have hkeep : ∀ f, ((s.onFan f).restartC .fantime 2).counter .tach = s.counter .tach := fun f =>
    (State.counter_restartC_of_ne _ _ _ _ (by decide)).trans (onFan_counter s f .tach)
  rw [kickFan, State.startC_period_eq _ .tach rfl (by rw [hkeep, hr]), hkeep,
    State.restartC_eq _ .fantime 2 (by decide) (.inl rfl)]
  rfl

theorem onFanRetry_stops (h : s.air.fan.requested = 0) :
    onFanRetry s = s.onFan fun f => { f with state := .stopped } := if_pos h

theorem onFanRetry_kicks (h : s.air.fan.requested ≠ 0) : onFanRetry s = kickFan s := if_neg h

/-! ### A rising edge (R90, R92, R160) -/

theorem onTachEdge_ignored
    (h : (s.counter .tach).run = false ∨ ((s.counter .tach).firstEdge = false ∧ (s.counter .tach).count = 0)) :
    onTachEdge s = s := by
  rcases h with h | ⟨hf, hc⟩
  · simp [onTachEdge, h]
  · simp [onTachEdge, hf, hc]

theorem onTachEdge_first (hr : (s.counter .tach).run = true) (hf : (s.counter .tach).firstEdge = true) :
    onTachEdge s = s.setCounter .tach { s.counter .tach with count := 0, firstEdge := false, part := 0 } := by
  simp [onTachEdge, hr, hf]

/-- R160: the count is captured, and TACH counts again from 0. -/
def State.tachCaptured (s : State) : State :=
  s.setCounter .tach { s.counter .tach with result := (s.counter .tach).count, count := 0, part := 0 }

theorem onTachEdge_result (hr : (s.counter .tach).run = true) (hf : (s.counter .tach).firstEdge = false)
    (hc : (s.counter .tach).count ≠ 0) :
    onTachEdge s = onTachResult (s.counter .tach).count s.tachCaptured := by
  simp [onTachEdge, hr, hf, hc, State.tachCaptured]

theorem rpmOf_eq_min (period : Nat) : rpmOf period = min 65535 (3000000 / period) := by
  rw [rpmOf, limitedN_eq _ _ _ (Nat.zero_le _), Nat.zero_max]

/-- R90, R92: a result gives the speed, and in RUN the first one starts the proving window. -/
theorem onTachResult_eq (period : Nat) :
    onTachResult period s =
      { s with
        bank :=
          if s.air.fan.state = .run ∧ s.air.fan.proven = false ∧ (s.counter .fantime).run = false then
            s.bank.set .fantime ((s.counter .fantime).timing 10)
          else s.bank
        air := { s.air with fan := { s.air.fan with rpm := min 65535 (3000000 / period), overflowRun := 0 } } } := by
  unfold onTachResult
  simp only [rpmOf_eq_min, onFan_counter, State.onFan_air, Bool.and_eq_true, decide_eq_true_eq, Bool.not_eq_true',
    and_assoc]
  split
  · rw [State.restartC_eq _ .fantime 10 (by decide) (.inl rfl)]
    rfl
  · rfl

/-! ### An overflow (R90, R160) -/

/-- R90, R160: TACH has wrapped, its next edge is a first edge, and the speed is 0. -/
def State.tachWrapped (s : State) : State :=
  (s.setCounter .tach { s.counter .tach with count := 0, firstEdge := true, part := 0 }).onFan
    fun f => { f with rpm := 0 }

/-- R91, R92: an overflow in RUN counts toward a stall and stops the proving window. -/
def State.overflowCounted (s : State) : State :=
  (s.tachWrapped.stopC .fantime).onFan fun f => { f with overflowRun := f.overflowRun + 1 }

theorem exec_tachOverflow (hr : (s.counter .tach).run = true) :
    exec .tachOverflow s = .next (finish (onTachOverflow s)) := by
  show Host.Outcome.next (finish (tachOverflows s)) = _
  rw [tachOverflows, if_pos hr]

theorem onTachOverflow_of_kick (h : s.air.fan.state = .kick) : onTachOverflow s = s.tachWrapped := by
  simp [onTachOverflow, h, State.tachWrapped, State.onCounter]

theorem onTachOverflow_of_run (h : s.air.fan.state = .run) :
    onTachOverflow s = if s.air.fan.overflowRun < 2 then s.overflowCounted else stallFan s.overflowCounted := by
  have hrun : onTachOverflow s =
      if 3 ≤ s.air.fan.overflowRun + 1 then stallFan s.overflowCounted else s.overflowCounted := by
    unfold onTachOverflow
    simp only [State.onFan_air, State.onCounter_air, h]
    rfl
  have hthird : 3 ≤ s.air.fan.overflowRun + 1 ↔ ¬ s.air.fan.overflowRun < 2 := by omega
  rw [hrun, if_congr hthird rfl rfl, ite_not]

theorem overflowCounted_eq :
    s.overflowCounted =
      { s with
        bank :=
          (s.bank.set .tach { s.counter .tach with count := 0, firstEdge := true, part := 0 }).set .fantime
            (s.counter .fantime).stop
        air := { s.air with fan := { s.air.fan with rpm := 0, overflowRun := s.air.fan.overflowRun + 1 } } } := rfl

/-! ### A stall (R91, R94) -/

/-- R91: the fan stopped by a stall, its counters with it. -/
def State.fanStopped (s : State) : State :=
  ((s.stopC .tach).stopC .fantime).onFan fun f =>
    { f with drive := 0, rpm := 0, overflowRun := 0, proven := false, stallCount := min 3 (f.stallCount + 1) }

/-- R91: the stalled fan rests, or waits, for `n` seconds. -/
def State.fanStalled (state : FanState) (n : Nat) (s : State) : State :=
  { s with
    bank := (s.bank.set .tach (s.counter .tach).stop).set .fantime ((s.counter .fantime).timing n)
    air := { s.air with
      fan := { s.air.fan with
        state := state, drive := 0, rpm := 0, overflowRun := 0, proven := false
        stallCount := min 3 (s.air.fan.stallCount + 1) } } }

theorem restartC_fanStopped (state : FanState) (n : Nat) (hn : n ≠ 0) :
    (s.fanStopped.onFan fun f => { f with state := state }).restartC .fantime n = s.fanStalled state n := by
  rw [State.restartC_eq _ .fantime n hn (.inl rfl), onFan_counter, State.fanStopped, onFan_counter,
    State.counter_stopC_self, State.counter_stopC_of_ne _ _ _ (by decide), Counter.timing_stop]
  simp [State.setCounter, State.onFan, State.fanStalled, State.stopC_eq, State.counter, Bank.get_set_of_ne]

/-- R91, R94: a stall short of the third brings the rest; from the third on it brings the wait and the fault. -/
theorem stallFan_eq :
    stallFan s =
      if s.air.fan.stallCount < 2 then s.fanStalled .rest 10 else setFanFault true (s.fanStalled .retryWait 300) := by
  have hthird : min 3 (s.air.fan.stallCount + 1) < 3 ↔ s.air.fan.stallCount < 2 := by omega
  rw [← restartC_fanStopped s .rest 10 (by decide), ← restartC_fanStopped s .retryWait 300 (by decide),
    ← if_congr hthird rfl rfl]
  rfl

/-- R91: what every stall leaves. -/
theorem stallFan_stalls :
    (stallFan s).air.fan.drive = 0 ∧ (stallFan s).air.fan.rpm = 0 ∧ (stallFan s).air.fan.overflowRun = 0 ∧
      (stallFan s).air.fan.proven = false ∧ (stallFan s).air.fan.requested = s.air.fan.requested ∧
      ((stallFan s).counter .tach).run = false ∧
      (stallFan s).air.fan.stallCount = min 3 (s.air.fan.stallCount + 1) ∧
      (stallFan s).air.dampers = s.air.dampers ∧ (stallFan s).own = s.own := by
  rw [stallFan_eq]
  split <;>
    exact ⟨rfl, rfl, rfl, rfl, rfl, Counter.stop_run _, rfl, rfl, rfl⟩

theorem stallFan_counter (j : CounterId) (ht : j ≠ .tach) (hf : j ≠ .fantime) :
    (stallFan s).counter j = s.counter j := by
  have hstalled : ∀ state n, (s.fanStalled state n).counter j = s.counter j := fun _ _ =>
    (Bank.get_set_of_ne _ _ _ _ hf).trans (Bank.get_set_of_ne _ _ _ _ ht)
  rw [stallFan_eq]
  split
  · exact hstalled .rest 10
  · exact hstalled .retryWait 300

/-- R91: a stall short of the third. -/
theorem stallFan_rests (h : s.air.fan.stallCount < 2) :
    (stallFan s).air.fan.state = .rest ∧ (stallFan s).counter .fantime = (s.counter .fantime).timing 10 ∧
      (stallFan s).cond = s.cond ∧ (stallFan s).comp = s.comp ∧ (stallFan s).air.fan.fault = s.air.fan.fault := by
  rw [stallFan_eq, if_pos h]
  exact ⟨rfl, rfl, rfl, rfl, rfl⟩

/-- R91, R94: the third stall. -/
theorem stallFan_waits (h : 2 ≤ s.air.fan.stallCount) :
    (stallFan s).air.fan.state = .retryWait ∧ (stallFan s).counter .fantime = (s.counter .fantime).timing 300 ∧
      (stallFan s).cond = s.cond.setLevel .fanFault true ∧ (stallFan s).comp = { s.comp with fanCap := true } ∧
      (stallFan s).air.fan.fault = true := by
  rw [stallFan_eq, if_neg (Nat.not_lt.mpr h)]
  exact ⟨rfl, rfl, rfl, rfl, rfl⟩

end

/-- Settles O40: FANTIME has expired, then the effect of the state that it timed. -/
theorem fanTimeExpiryByFanState : Obligations.FanTimeExpiryByFanState := by
  unfold Obligations.FanTimeExpiryByFanState
  refine fun s hst hrun => ⟨fun hkick => ?_, fun hrest hzero => ?_, fun hrest hduty htach => ?_, fun hproving => ?_⟩
  · rw [exec_kickEnd s hkick hrun, finish_of_settled]
    · rfl
    · exact hst.of_eq rfl rfl
  · rw [exec_fanRetry s hrest hrun, onFanRetry_stops s.fantimeExpired hzero, finish_of_settled]
    · rfl
    · exact hst.of_eq rfl rfl
  · rw [exec_fanRetry s hrest hrun, onFanRetry_kicks s.fantimeExpired hduty, kickFan_of_tach_stopped s.fantimeExpired htach,
      finish_of_settled]
    · simp [State.fantimeExpired, State.setCounter, State.counter, Counter.timing, Bank.get_set_of_ne]
    · exact hst.of_eq rfl rfl
  · rw [exec_provingWindowEnd s hproving hrun, finish_of_settled]
    · rfl
    · exact hst.of_eq rfl rfl

/-- Settles O41: an edge by what TACH holds, and an overflow by the fan's state and the overflows and stalls before. -/
theorem tachEdgeAndOverflow : Obligations.TachEdgeAndOverflow := by
  unfold Obligations.TachEdgeAndOverflow
  refine ⟨fun s hst => ?_, fun s hst hrun => ?_⟩
  · have hedge : exec .tachEdge s = .next (finish (onTachEdge s)) := rfl
    refine ⟨fun hignored => ?_, fun hrun hfirst => ?_, fun hrun hfirst hcount => ?_⟩
    · rw [hedge, onTachEdge_ignored s hignored, finish_of_settled s hst]
    · rw [hedge, onTachEdge_first s hrun hfirst, finish_of_settled]
      · rfl
      · exact hst.of_eq rfl rfl
    · rw [hedge, onTachEdge_result s hrun hfirst hcount, onTachResult_eq, finish_of_settled]
      · rfl
      · exact hst.of_eq rfl rfl
  · rw [exec_tachOverflow s hrun]
    refine ⟨fun hkick => ?_, fun hfan hfew => ?_, fun hfan hthird => ?_⟩
    · rw [onTachOverflow_of_kick s hkick, finish_of_settled]
      · rfl
      · exact hst.of_eq rfl rfl
    · rw [onTachOverflow_of_run s hfan, if_pos hfew, overflowCounted_eq, finish_of_settled]
      exact hst.of_eq rfl rfl
    · have hcounter : ∀ i, i ≠ .tach → i ≠ .fantime → s.overflowCounted.counter i = s.counter i := fun i ht hf =>
        (Bank.get_set_of_ne _ _ _ _ hf).trans (Bank.get_set_of_ne _ _ _ _ ht)
      have htime : ∀ n, (s.overflowCounted.counter .fantime).timing n = (s.counter .fantime).timing n :=
        Counter.timing_stop (s.counter .fantime)
      obtain ⟨hdrive, hrpm, hoverflow, hproven, hrequested, htach, hstall, hdampers, hown⟩ :=
        stallFan_stalls s.overflowCounted
      obtain ⟨-, hset, hzones, hscan, harb, hdefr, hdoors, hlink⟩ := stallFan_keeps s.overflowCounted
      refine ⟨stallFan s.overflowCounted, ?_, hdrive, hrpm, hoverflow, hproven, hrequested, htach, hstall,
        fun hfew => ?_, fun hmany => ?_, fun i ht hf => ?_, hdampers, hset, hzones, hscan, harb, hdefr, hdoors, hlink⟩
      · rw [onTachOverflow_of_run s hfan, if_neg (by omega), finish_of_settled]
        exact hst.of_eq hlink (congrArg _ hown)
      · rw [← htime]
        exact stallFan_rests s.overflowCounted hfew
      · rw [← htime]
        exact stallFan_waits s.overflowCounted hmany
      · rw [stallFan_counter _ i ht hf, hcounter i ht hf]

end Sys2Proof.Machine

/-! The laws of the compressor, of the heater and of the routes in use (R61, R99, R100, R102, R132, R136), across the
operations of the Compressor Controller. -/

namespace Sys2Proof.Machine

/-! ### The speeds that a RUNNING compressor may have (R100, R102) -/

/-- R100, R102: a speed within N_MIN..N_MAX as they stand, in steps of 30. -/
def State.SpeedAllowed (s : State) (n : Nat) : Prop := s.nMin ≤ n ∧ n ≤ s.nMax ∧ n % 30 = 0

section

variable {s t : State}

theorem speedLaw_iff : SpeedLaw s ↔ s.comp.demand.steps30 ∧
    (s.comp.state = .running → s.SpeedAllowed s.comp.command ∧ s.SpeedAllowed s.comp.target) := Iff.rfl

/-- R183, R186: the limits are multiples of 30, N_MIN below N_MAX. -/
theorem SettingsLaw.limits (h : SettingsLaw s) : s.nMin ≤ s.nMax ∧ s.nMin % 30 = 0 ∧ s.nMax % 30 = 0 := by
  have hlo := (h.1 .nMin).1
  have hhi := (h.1 .nMax).1
  have hmin := h.2.1
  have hmax := h.2.2
  simp only [Item.range] at hlo hhi
  exact ⟨h.nMin_le_nMax, by simp only [State.nMin, State.effN]; omega, by simp only [State.nMax, State.effN]; omega⟩

theorem SettingsLaw.nMin_allowed (h : SettingsLaw s) : s.SpeedAllowed s.nMin := ⟨le_rfl, h.limits.1, h.limits.2.1⟩

/-- A multiple of 30 limited to N_MIN..N_MAX is allowed. -/
theorem SettingsLaw.limitSpeed_allowed (h : SettingsLaw s) {n : Nat} (hn : n % 30 = 0) :
    s.SpeedAllowed (s.limitSpeed n) := by
  obtain ⟨hle, hmin, hmax⟩ := h.limits
  unfold State.SpeedAllowed State.limitSpeed limitedN
  split_ifs <;> omega

theorem SettingsLaw.autoTarget_allowed (h : SettingsLaw s) {floor : Option Nat} (hf : floorInLimits floor) :
    s.SpeedAllowed (s.autoTarget floor) := by
  have hbase : s.SpeedAllowed (s.limitSpeed (floor30 (s.rawTarget + s.ambientLift))) :=
    h.limitSpeed_allowed (Nat.mul_mod_left _ _)
  unfold State.autoTarget State.raiseToFloor
  split
  · exact h.nMin_allowed
  · cases floor with
    | none => exact hbase
    | some f =>
      dsimp only
      rcases max_choice (s.limitSpeed (floor30 (s.rawTarget + s.ambientLift))) (s.limitSpeed f) with hm | hm <;> rw [hm]
      · exact hbase
      · exact h.limitSpeed_allowed hf.2.2

/-- R101, R102: what a demand resolves to is allowed. -/
theorem SettingsLaw.resolve_allowed (h : SettingsLaw s) (hd : s.comp.demand.steps30) {n : Nat}
    (hn : s.resolve = some n) : s.SpeedAllowed n := by
  unfold State.resolve at hn
  cases hdem : s.comp.demand with
  | stop => simp [hdem] at hn
  | fixed m =>
    rw [hdem] at hn hd
    exact Option.some.inj hn ▸ h.limitSpeed_allowed hd
  | auto floor =>
    rw [hdem] at hn hd
    dsimp only at hn
    split at hn
    · exact Option.some.inj hn ▸ h.autoTarget_allowed hd
    · cases hn

/-- R104: a step of the ramp stays between the command and the target, in steps of 30. -/
theorem State.SpeedAllowed.rampStep {c n : Nat} (hc : s.SpeedAllowed c) (hn : s.SpeedAllowed n) (up down : Nat) :
    s.SpeedAllowed (rampStep c n up down) := by
  unfold State.SpeedAllowed at *
  unfold Machine.rampStep
  split
  · rcases min_choice n (c + 30 * up) with hm | hm <;> rw [hm] <;> omega
  · rcases max_choice n (c - 30 * down) with hm | hm <;> rw [hm] <;> omega

theorem State.SpeedAllowed.congr (h : t.settings = s.settings) (n : Nat) : t.SpeedAllowed n ↔ s.SpeedAllowed n := by
  simp [State.SpeedAllowed, State.nMin, State.nMax, State.effN_congr h]

/-! ### The laws that an operation keeps -/

theorem RouteLaw.congr (h : RouteLaw s) (ha : t.arb = s.arb) : RouteLaw t := by
  simpa [RouteLaw, PlanLaw, ha] using h

end

/-- What the laws read of the compressor's record and of the sequencer's stands as it did. -/
def DriveReadsSame (s t : State) : Prop :=
  t.comp.state = s.comp.state ∧ t.comp.command = s.comp.command ∧ t.comp.target = s.comp.target ∧
    t.comp.demand = s.comp.demand ∧ t.defr.compState = s.defr.compState ∧ t.defr.heaterDrive = s.defr.heaterDrive ∧
    t.defr.phase = s.defr.phase ∧ t.defr.resumeHeat = s.defr.resumeHeat

theorem DriveReadsSame.of_records {s t : State} (hc : t.comp = s.comp) (hd : t.defr = s.defr) : DriveReadsSame s t := by
  simp [DriveReadsSame, hc, hd]

/-- From `s` to `t` each law of the compressor, the heater and the routes goes on holding, and the settings stay in
their ranges; the speeds rest on the settings' and the routes' ranges. -/
structure DriveLawsKept (s t : State) : Prop where
  heater : HeaterLaw s → HeaterLaw t
  line : SpeedLineLaw s → SpeedLineLaw t
  resume : ResumeLaw s → ResumeLaw t
  routes : RouteLaw s → RouteLaw t
  settings : SettingsLaw s → SettingsLaw t
  speed : SettingsLaw s → RouteLaw s → SpeedLaw s → SpeedLaw t

namespace DriveLawsKept

variable {s t u : State}

theorem refl (s : State) : DriveLawsKept s s := ⟨id, id, id, id, id, fun _ _ h => h⟩

theorem trans (h₁ : DriveLawsKept s t) (h₂ : DriveLawsKept t u) : DriveLawsKept s u where
  heater := h₂.heater ∘ h₁.heater
  line := h₂.line ∘ h₁.line
  resume := h₂.resume ∘ h₁.resume
  routes := h₂.routes ∘ h₁.routes
  settings := h₂.settings ∘ h₁.settings
  speed hs hr h := h₂.speed (h₁.settings hs) (h₁.routes hr) (h₁.speed hs hr h)

/-- An operation on the Arbiter's record or on the items other than the speed limits. -/
theorem of_same (hr : RouteLaw s → RouteLaw t) (hs : SettingsLaw s → SettingsLaw t)
    (hlim : t.nMin = s.nMin ∧ t.nMax = s.nMax) (h : DriveReadsSame s t) : DriveLawsKept s t := by
  obtain ⟨hstate, hcommand, htarget, hdemand, hknown, hdrive, hphase, hresume⟩ := h
  obtain ⟨hmin, hmax⟩ := hlim
  refine ⟨fun k => ?_, fun k => ?_, fun k => ?_, hr, hs, fun _ _ k => ?_⟩
  · simpa only [HeaterLaw, hstate, hknown, hdrive] using k
  · simpa only [SpeedLineLaw, hstate, hcommand, htarget] using k
  · simpa only [ResumeLaw, hphase, hresume] using k
  · simpa only [SpeedLaw, hstate, hcommand, htarget, hdemand, hmin, hmax] using k

/-- Most operations leave what the laws read. -/
theorem of_eq (h : t.settings = s.settings ∧ t.arb = s.arb) (hd : DriveReadsSame s t) : DriveLawsKept s t :=
  of_same (fun k => k.congr h.2) (fun k => k.congr h.1)
    ⟨State.effN_congr h.1 .nMin, State.effN_congr h.1 .nMax⟩ hd

/-- An operation on none of the records that the laws read. -/
theorem of_records (h : t.settings = s.settings ∧ t.arb = s.arb) (hc : t.comp = s.comp) (hd : t.defr = s.defr) :
    DriveLawsKept s t := of_eq h (.of_records hc hd)

/-- An operation on the Arbiter's record. -/
theorem of_arb (hr : RouteLaw s → RouteLaw t) (hs : t.settings = s.settings) (hc : t.comp = s.comp)
    (hd : t.defr = s.defr) : DriveLawsKept s t :=
  of_same hr (fun k => k.congr hs) ⟨State.effN_congr hs .nMin, State.effN_congr hs .nMax⟩ (.of_records hc hd)

/-- An operation on the sequencer's record that leaves what it knows of the compressor. -/
theorem of_sequencer (h : t.settings = s.settings ∧ t.arb = s.arb ∧ t.comp = s.comp)
    (hk : t.defr.compState = s.defr.compState)
    (hd : t.defr.heaterDrive = true → s.defr.heaterDrive = true ∨ s.defr.compState ≠ .running)
    (hr : ResumeLaw s → ResumeLaw t) : DriveLawsKept s t := by
  obtain ⟨hset, harb, hcomp⟩ := h
  refine ⟨fun ⟨hknown, hoff⟩ => ⟨by rw [hk, hcomp, hknown], fun hon => ?_⟩,
    fun k => by simpa [SpeedLineLaw, hcomp] using k, hr, fun k => k.congr harb, fun k => k.congr hset, fun _ _ k => ?_⟩
  · rw [hcomp]
    exact (hd hon).elim hoff fun hne => hknown ▸ hne
  · simpa only [SpeedLaw, hcomp, State.nMin, State.nMax, State.effN_congr hset] using k

/-- An operation of the Compressor Controller, which leaves the phase of the defrost. -/
theorem of_comp (h : t.settings = s.settings ∧ t.arb = s.arb)
    (hp : t.defr.phase = s.defr.phase ∧ t.defr.resumeHeat = s.defr.resumeHeat) (hh : HeaterLaw s → HeaterLaw t)
    (hl : SpeedLineLaw s → SpeedLineLaw t) (hv : SettingsLaw s → SpeedLaw s → SpeedLaw t) : DriveLawsKept s t :=
  ⟨hh, hl, fun k => by simpa [ResumeLaw, hp] using k, fun k => k.congr h.2, fun k => k.congr h.1, fun hs _ => hv hs⟩

end DriveLawsKept

open DriveLawsKept

section

variable (s : State)

/-! ### The compressor's state and record (R99, R103 to R105, R118, R132) -/

/-- R132: the heater is wanted only while the compressor is not RUNNING as last reported. -/
theorem State.heaterWanted_ne_running (h : s.heaterWanted = true) : s.defr.compState ≠ .running := by
  unfold State.heaterWanted at h
  simp only [Bool.and_eq_true, decide_eq_true_eq] at h
  exact h.2

/-- R99, R118, R132: a report of the state is known, and the heater drive follows it. -/
theorem setCompState_heaterLaw (st : CompState) : HeaterLaw (setCompState st s) :=
  ⟨rfl, fun h => State.heaterWanted_ne_running _ h⟩

theorem HeaterLaw.of_reads {s t : State} (h : HeaterLaw s) (hc : t.comp.state = s.comp.state) (hd : t.defr = s.defr) :
    HeaterLaw t := by
  simpa only [HeaterLaw, hc, hd] using h

/-- A compressor that is not RUNNING passes to another state that is not RUNNING. -/
theorem setCompState_driveLaws (st : CompState) (hst : st ≠ .running) (hs : s.comp.state ≠ .running) :
    DriveLawsKept s (setCompState st s) :=
  of_comp (by simp) ⟨rfl, rfl⟩ (fun _ => setCompState_heaterLaw s st) (fun k _ => k hs) fun _ k =>
    ⟨k.1, fun h => absurd h hst⟩

/-- A change of the record alone. -/
theorem onComp_driveLaws (f : Compressor → Compressor) (hf : (f s.comp).state = s.comp.state)
    (hl : s.comp.state ≠ .running → (f s.comp).command = s.comp.command ∧ (f s.comp).target = s.comp.target)
    (hv : SettingsLaw s → SpeedLaw s → SpeedLaw (s.onComp f)) : DriveLawsKept s (s.onComp f) :=
  of_comp ⟨rfl, rfl⟩ ⟨rfl, rfl⟩ (fun k => k.of_reads hf rfl) (fun k hne => by
    rw [State.onComp_comp, hf] at hne
    obtain ⟨hc, ht⟩ := hl hne
    rw [State.onComp_comp, hc, ht]
    exact k hne) hv

/-- A change of the record that the laws do not read. -/
theorem onComp_driveLaws_of_marks (f : Compressor → Compressor)
    (hf : (f s.comp).state = s.comp.state ∧ (f s.comp).command = s.comp.command ∧ (f s.comp).target = s.comp.target ∧
      (f s.comp).demand = s.comp.demand) : DriveLawsKept s (s.onComp f) :=
  of_eq ⟨rfl, rfl⟩ ⟨hf.1, hf.2.1, hf.2.2.1, hf.2.2.2, rfl, rfl, rfl, rfl⟩

theorem restartC_driveLaws (i : CounterId) (n : Nat) : DriveLawsKept s (s.restartC i n) :=
  of_eq (by simp) (by simp [DriveReadsSame])

/-- R103: a start toward an allowed speed. -/
theorem startComp_driveLaws (n : Nat) (hn : SettingsLaw s → SpeedLaw s → s.SpeedAllowed n) :
    DriveLawsKept s (startComp n s) := by
  refine of_comp (by simp) (by simp [startComp, setCompState]) (fun _ => ?_) (fun _ h => ?_) fun hs k => ?_
  · exact (setCompState_heaterLaw s .running).of_reads (by simp [startComp]) (by simp [startComp])
  · simp [startComp] at h
  · have hallowed := State.SpeedAllowed.congr (s := s) (t := startComp n s) (by simp)
    rw [speedLaw_iff, hallowed, hallowed]
    simpa [startComp, State.nMin, State.effN_congr] using ⟨k.1, hs.nMin_allowed, hn hs k⟩

/-- R105: a stop. -/
theorem stopComp_driveLaws : DriveLawsKept s (stopComp s) := by
  refine of_comp (by simp) (by simp [stopComp, setCompState]) (fun _ => ?_) (fun _ _ => ?_) fun _ k => ⟨?_, fun h => ?_⟩
  · exact (setCompState_heaterLaw s .off).of_reads (by simp [stopComp]) (by simp [stopComp])
  · simp [stopComp]
  · simpa using k.1
  · simp [stopComp] at h

/-- R105: a stop that the minimum run holds leaves the target at N_MIN. -/
theorem decideStop_driveLaws (hr : s.comp.state = .running) : DriveLawsKept s (decideStop s) := by
  unfold decideStop
  split
  · refine onComp_driveLaws s _ rfl (fun h => absurd hr h) fun hs k => ⟨k.1, fun _ => ⟨(k.2 hr).1, hs.nMin_allowed⟩⟩
  all_goals exact stopComp_driveLaws s

/-- R101: the demand in force is acted on. -/
theorem resolveDemand_driveLaws (at_ : ResolveAt) : DriveLawsKept s (resolveDemand at_ s) := by
  have hheld : DriveLawsKept s (s.onComp fun c => { c with stopHeld := false }) :=
    onComp_driveLaws_of_marks s _ ⟨rfl, rfl, rfl, rfl⟩
  unfold resolveDemand
  split
  · split
    · exact .refl s
    · next n hn =>
      split
      · exact .refl s
      · exact startComp_driveLaws s n fun hs k => hs.resolve_allowed k.1 hn
  · next hrun =>
    split
    · exact decideStop_driveLaws s hrun
    · next n hn =>
      split
      · exact onComp_driveLaws s _ rfl (fun h => absurd hrun h) fun hs k =>
          ⟨k.1, fun _ => ⟨(k.2 hrun).1, hs.resolve_allowed k.1 hn⟩⟩
      all_goals exact hheld
  all_goals exact .refl s

/-- R61, R99, R101: a demand that carries a multiple of 30. -/
theorem giveDemand_driveLaws (d : Demand) (hd : SettingsLaw s → RouteLaw s → d.steps30) :
    DriveLawsKept s (giveDemand d s) := by
  have hnoted := resolveDemand_driveLaws (s.onComp fun c => { c with demand := d }) .newDemand
  refine ⟨fun k => hnoted.heater k, fun k => hnoted.line k, fun k => hnoted.resume k, fun k => hnoted.routes k,
    fun k => hnoted.settings k, fun hs hr k => hnoted.speed hs hr ⟨hd hs hr, k.2⟩⟩

/-! ### Events of the compressor (R104, R106 to R110) -/

theorem onRampExpiry_driveLaws : DriveLawsKept s (onRampExpiry s) := by
  have hresolved := resolveDemand_driveLaws s .ramp
  unfold onRampExpiry
  dsimp only
  split
  · split
    · next hrun =>
      refine hresolved.trans (onComp_driveLaws _ _ rfl (fun h => absurd hrun h) fun _ k => ⟨k.1, fun _ => ?_⟩)
      exact ⟨State.SpeedAllowed.rampStep (k.2 hrun).1 (k.2 hrun).2 _ _, (k.2 hrun).2⟩
    all_goals exact hresolved
  · exact hresolved
  all_goals exact .refl s

/-- R107: the limits as they stand are applied to a command and a target in steps of 30. -/
theorem onLimitChange_speedLaw (hs : SettingsLaw s) (hd : s.comp.demand.steps30)
    (hc : s.comp.state = .running → s.comp.command % 30 = 0 ∧ s.comp.target % 30 = 0) : SpeedLaw (onLimitChange s) := by
  unfold onLimitChange
  split
  · next hrun =>
    refine ⟨hd, fun _ => ⟨hs.limitSpeed_allowed (hc hrun).1, ?_⟩⟩
    show s.SpeedAllowed (if s.comp.stopHeld then s.nMin else s.limitSpeed s.comp.target)
    split
    · exact hs.nMin_allowed
    · exact hs.limitSpeed_allowed (hc hrun).2
  all_goals
    next hst => exact ⟨hd, fun h => absurd (hst.symm.trans h) (by decide)⟩

theorem onLimitChange_driveLaws : DriveLawsKept s (onLimitChange s) := by
  refine of_comp (by simp) (by simp) (fun k => k.of_reads ?_ (by simp)) (fun k h => ?_) fun hs k =>
    onLimitChange_speedLaw s hs k.1 fun h => ⟨(k.2 h).1.2.2, (k.2 h).2.2.2⟩
  · unfold onLimitChange
    split <;> rfl
  · unfold onLimitChange at h ⊢
    split at h
    · next hrun => exact absurd hrun h
    all_goals
      next hst => simpa only [hst] using k h

theorem setLevel_driveLaws (c : Cond) (b : Bool) : DriveLawsKept s (s.setLevel c b) := of_records ⟨rfl, rfl⟩ rfl rfl

theorem leaveFaulted_driveLaws (h : s.comp.state = .faulted) : DriveLawsKept s (leaveFaulted s) :=
  ((setCompState_driveLaws s .off (by decide) (by rw [h]; decide)).trans (setLevel_driveLaws _ _ _)).trans
    (resolveDemand_driveLaws _ _)

theorem onGuardExpiry_driveLaws : DriveLawsKept s (onGuardExpiry s) := by
  have hended : DriveLawsKept s (s.onComp fun c => { c with guard := .none }) :=
    onComp_driveLaws_of_marks s _ ⟨rfl, rfl, rfl, rfl⟩
  unfold onGuardExpiry
  dsimp only
  refine hended.trans ?_
  split
  · exact .trans (onComp_driveLaws_of_marks _ (fun c => { c with faultCount := 0 }) ⟨rfl, rfl, rfl, rfl⟩)
      (resolveDemand_driveLaws _ _)
  · exact resolveDemand_driveLaws _ _
  · next hst =>
    split
    · exact .refl _
    · exact leaveFaulted_driveLaws _ hst
  · exact .refl _

/-- R108, R110: what a fault leaves of the record. -/
theorem takeFault_comp : (takeFault s).comp =
    { s.comp with
      state := if 3 ≤ s.comp.faultCount + 1 then .lockout else .faulted
      command := 0, target := 0, guard := .minOff, stopHeld := false, faultCount := s.comp.faultCount + 1 } := by
  unfold takeFault
  dsimp only
  split <;> split <;> simp

/-- R99, R118, R132: a fault is known to the sequencer. -/
theorem takeFault_heaterLaw : HeaterLaw (takeFault s) := by
  have hstopped : ∀ st u, HeaterLaw ((setCompState st u).setLevel .compFault true) := fun st u =>
    (setLevel_driveLaws _ .compFault true).heater (setCompState_heaterLaw u st)
  unfold takeFault
  dsimp only
  split
  · exact (setLevel_driveLaws _ _ _).heater (hstopped _ _)
  · exact hstopped _ _

/-- R108, R110: a fault stops the compressor. -/
theorem takeFault_driveLaws : DriveLawsKept s (takeFault s) := by
  have hne : (takeFault s).comp.state ≠ .running := by
    rw [takeFault_comp]
    dsimp only
    split <;> decide
  refine of_comp (by simp) ?_ (fun _ => takeFault_heaterLaw s) (fun _ _ => ?_) fun _ k => ⟨?_, fun h => absurd h hne⟩
  · unfold takeFault
    dsimp only
    split <;> split <;> simp [setCompState]
  · rw [takeFault_comp]
    exact ⟨rfl, rfl⟩
  · rw [takeFault_comp]
    exact k.1

theorem onCompFltRound_driveLaws (asserted : Bool) : DriveLawsKept s (onCompFltRound asserted s) := by
  have hcount : ∀ n, DriveLawsKept s (s.onComp fun c => { c with fltRounds := n }) := fun n =>
    onComp_driveLaws_of_marks s _ ⟨rfl, rfl, rfl, rfl⟩
  unfold onCompFltRound
  dsimp only
  split
  · refine (hcount (min 2 (s.comp.fltRounds + 1))).trans ?_
    show DriveLawsKept (s.onComp fun c => { c with fltRounds := min 2 (c.fltRounds + 1) }) _
    split
    · exact takeFault_driveLaws _
    · exact .refl _
  · refine (hcount 0).trans ?_
    split
    · next h => exact leaveFaulted_driveLaws _ h.1
    · exact .refl _

theorem clearLockout_driveLaws (h : s.comp.state = .lockout) : DriveLawsKept s (clearLockout s) := by
  refine (setCompState_driveLaws s .off (by decide) (by rw [h]; decide)).trans ?_
  exact of_eq (by simp [clearLockout]) (by simp [clearLockout, DriveReadsSame])

end

end Sys2Proof.Machine

/-! The laws of the compressor, the heater and the routes across the operations of the Air Path, the Arbiter, the
phases of the defrost, and the claims and releases of the path. -/

namespace Sys2Proof.Machine

open DriveLawsKept

section

variable (s : State)

/-! ### Fan (R88 to R94) -/

theorem setFanFault_driveLaws (b : Bool) : DriveLawsKept s (setFanFault b s) :=
  of_eq (by simp) (by simp [setFanFault, DriveReadsSame])

theorem onProvingEnd_driveLaws : DriveLawsKept s (onProvingEnd s) :=
  .trans (of_eq (t := s.onFan fun f => { f with proven := true, stallCount := 0 }) (by simp) (by simp [DriveReadsSame]))
    (setFanFault_driveLaws _ _)

theorem onFanRetry_driveLaws : DriveLawsKept s (onFanRetry s) := of_eq (by simp) (by simp [DriveReadsSame])

theorem onKickEnd_driveLaws : DriveLawsKept s (onKickEnd s) := of_eq (by simp) (by simp [DriveReadsSame])

theorem onFantimeExpiry_driveLaws : DriveLawsKept s (onFantimeExpiry s) := by
  unfold onFantimeExpiry
  split
  · exact onKickEnd_driveLaws s
  · exact onFanRetry_driveLaws s
  · exact onFanRetry_driveLaws s
  · exact onProvingEnd_driveLaws s
  · exact .refl s

theorem stallFan_driveLaws : DriveLawsKept s (stallFan s) := by
  unfold stallFan
  dsimp only
  split
  · exact of_eq (by simp) (by simp [DriveReadsSame])
  · refine .trans ?_ (setFanFault_driveLaws _ true)
    exact of_eq (by simp) (by simp [DriveReadsSame])

theorem onTachOverflow_driveLaws : DriveLawsKept s (onTachOverflow s) := by
  unfold onTachOverflow
  dsimp only
  split
  · split
    · refine .trans ?_ (stallFan_driveLaws _)
      exact of_eq (by simp) (by simp [DriveReadsSame])
    · exact of_eq (by simp) (by simp [DriveReadsSame])
  all_goals exact of_eq (by simp) (by simp [DriveReadsSame])

theorem requestFan_driveLaws (duty : Nat) : DriveLawsKept s (requestFan duty s) :=
  of_eq (by simp) (by simp [DriveReadsSame])

theorem giveOpenings_driveLaws (fresh chill : Nat) : DriveLawsKept s (giveOpenings fresh chill s) :=
  of_eq (by simp) (by simp [DriveReadsSame])

/-! ### Routes (R61, R67, R71) -/

theorem RouteLaw.zone_inLimits {s : State} (h : RouteLaw s) (z : Zone) : (s.arb.active.zone z).zoneInLimits := by
  obtain ⟨⟨⟨hfresh, hchill, hfreeze, -⟩, -⟩, -, -⟩ := h
  cases z <;> assumption

/-- A change of the Arbiter's record that leaves the plans, with the holder's route and the frames' still in limits. -/
theorem RouteLaw.of_holder {s t : State} (h : RouteLaw s)
    (hp : t.arb.active = s.arb.active ∧ t.arb.staged = s.arb.staged) (hh : t.arb.holder.routeInLimits)
    (hf : ∀ f ∈ t.arb.stack, f ∈ s.arb.stack ∨ f.routeInLimits) : RouteLaw t :=
  ⟨by simpa [PlanLaw, hp] using h.1, hh, fun f hm => (hf f hm).elim (h.2.2 f) id⟩

/-- The path passes to a holder whose route the laws of an earlier state speak of. -/
theorem setHolder_driveLaws_of {u : State} (hu : DriveLawsKept u s) (h : Holder) (hh : RouteLaw u → h.routeInLimits) :
    DriveLawsKept u (setHolder h s) where
  heater := hu.heater
  line := hu.line
  resume := hu.resume
  routes k := (hu.routes k).of_holder ⟨rfl, rfl⟩ (hh k) fun _ => .inl
  settings := hu.settings
  speed := hu.speed

theorem setHolder_driveLaws (h : Holder) (hh : RouteLaw s → h.routeInLimits) : DriveLawsKept s (setHolder h s) :=
  setHolder_driveLaws_of s (.refl s) h hh

/-- The stack loses frames, or the other marks change. -/
theorem onArb_driveLaws (f : Arbiter → Arbiter)
    (hp : (f s.arb).active = s.arb.active ∧ (f s.arb).staged = s.arb.staged) (hh : (f s.arb).holder = s.arb.holder)
    (hf : ∀ x ∈ (f s.arb).stack, x ∈ s.arb.stack) : DriveLawsKept s (s.onArb f) :=
  of_arb (fun k => k.of_holder hp (by rw [State.onArb_arb, hh]; exact k.2.1) fun x hx => .inl (hf x hx)) rfl rfl rfl

theorem applyPlan_driveLaws : DriveLawsKept s (applyPlan s) :=
  of_arb (fun ⟨⟨_, hstaged⟩, hh, hf⟩ => ⟨⟨hstaged, hstaged⟩, hh, hf⟩) (by simp) (by simp) (by simp)

theorem applyPending_driveLaws : DriveLawsKept s (applyPending s) := by
  unfold applyPending
  split
  · exact applyPlan_driveLaws s
  · exact .refl s

theorem pushFrame_driveLaws (mask : Nat) : DriveLawsKept s (pushFrame mask s) := by
  unfold pushFrame
  split
  · next r hr =>
    refine of_arb (fun k => ?_) (by simp) (by simp) (by simp)
    have hroute : r.route.zoneInLimits := by
      have := k.2.1
      rwa [hr] at this
    refine k.of_holder (by simp) (by simpa using k.2.1) fun f hf => ?_
    rcases List.mem_cons.mp hf with rfl | hf
    · right
      cases maskHasRoute mask
      · trivial
      · exact hroute
    · exact .inl hf
  · refine of_arb (fun k => k.of_holder ⟨rfl, rfl⟩ k.2.1 fun f hf => ?_) rfl rfl rfl
    exact (List.mem_cons.mp hf).elim (fun h => .inr (by rw [h]; trivial)) .inl
  · refine of_arb (fun k => k.of_holder ⟨rfl, rfl⟩ k.2.1 fun f hf => ?_) rfl rfl rfl
    exact (List.mem_cons.mp hf).elim (fun h => .inr (by rw [h]; trivial)) .inl
  all_goals exact .refl s

theorem dropTop_driveLaws : DriveLawsKept s (dropTop s) :=
  onArb_driveLaws s _ ⟨rfl, rfl⟩ rfl fun _ => List.mem_of_mem_tail

theorem removeFrames_driveLaws (p : SuspFrame → Bool) : DriveLawsKept s (removeFrames p s) :=
  onArb_driveLaws s _ ⟨rfl, rfl⟩ rfl fun _ h => (List.mem_filter.mp h).1

/-! ### Outputs of a holder (R49, R52, R123) -/

/-- R49: a duty, and a demand with no floor or a floor in limits. -/
theorem outputs_driveLaws (duty : Nat) (d : Demand) (hd : SettingsLaw s → RouteLaw s → d.steps30) :
    DriveLawsKept s (giveDemand d (requestFan duty s)) :=
  (requestFan_driveLaws s duty).trans
    (giveDemand_driveLaws _ d fun hs hr => hd (hs.congr (by simp)) (hr.congr (by simp)))

theorem giveIdleOutputs_driveLaws : DriveLawsKept s (giveIdleOutputs s) :=
  (giveOpenings_driveLaws s _ _).trans (outputs_driveLaws _ _ _ fun _ _ => trivial)

theorem giveDoorOutputs_driveLaws : DriveLawsKept s (giveDoorOutputs s) := outputs_driveLaws s _ _ fun _ _ => trivial

theorem giveServiceOutputs_driveLaws : DriveLawsKept s (giveServiceOutputs s) :=
  .trans (of_eq (t := s.onDefr fun d => { d with svcHeater := false }) (by simp) (by simp [DriveReadsSame]))
    (outputs_driveLaws _ _ _ fun _ _ => trivial)

theorem giveStopOutputs_driveLaws : DriveLawsKept s (giveStopOutputs s) :=
  (giveOpenings_driveLaws s _ _).trans (outputs_driveLaws _ _ _ fun _ _ => trivial)

theorem givePreChillOutputs_driveLaws : DriveLawsKept s (givePreChillOutputs s) :=
  (giveOpenings_driveLaws s _ _).trans (outputs_driveLaws _ _ _ fun hs _ =>
    (SettingsLaw.limits (s := s) (hs.congr (by simp))).2.2)

theorem giveRecoverOutputs_driveLaws : DriveLawsKept s (giveRecoverOutputs s) :=
  outputs_driveLaws _ _ _ fun hs _ => hs.limits.2.2

/-- R49, R52: a slot whose route is in limits serves. -/
theorem serveSlot_driveLaws (r : Slot) (hr : RouteLaw s → r.route.zoneInLimits) : DriveLawsKept s (serveSlot r s) := by
  have hheld : DriveLawsKept s (s.serving r) :=
    (setHolder_driveLaws s (.slot { r with serving := true }) hr).trans
      (of_eq (by simp [State.serving]) (by simp [State.serving, DriveReadsSame]))
  exact hheld.trans (outputs_driveLaws _ _ _ fun _ k => by
    have hroute : (s.serving r).arb.holder.routeInLimits := k.2.1
    rw [State.serving, (State.startC_keeps _ _).2.2.2.2.1] at hroute
    exact hroute.2.2.2.2)

theorem switchSlot_driveLaws (r : Slot) (hr : RouteLaw s → r.route.zoneInLimits) : DriveLawsKept s (switchSlot r s) :=
  (setHolder_driveLaws s (.slot { r with serving := false }) hr).trans
    (outputs_driveLaws _ _ _ fun _ ⟨_, hroute, _⟩ => hroute.2.2.2.2)

theorem placeSlot_driveLaws (r : Slot) (hr : RouteLaw s → r.route.zoneInLimits) : DriveLawsKept s (placeSlot r s) := by
  have hr' : RouteLaw (giveOpenings r.route.freshOpen r.route.chillOpen s) → r.route.zoneInLimits :=
    fun k => hr (k.congr (by simp))
  unfold placeSlot
  dsimp only
  split
  · exact (giveOpenings_driveLaws s _ _).trans (serveSlot_driveLaws _ r hr')
  · exact (giveOpenings_driveLaws s _ _).trans (switchSlot_driveLaws _ r hr')

/-! ### Grants, IDLE and the ends of a slot (R51 to R60, R71) -/

theorem enterIdle_driveLaws : DriveLawsKept s (enterIdle s) :=
  ((setHolder_driveLaws s .nobody fun _ => trivial).trans (applyPending_driveLaws _)).trans (giveIdleOutputs_driveLaws _)

theorem grantSlot_driveLaws (z : Zone) : DriveLawsKept s (grantSlot z s) := by
  have hgranting : DriveLawsKept (applyPending s) (s.granting z) := by
    refine of_arb (fun k => ?_) (by simp [State.granting]) (by simp [State.granting]) (by simp [State.granting])
    refine k.of_holder (by simp [State.granting]) ?_ fun f hf => .inl (by simpa [State.granting] using hf)
    have hroute := k.zone_inLimits z
    simpa [State.granting, Holder.routeInLimits, State.grantedSlot, applyPending_arb] using hroute
  rw [grantSlot_eq]
  refine ((applyPending_driveLaws s).trans hgranting).trans (placeSlot_driveLaws _ _ fun k => ?_)
  have hheld := k.2.1
  simpa [State.granting, Holder.routeInLimits] using hheld

theorem arbitrate_driveLaws : DriveLawsKept s (arbitrate s) :=
  have hgone : DriveLawsKept s s.fullEndGone := onArb_driveLaws s _ ⟨rfl, rfl⟩ rfl fun _ => id
  arbitrate_elim s (DriveLawsKept s) (hgone.trans (enterIdle_driveLaws _)) fun z _ =>
    hgone.trans (grantSlot_driveLaws _ z)

theorem endSlot_driveLaws (z : Zone) (full : Bool) : DriveLawsKept s (endSlot z full s) := by
  unfold endSlot
  dsimp only
  refine .trans (of_eq (t := ((s.stopC .slot).clearC (.wait z)).startC (.wait z)) (by simp) (by simp [DriveReadsSame])) ?_
  refine .trans (onArb_driveLaws _ (fun a => { a with fullEnd := if full = true then some z else none }) ⟨rfl, rfl⟩ rfl
    fun _ => id) ?_
  generalize State.onArb _ _ = w
  split <;> exact of_eq (by simp) (by simp [DriveReadsSame])

theorem endHeldSlot_driveLaws (z : Zone) (full : Bool) : DriveLawsKept s (endHeldSlot z full s) :=
  ((setHolder_driveLaws s .nobody fun _ => trivial).trans (endSlot_driveLaws _ z full)).trans (arbitrate_driveLaws _)

theorem endSwitching_driveLaws : DriveLawsKept s (endSwitching s) := by
  unfold endSwitching
  split
  · next r hr =>
    split
    · exact serveSlot_driveLaws s r fun k => by
        have hroute := k.2.1
        rwa [hr] at hroute
    · exact .refl s
  all_goals exact .refl s

/-- R71: a popped frame's slot resumes, with the active plan's route, or with its snapshot's, of which the laws before
the pop speak. -/
theorem resumeSlot_driveLaws {u : State} (hu : DriveLawsKept u s) (z : Zone) (phase : SlotPhase) (fixed : Bool)
    (remaining : Nat) (snapshot : Option Route) (hr : ∀ r, snapshot = some r → RouteLaw u → r.zoneInLimits) :
    DriveLawsKept u (resumeSlot z phase fixed remaining snapshot s) := by
  have hplace : ∀ (w : State) (r : Slot), DriveLawsKept u w → (RouteLaw u → r.route.zoneInLimits) →
      DriveLawsKept u (placeSlot r (((setHolder (.slot r) w).stopC .slot).writeC .slot remaining)) :=
    fun w r hw hroute => by
      have hheld : DriveLawsKept u (((setHolder (.slot r) w).stopC .slot).writeC .slot remaining) :=
        (setHolder_driveLaws_of w hw (.slot r) hroute).trans (of_eq (by simp) (by simp [DriveReadsSame]))
      refine hheld.trans (placeSlot_driveLaws _ r fun k => ?_)
      simpa [Holder.routeInLimits] using k.2.1
  have happlied := hu.trans (applyPending_driveLaws s)
  unfold resumeSlot
  cases snapshot with
  | some route => exact hplace s _ hu (hr route rfl)
  | none => exact hplace _ _ happlied fun k => (happlied.routes k).zone_inLimits z

/-- R71: a popped frame's slot resumes, or the path is arbitrated. -/
theorem popSlot_driveLaws {u : State} (hu : DriveLawsKept u s) (mask : Nat) (z : Zone) (phase : SlotPhase) (fixed : Bool)
    (remaining : Nat) (snapshot : Option Route) (hr : ∀ r, snapshot = some r → RouteLaw u → r.zoneInLimits) :
    DriveLawsKept u (popSlot mask z phase fixed remaining snapshot s) := by
  unfold popSlot
  split
  · exact resumeSlot_driveLaws s hu z phase fixed remaining snapshot hr
  · exact hu.trans ((endSlot_driveLaws s z false).trans (arbitrate_driveLaws _))

/-! ### Holder reports (R50, R132) -/

theorem refreshHeater_driveLaws : DriveLawsKept s (refreshHeater s) :=
  of_sequencer ⟨rfl, rfl, rfl⟩ rfl (fun h => .inr (s.heaterWanted_ne_running h)) id

theorem tellHolder_driveLaws : DriveLawsKept s (tellHolder s) :=
  of_sequencer (by simp) (by simp [tellHolder_defr])
    (fun h => .inr (s.heaterWanted_ne_running (by simpa [tellHolder_defr] using h)))
    (fun k => by simpa [ResumeLaw, tellHolder_defr] using k)

/-! ### Phases of the defrost (R123 to R131, R136) -/

/-- R118: a phase is entered with resume_heat no. -/
theorem setPhase_driveLaws (p : DefrostPhase) (hr : ResumeLaw s → s.defr.resumeHeat = false) :
    DriveLawsKept s (setPhase p s) := by
  refine of_sequencer ⟨rfl, rfl, rfl⟩ rfl (fun h => .inr ?_) fun k h => ?_
  · exact (State.heaterWanted_ne_running _ h : (s.onDefr fun d => { d with phase := p }).defr.compState ≠ .running)
  · exact absurd h (by simp [setPhase, hr k])

/-- R125: STOP_WAIT may be entered with resume_heat yes. -/
theorem setPhase_stopWait_driveLaws : DriveLawsKept s (setPhase .stopWait s) :=
  of_sequencer ⟨rfl, rfl, rfl⟩ rfl
    (fun h => .inr (State.heaterWanted_ne_running (s.onDefr fun d => { d with phase := .stopWait }) h)) fun _ _ => rfl

/-- Marks of the sequencer that the laws do not read. -/
theorem onDefr_driveLaws (f : Defrost → Defrost)
    (hf : (f s.defr).compState = s.defr.compState ∧ (f s.defr).heaterDrive = s.defr.heaterDrive ∧
      (f s.defr).phase = s.defr.phase ∧ (f s.defr).resumeHeat = s.defr.resumeHeat) : DriveLawsKept s (s.onDefr f) :=
  of_eq ⟨rfl, rfl⟩ ⟨rfl, rfl, rfl, rfl, hf⟩

theorem enterHeat_driveLaws (hr : ResumeLaw s → s.defr.resumeHeat = false) : DriveLawsKept s (enterHeat s) := by
  have hheating : DriveLawsKept s s.heating :=
    (onDefr_driveLaws s _ ⟨rfl, rfl, rfl, rfl⟩).trans (restartC_driveLaws _ _ _)
  have hresume : s.heating.defr.resumeHeat = s.defr.resumeHeat ∧ s.heating.defr.phase = s.defr.phase := by
    simp [State.heating]
  refine (hheating.trans (setPhase_driveLaws _ .heat fun k => ?_)).trans (giveStopOutputs_driveLaws _)
  rw [hresume.1]
  exact hr (by simpa [ResumeLaw, hresume] using k)

/-- R125, R136: an interrupted HEAT goes on, and resume_heat is no again. -/
theorem continueHeat_driveLaws : DriveLawsKept s (continueHeat s) := by
  have hcleared : DriveLawsKept s (s.onDefr fun d => { d with resumeHeat := false }) :=
    of_sequencer ⟨rfl, rfl, rfl⟩ rfl .inl fun _ h => by simp at h
  have hstart : ∀ u : State, DriveLawsKept u (u.startC .phase) := fun u => of_eq (by simp) (by simp [DriveReadsSame])
  exact ((hcleared.trans (setPhase_driveLaws _ .heat fun _ => rfl)).trans (giveStopOutputs_driveLaws _)).trans (hstart _)

theorem endStopWait_driveLaws : DriveLawsKept s (endStopWait s) := by
  unfold endStopWait
  split
  · exact continueHeat_driveLaws s
  · next h => exact enterHeat_driveLaws s fun _ => Bool.eq_false_iff.mpr h

theorem enterStopWait_of_waiting {u : State} (h : DriveLawsKept u s.waiting) : DriveLawsKept u (enterStopWait s) := by
  show DriveLawsKept u (if s.waiting.compRunning then s.waiting else endStopWait s.waiting)
  split
  · exact h
  · exact h.trans (endStopWait_driveLaws _)

theorem enterStopWait_driveLaws : DriveLawsKept s (enterStopWait s) :=
  enterStopWait_of_waiting s ((setPhase_stopWait_driveLaws s).trans (giveStopOutputs_driveLaws _))

/-- R136: an interrupted HEAT waits for the compressor's stop, with resume_heat yes. -/
theorem enterStopWait_resuming_driveLaws :
    DriveLawsKept s (enterStopWait (s.onDefr fun d => { d with resumeHeat := true })) := by
  have hphase : DriveLawsKept s (setPhase .stopWait (s.onDefr fun d => { d with resumeHeat := true })) :=
    of_sequencer ⟨rfl, rfl, rfl⟩ rfl (fun h => .inr (State.heaterWanted_ne_running
      ((s.onDefr fun d => { d with resumeHeat := true }).onDefr fun d => { d with phase := .stopWait }) h)) fun _ _ => rfl
  exact enterStopWait_of_waiting _ (hphase.trans (giveStopOutputs_driveLaws _))

theorem enterFirstPhase_driveLaws (hr : ResumeLaw s → s.defr.resumeHeat = false) :
    DriveLawsKept s (enterFirstPhase s) := by
  unfold enterFirstPhase
  split
  · exact enterStopWait_driveLaws s
  · exact ((setPhase_driveLaws s .preChill hr).trans (restartC_driveLaws _ _ _)).trans (givePreChillOutputs_driveLaws _)

theorem enterDrip_driveLaws (hr : ResumeLaw s → s.defr.resumeHeat = false) : DriveLawsKept s (enterDrip s) := by
  refine (setPhase_driveLaws s .drip hr).trans ?_
  unfold enterDrip
  dsimp only
  split
  · exact of_eq (by simp) (by simp [DriveReadsSame])
  · exact (restartC_driveLaws _ _ _).trans (giveStopOutputs_driveLaws _)

theorem enterRecover_driveLaws (hr : ResumeLaw s → s.defr.resumeHeat = false) : DriveLawsKept s (enterRecover s) := by
  have hhomed : ∀ u, DriveLawsKept u ((requestHoming .chill (requestHoming .fresh u)).restartC .phase 600) := fun u =>
    of_eq (by simp) (by simp [DriveReadsSame])
  exact ((setPhase_driveLaws s .recover hr).trans (hhomed _)).trans (giveRecoverOutputs_driveLaws _)

theorem adaptDue_driveLaws (how : HeatEnd) : DriveLawsKept s (adaptDue how s) := by
  have hlim : ∀ i, i ≠ .fDue → (adaptDue how s).effN i = s.effN i := fun i hi => by
    unfold adaptDue
    dsimp only
    split
    · simp [State.effN, State.eff, Settings.eff_write_of_ne _ _ hi]
    · rfl
  exact of_same (fun k => k.congr (by simp)) (adaptDue_storeLaws s how).settings
    ⟨hlim .nMin (by decide), hlim .nMax (by decide)⟩ (by simp [DriveReadsSame])

/-- R128: an end of HEAT, with resume_heat no. -/
theorem endHeat_driveLaws (how : HeatEnd) : DriveLawsKept s (endHeat how s) := by
  unfold endHeat
  dsimp only
  generalize hended : State.onDefr _ (s.stopC .phase) = u
  have hu : DriveLawsKept s u ∧ u.defr.resumeHeat = false := by
    subst hended
    exact ⟨of_sequencer (by simp) (by simp) (fun h => .inl (by simpa using h)) fun _ h => by simp at h, by simp⟩
  have hclear : DriveLawsKept u (u.clearC .runsec) := of_eq (by simp) (by simp [DriveReadsSame])
  exact ((hu.1.trans hclear).trans (adaptDue_driveLaws _ how)).trans (enterDrip_driveLaws _ fun _ => by simp [hu.2])

theorem raise_driveLaws (c : Cond) : DriveLawsKept s (s.raise c) :=
  of_records ⟨rfl, rfl⟩ rfl rfl

theorem heatTimedOut_driveLaws : DriveLawsKept s (heatTimedOut s) := by
  unfold heatTimedOut
  split
  · exact (raise_driveLaws s _).trans (endHeat_driveLaws _ _)
  · exact endHeat_driveLaws _ _

theorem coilLossInHeat_driveLaws : DriveLawsKept s (coilLossInHeat s) := by
  have htimed : DriveLawsKept s (s.onDefr fun d => { d with coilTimed := true }) :=
    onDefr_driveLaws s _ ⟨rfl, rfl, rfl, rfl⟩
  unfold coilLossInHeat
  dsimp only
  split
  · exact .refl s
  · split
    · exact htimed
    · split
      · exact htimed.trans (by split <;> exact of_eq (by simp) (by simp [DriveReadsSame]))
      · exact htimed.trans (endHeat_driveLaws _ _)

theorem coilInHeat_driveLaws (state : ChanState) (tf : Option Int) : DriveLawsKept s (coilInHeat state tf s) := by
  have hcount : ∀ n, DriveLawsKept s (s.onDefr fun d => { d with termCount := n }) := fun n =>
    onDefr_driveLaws s _ ⟨rfl, rfl, rfl, rfl⟩
  unfold coilInHeat
  dsimp only
  split
  · exact (hcount 0).trans (coilLossInHeat_driveLaws _)
  · generalize (s.defrostHolding && !s.level .heaterOpen && _) = hit
    split
    · split
      · exact (hcount (s.defr.termCount + 1)).trans (endHeat_driveLaws _ _)
      · exact hcount (s.defr.termCount + 1)
    · exact hcount 0

/-- R124, R125: the phase follows a report of the compressor. -/
theorem followComp_driveLaws : DriveLawsKept s (followComp s) := by
  unfold followComp
  split
  · exact .refl s
  · split
    · split
      · exact .refl s
      · exact endStopWait_driveLaws s
    · split
      · exact .trans (of_eq (t := s.stopC .phase) (by simp) (by simp [DriveReadsSame])) (enterStopWait_driveLaws _)
      · exact .refl s
    all_goals exact .refl s

theorem suspendDefrost_driveLaws : DriveLawsKept s (suspendDefrost s) :=
  of_eq (by simp) (by simp [suspendDefrost, DriveReadsSame])

/-- R136: a suspended phase goes on. -/
theorem resumeDefrost_driveLaws : DriveLawsKept s (resumeDefrost s) := by
  have hstart : ∀ u : State, DriveLawsKept u (u.startC .phase) := fun u => of_eq (by simp) (by simp [DriveReadsSame])
  have hstop : ∀ u : State, DriveLawsKept u (u.stopC .phase) := fun u => of_eq (by simp) (by simp [DriveReadsSame])
  unfold resumeDefrost
  dsimp only
  generalize hheld : refreshHeater (setHolder .defrost (s.onDefr fun d => { d with suspended := false })) = u
  have hu : DriveLawsKept s u := by
    subst hheld
    exact ((onDefr_driveLaws s (fun d => { d with suspended := false }) ⟨rfl, rfl, rfl, rfl⟩).trans
      (setHolder_driveLaws _ .defrost fun _ => trivial)).trans (refreshHeater_driveLaws _)
  refine hu.trans ?_
  split
  · split
    · exact (hstop u).trans (enterStopWait_driveLaws _)
    · exact (givePreChillOutputs_driveLaws u).trans (hstart _)
  · exact enterStopWait_driveLaws u
  · split
    · exact enterStopWait_resuming_driveLaws u
    · exact continueHeat_driveLaws u
  · exact (giveStopOutputs_driveLaws u).trans (hstart _)
  · exact ((giveOpenings_driveLaws u 0 0).trans (giveRecoverOutputs_driveLaws _)).trans (hstart _)
  all_goals exact .refl u

end

end Sys2Proof.Machine

/-! The laws of the compressor, the heater and the routes across claims, releases and reports, the zones, the doors
and the scan round. -/

namespace Sys2Proof.Machine

open DriveLawsKept

section

variable (s : State)

/-! ### Claims and releases of the path (R66 to R73, R122, R144) -/

theorem claimed_driveLaws (h : Holder) (mask : Nat) (hh : h.routeInLimits) : DriveLawsKept s (s.claimed h mask) :=
  (pushFrame_driveLaws s mask).trans (setHolder_driveLaws _ h fun _ => hh)

theorem claimDoor_driveLaws : DriveLawsKept s (claimDoor s) := by
  have htaken : DriveLawsKept s s.doorTaken := (claimed_driveLaws s .door (s.effN (.saveMask .door)) trivial).trans
    (of_eq (by simp [State.doorTaken, State.claimed]) (by simp [State.doorTaken, State.claimed, DriveReadsSame]))
  rw [claimDoor_eq]
  exact (htaken.trans (outputs_driveLaws _ 0 (.auto none) fun _ _ => trivial)).trans (tellHolder_driveLaws _)

/-- R122: the defrost claims with resume_heat no. -/
theorem claimDefrost_driveLaws (hr : ResumeLaw s → s.defr.resumeHeat = false) : DriveLawsKept s (claimDefrost s) := by
  have htaken : DriveLawsKept s s.defrostTaken :=
    (claimed_driveLaws s .defrost _ trivial).trans (setLevel_driveLaws _ .defrostActive true)
  have hdefr := defrostTaken_defr s
  rw [claimDefrost_eq]
  refine (htaken.trans (enterFirstPhase_driveLaws _ fun k => ?_)).trans (tellHolder_driveLaws _)
  rw [hdefr]
  exact hr (by simpa [ResumeLaw, hdefr] using k)

theorem claimService_driveLaws : DriveLawsKept s (claimService s) := by
  have hclaimed := claimed_driveLaws s .service (s.effN (.saveMask .service)) trivial
  have hout : ∀ u : State, DriveLawsKept u (tellHolder (giveServiceOutputs (u.restartC .svc (u.effN .svcMax)))) :=
    fun u =>
    ((restartC_driveLaws u _ _).trans (giveServiceOutputs_driveLaws _)).trans (tellHolder_driveLaws _)
  unfold claimService
  dsimp only
  split
  · exact (hclaimed.trans (suspendDefrost_driveLaws _)).trans (hout _)
  · exact hclaimed.trans (hout _)

theorem own_driveLaws (o : Own) : DriveLawsKept s { s with own := o } :=
  of_records ⟨rfl, rfl⟩ rfl rfl

theorem report_driveLaws : DriveLawsKept s (report s) := by
  have hpending : ∀ u : State, u.defrostReclaims = true → DriveLawsKept u (claimDefrost u) := fun u h =>
    claimDefrost_driveLaws u fun k => k.no_resume (by
      rw [State.defrostReclaims, decide_eq_true_eq] at h
      simp [h])
  unfold report
  dsimp only
  refine (tellHolder_driveLaws s).trans ?_
  split
  · split
    · exact .refl _
    · exact claimDoor_driveLaws _
    · next h => exact hpending _ h
    · next h =>
      split
      · exact (own_driveLaws _ _).trans (claimDoor_driveLaws _)
      · exact (own_driveLaws _ _).trans (hpending _ h)
  · exact .refl _

/-- R70 to R72: the path is released to the frame on top of the stack, or arbitrated. -/
theorem releasePath_driveLaws : DriveLawsKept s (releasePath s) := by
  have hfreed : DriveLawsKept s (setHolder .nobody s) := setHolder_driveLaws s .nobody fun _ => trivial
  have hdropped : DriveLawsKept s (dropTop (setHolder .nobody s)) := hfreed.trans (dropTop_driveLaws _)
  unfold releasePath
  dsimp only
  refine .trans ?_ (report_driveLaws _)
  split
  · exact hfreed.trans (arbitrate_driveLaws _)
  · next mask z phase fixed remaining snapshot rest hstack =>
    refine popSlot_driveLaws _ hdropped mask z phase fixed remaining snapshot fun r hr k => ?_
    have hframe := k.2.2 (.slot mask z phase fixed remaining snapshot) (by
      rw [show s.arb.stack = _ from hstack]
      exact List.mem_cons_self)
    rwa [hr] at hframe
  · exact (hdropped.trans (setHolder_driveLaws _ .door fun _ => trivial)).trans (giveDoorOutputs_driveLaws _)
  · exact hdropped.trans (resumeDefrost_driveLaws _)

theorem endService_driveLaws : DriveLawsKept s (endService s) :=
  (onDefr_driveLaws s (fun d => { d with svcHeater := false }) ⟨rfl, rfl, rfl, rfl⟩).trans (releasePath_driveLaws _)

/-! ### Calling and slot events (R17, R52 to R56, R63) -/

theorem callingBegan_driveLaws : DriveLawsKept s (callingBegan s) := by
  unfold callingBegan
  split
  · exact (arbitrate_driveLaws s).trans (report_driveLaws _)
  all_goals exact .refl s

theorem endHeldSlot_report_driveLaws (z : Zone) (full : Bool) : DriveLawsKept s (report (endHeldSlot z full s)) :=
  (endHeldSlot_driveLaws s z full).trans (report_driveLaws _)

theorem callingStopped_driveLaws (z : Zone) : DriveLawsKept s (callingStopped z s) := by
  unfold callingStopped
  split
  · split
    · exact endHeldSlot_report_driveLaws s z false
    · exact .refl s
  all_goals exact .refl s

theorem onZone_driveLaws (z : Zone) (f : ZoneRec → ZoneRec) : DriveLawsKept s (s.onZone z f) :=
  of_records ⟨rfl, rfl⟩ rfl rfl

theorem recomputeU_driveLaws (z : Zone) : DriveLawsKept s (s.recomputeU z) := onZone_driveLaws s z _

theorem setCalling_driveLaws (z : Zone) (b : Bool) : DriveLawsKept s (setCalling z b s) := by
  unfold setCalling
  dsimp only
  split
  · exact .refl s
  · refine (onZone_driveLaws s z fun r => { r with calling := b }).trans ?_
    split
    · exact callingBegan_driveLaws _
    · exact callingStopped_driveLaws _ z

theorem onSlotExpiry_driveLaws : DriveLawsKept s (onSlotExpiry s) := by
  have hend := endHeldSlot_report_driveLaws s
  unfold onSlotExpiry
  split
  · next r hr =>
    split
    · exact hend _ _
    · split
      · exact hend _ _
      · split
        · exact hend _ _
        · split
          · exact hend _ _
          · refine (setHolder_driveLaws s (.slot { r with phase := .extend }) fun k => ?_).trans (restartC_driveLaws _ _ _)
            have hroute := k.2.1
            rwa [hr] at hroute
  all_goals exact .refl s

theorem endSlotAtOff_driveLaws (z : Zone) : DriveLawsKept s (endSlotAtOff z s) := by
  unfold endSlotAtOff
  split
  · exact endHeldSlot_report_driveLaws s z false
  · split
    · exact (removeFrames_driveLaws s _).trans (endSlot_driveLaws _ z false)
    · exact .refl s

theorem onCompletion_driveLaws : DriveLawsKept s (onCompletion s) := by
  unfold onCompletion
  split
  · split
    · exact (endSwitching_driveLaws s).trans (report_driveLaws _)
    · exact .refl s
  all_goals exact .refl s

theorem commitPlan_driveLaws : DriveLawsKept s (commitPlan s) := by
  unfold commitPlan
  split
  · exact ((applyPlan_driveLaws s).trans (giveIdleOutputs_driveLaws _)).trans (report_driveLaws _)
  all_goals exact onArb_driveLaws s _ ⟨rfl, rfl⟩ rfl fun _ => id

/-! ### The defrost's claim and ends (R120 to R122, R131, R134) -/

theorem enterPending_driveLaws (hp : s.defr.phase ≠ .stopWait) : DriveLawsKept s (enterPending s) := by
  have hpending : DriveLawsKept s (setPhase .pending s) := setPhase_driveLaws s .pending fun k => k.no_resume hp
  unfold enterPending
  dsimp only
  split
  · exact hpending.trans (claimDefrost_driveLaws _ fun k => k.no_resume (by simp [setPhase]))
  · exact hpending

theorem dueCheck_driveLaws : DriveLawsKept s (dueCheck s) := by
  unfold dueCheck
  split
  · next h => exact enterPending_driveLaws s (by simp [h.1])
  · exact .refl s

/-- R131, R134: the defrost leaves the path with resume_heat no. -/
theorem leaveDefrost_driveLaws (hr : ResumeLaw s → s.defr.resumeHeat = false) : DriveLawsKept s (leaveDefrost s) := by
  have hleft : DriveLawsKept s
      ((setPhase .idle (s.onDefr fun d => { d with suspended := false })).setLevel .defrostActive false) :=
    ((onDefr_driveLaws s (fun d => { d with suspended := false }) ⟨rfl, rfl, rfl, rfl⟩).trans
      (setPhase_driveLaws _ .idle hr)).trans (setLevel_driveLaws _ _ _)
  unfold leaveDefrost
  dsimp only
  refine hleft.trans ?_
  repeat' split
  · exact removeFrames_driveLaws _ _
  · exact releasePath_driveLaws _
  · exact .refl _

theorem endRecover_driveLaws (hp : s.defr.phase = .recover) : DriveLawsKept s (endRecover s) := by
  have hdone : DriveLawsKept s (((s.stopC .phase).clearC .gap).raise .defrostDone) :=
    of_eq (by simp) (by simp [DriveReadsSame])
  exact hdone.trans (leaveDefrost_driveLaws _ fun k => k.no_resume (by simp [hp]))

theorem onCoilSample_driveLaws (state : ChanState) (tf : Option Int) : DriveLawsKept s (onCoilSample state tf s) := by
  unfold onCoilSample
  dsimp only
  refine (onDefr_driveLaws s (fun d => { d with coilLost := decide (state = .lost) }) ⟨rfl, rfl, rfl, rfl⟩).trans ?_
  split
  · exact coilInHeat_driveLaws _ state tf
  · next hp =>
    split
    · exact endRecover_driveLaws _ hp
    · exact .refl _
  all_goals exact .refl _

theorem onPhaseExpiry_driveLaws : DriveLawsKept s (onPhaseExpiry s) := by
  unfold onPhaseExpiry
  split
  · exact enterStopWait_driveLaws s
  · exact heatTimedOut_driveLaws s
  · next hp => exact enterRecover_driveLaws s fun k => k.no_resume (by simp [hp])
  · next hp => exact endRecover_driveLaws s hp
  all_goals exact .refl s

theorem growFrost_driveLaws (n : Nat) : DriveLawsKept s (growFrost n s) := by
  have hgrown : DriveLawsKept s (addFrost n s) := onDefr_driveLaws s _ ⟨rfl, rfl, rfl, rfl⟩
  unfold growFrost
  dsimp only
  split
  · exact hgrown
  · exact hgrown.trans (dueCheck_driveLaws _)

theorem heaterOpenRound_driveLaws (sense : Bool) : DriveLawsKept s (heaterOpenRound sense s) := by
  unfold heaterOpenRound
  dsimp only
  split <;> exact of_eq (by simp) (by simp [DriveReadsSame])

theorem heaterStuckRound_driveLaws (sense : Bool) : DriveLawsKept s (heaterStuckRound sense s) := by
  have hcount : ∀ n, DriveLawsKept s (s.onDefr fun d => { d with stuckRun := n }) := fun n =>
    onDefr_driveLaws s _ ⟨rfl, rfl, rfl, rfl⟩
  unfold heaterStuckRound
  dsimp only
  split
  · exact ((hcount _).trans (setLevel_driveLaws _ _ _)).trans (refreshHeater_driveLaws _)
  · exact hcount _

theorem onHeaterSenseRound_driveLaws (sense : Bool) : DriveLawsKept s (onHeaterSenseRound sense s) := by
  have hrounds := (heaterOpenRound_driveLaws s sense).trans (heaterStuckRound_driveLaws _ sense)
  unfold onHeaterSenseRound
  dsimp only
  split
  · exact hrounds.trans (dueCheck_driveLaws _)
  · exact hrounds

theorem onRamp_driveLaws : DriveLawsKept s (onRamp s) := (onRampExpiry_driveLaws s).trans (followComp_driveLaws _)

theorem onGuard_driveLaws : DriveLawsKept s (onGuard s) := (onGuardExpiry_driveLaws s).trans (followComp_driveLaws _)

theorem onCompFlt_driveLaws (asserted : Bool) : DriveLawsKept s (onCompFlt asserted s) :=
  (onCompFltRound_driveLaws s asserted).trans (followComp_driveLaws _)

/-! ### The Zone Table (R6 to R24) -/

theorem trustedSample_driveLaws (z : Zone) (tf : Int) : DriveLawsKept s (trustedSample z tf s) := by
  have hrecord : ∀ f, DriveLawsKept s ((s.onZone z f).recomputeU z) := fun f =>
    (onZone_driveLaws s z f).trans (recomputeU_driveLaws _ z)
  unfold trustedSample
  dsimp only
  split
  · exact hrecord _
  all_goals exact (hrecord _).trans (setCalling_driveLaws _ z _)

theorem enterPolicy_driveLaws (z : Zone) (p : Subst) : DriveLawsKept s (enterPolicy z p s) := by
  have hrecord : ∀ f, DriveLawsKept s ((s.onZone z f).recomputeU z) := fun f =>
    (onZone_driveLaws s z f).trans (recomputeU_driveLaws _ z)
  unfold enterPolicy
  dsimp only
  split
  · exact (hrecord _).trans (setCalling_driveLaws _ z _)
  · split
    · exact hrecord _
    · exact (hrecord _).trans (setCalling_driveLaws _ z _)
  · exact (onZone_driveLaws s z _).trans (setCalling_driveLaws _ z _)
  all_goals exact .refl s

theorem lostSample_driveLaws (z : Zone) (lost : Nat) : DriveLawsKept s (lostSample z lost s) := by
  have hwindow : DriveLawsKept s
      (if lost < s.effN .lossHold then s.onZone z fun r => { r with subst := .holdWindow }
        else enterPolicy z (policyOf (s.eff (.lossPolicy z))) s) := by
    split
    · exact onZone_driveLaws s z _
    · exact enterPolicy_driveLaws s z _
  have hpolicy : DriveLawsKept s (policySample z s) := by
    unfold policySample
    dsimp only
    split
    · exact setCalling_driveLaws s z true
    · exact .refl s
  unfold lostSample
  dsimp only
  split
  · exact hwindow
  · exact hwindow
  · split
    · exact hpolicy
    · exact enterPolicy_driveLaws s z _

theorem validSample_driveLaws (z : Zone) (tf : Option Int) : DriveLawsKept s (validSample z tf s) := by
  unfold validSample
  split
  · exact trustedSample_driveLaws s z _
  · exact (onZone_driveLaws s z _).trans (trustedSample_driveLaws _ z _)
  · exact .refl s
  · exact onZone_driveLaws s z _
  · exact (onZone_driveLaws s z _).trans (recomputeU_driveLaws _ z)

theorem evalAlarm_driveLaws (z : Zone) (cause : AlarmCause) : DriveLawsKept s (evalAlarm z cause s) :=
  of_eq (by simp) (by simp [DriveReadsSame])

theorem zoneSample_driveLaws (z : Zone) : DriveLawsKept s (zoneSample z s) := by
  have halarm : ∀ u, DriveLawsKept u (alarmSample z u) := fun u => of_eq (by simp) (by simp [DriveReadsSame])
  unfold zoneSample
  dsimp only
  refine .trans ?_ (halarm _)
  split
  · exact onZone_driveLaws s z _
  · split
    · exact validSample_driveLaws s z _
    · exact .refl s
    · exact lostSample_driveLaws s z _

theorem startBoost_driveLaws (z : Zone) : DriveLawsKept s (startBoost z s) := restartC_driveLaws s _ _

theorem enterBoost_driveLaws (z : Zone) : DriveLawsKept s (enterBoost z s) := by
  have hboost := startBoost_driveLaws s z
  unfold enterBoost
  dsimp only
  split
  · exact hboost
  · exact hboost
  all_goals exact hboost.trans (setCalling_driveLaws _ z true)

theorem leaveOff_driveLaws (z : Zone) (new : Mode) : DriveLawsKept s (leaveOff z new s) := by
  unfold leaveOff
  dsimp only
  generalize hw : (if new = .boost then _ else (s.onZone z fun r => { r with debt := 0 }).recomputeU z) = w
  have hback : DriveLawsKept s w := by
    have hrecord := (onZone_driveLaws s z fun r => { r with debt := 0 }).trans (recomputeU_driveLaws _ z)
    subst hw
    split
    · exact hrecord.trans (startBoost_driveLaws _ z)
    · exact hrecord
  repeat' split
  all_goals exact hback.trans (setCalling_driveLaws _ z _)

theorem enterOff_driveLaws (z : Zone) : DriveLawsKept s (enterOff z s) := by
  have hrested : DriveLawsKept s (clearAlarms z (s.onZone z ZoneRec.rested)) :=
    of_eq (by simp) (by simp [DriveReadsSame])
  rw [enterOff_eq]
  exact hrested.trans (endSlotAtOff_driveLaws _ z)

theorem onModeChange_driveLaws (z : Zone) (old new : Mode) : DriveLawsKept s (onModeChange z old new s) := by
  have hmarks : DriveLawsKept s (modeMarks z old s) := by
    unfold modeMarks
    dsimp only
    split <;> exact of_eq (by simp) (by simp [DriveReadsSame])
  rw [onModeChange_eq]
  repeat' split
  · exact hmarks.trans (enterOff_driveLaws _ z)
  · exact hmarks.trans (leaveOff_driveLaws _ z new)
  · exact hmarks.trans (enterBoost_driveLaws _ z)
  · exact hmarks

/-! ### Doors (R141 to R148) -/

theorem onOpening_driveLaws (d : Door) : DriveLawsKept s (onOpening d s) := by
  have hclaim : ∀ u, DriveLawsKept u (claimPause u) := fun u => by
    unfold claimPause
    split
    · exact claimDoor_driveLaws u
    · exact claimDoor_driveLaws u
    all_goals exact of_eq (by simp) (by simp [DriveReadsSame])
  have hopened : ∀ f, DriveLawsKept s (s.onDoor d f) := fun f => of_eq (by simp) (by simp [DriveReadsSame])
  unfold onOpening
  dsimp only
  split
  · exact of_eq (by simp) (by simp [DriveReadsSame])
  · split
    · exact (hopened _).trans (hclaim _)
    · exact hopened _

theorem onClose_driveLaws (d : Door) : DriveLawsKept s (onClose d s) := by
  have hcredit : ∀ z n u, DriveLawsKept u (takeCredit z n u) := fun z n u => of_eq (by simp) (by simp [DriveReadsSame])
  have hpause : ∀ u, DriveLawsKept u (pauseAtLastClose u) := fun u => of_eq (by simp) (by simp [DriveReadsSame])
  unfold onClose
  dsimp only
  generalize hv : setAjar d false _ = v
  have hclosed : DriveLawsKept s v := of_eq (by simp [← hv]) (by simp [← hv, DriveReadsSame])
  split
  · exact (hclosed.trans (hcredit _ _ _)).trans (growFrost_driveLaws _ _)
  · exact ((hclosed.trans (hcredit _ _ _)).trans (growFrost_driveLaws _ _)).trans (hpause _)

theorem endPause_driveLaws : DriveLawsKept s (endPause s) := by
  have hset : ∀ u : State, DriveLawsKept u (setPause .none u) := fun u => of_eq (by simp) (by simp [DriveReadsSame])
  unfold endPause
  split
  · split
    · exact (hset s).trans (releasePath_driveLaws _)
    · exact hset s
  · exact (removeFrames_driveLaws s _).trans (hset _)
  all_goals exact hset s

theorem onSettleExpiry_driveLaws : DriveLawsKept s (onSettleExpiry s) := by
  refine .trans ?_ (endPause_driveLaws _)
  exact of_eq (by simp) (by simp [DriveReadsSame])

theorem onPauseExpiry_driveLaws : DriveLawsKept s (onPauseExpiry s) := by
  refine .trans ?_ (endPause_driveLaws _)
  exact of_eq (by simp) (by simp [DriveReadsSame])

/-! ### The scan round (R30, R38, R44) -/

theorem onAmbientSample_driveLaws : DriveLawsKept s (onAmbientSample s) :=
  of_eq ⟨rfl, rfl⟩ (by simp [onAmbientSample, DriveReadsSame])

theorem onRound_driveLaws (sets : List SampleSet) : DriveLawsKept s (onRound sets s) := by
  have hscan : ∀ c, DriveLawsKept s { updateChannels sets s with scanner := c } := fun c =>
    of_eq (by simp) (by simp [DriveReadsSame])
  have hlines : ∀ sense flt u, DriveLawsKept u (onCompFlt flt (onHeaterSenseRound sense u)) := fun sense flt u =>
    (onHeaterSenseRound_driveLaws u sense).trans (onCompFlt_driveLaws _ flt)
  have hzones : ∀ u, DriveLawsKept u (zoneSample .freeze (zoneSample .chill (zoneSample .fresh u))) := fun u =>
    ((zoneSample_driveLaws u .fresh).trans (zoneSample_driveLaws _ .chill)).trans (zoneSample_driveLaws _ .freeze)
  unfold onRound
  dsimp only
  exact (((hscan _).trans (hlines _ _ _)).trans (hzones _)).trans
    ((onCoilSample_driveLaws _ _ _).trans (onAmbientSample_driveLaws _))

end

end Sys2Proof.Machine

/-! The laws of the compressor, the heater and the routes across the Settings Store. -/

namespace Sys2Proof.Machine

open DriveLawsKept

section

variable (s : State)

/-! ### A changed value reaches its owner (R15, R16, R42, R107, R182) -/

/-- R107, R183, R185: settings in their ranges become others in their ranges, and the speed limits as they then stand
are applied to the command and the target. -/
theorem onLimitChange_driveLaws_from {u : State} (harb : u.arb = s.arb) (hd : DriveReadsSame s u)
    (hs : SettingsLaw s → SettingsLaw u) : DriveLawsKept s (onLimitChange u) := by
  obtain ⟨hstate, hcommand, htarget, hdemand, hknown, hdrive, hphase, hresume⟩ := hd
  have hlim := onLimitChange_driveLaws u
  refine ⟨fun k => hlim.heater ?_, fun k => hlim.line ?_, fun k => hlim.resume ?_, fun k => hlim.routes (k.congr harb),
    fun k => hlim.settings (hs k), fun k _ hv => onLimitChange_speedLaw u (hs k) ?_ fun hrun => ?_⟩
  · simpa only [HeaterLaw, hstate, hknown, hdrive] using k
  · simpa only [SpeedLineLaw, hstate, hcommand, htarget] using k
  · simpa only [ResumeLaw, hphase, hresume] using k
  · rw [hdemand]
    exact hv.1
  · rw [hstate] at hrun
    rw [hcommand, htarget]
    exact ⟨(hv.2 hrun).1.2.2, (hv.2 hrun).2.2.2⟩

theorem evalAllAlarms_driveLaws : DriveLawsKept s (evalAllAlarms s) := of_eq (by simp) (by simp [DriveReadsSame])

theorem governed_driveLaws (i : Item) : DriveLawsKept s (governed i s) := of_eq (by simp) (by simp [DriveReadsSame])

theorem onSetpointChange_driveLaws (z : Zone) : DriveLawsKept s (onSetpointChange z s) :=
  of_eq (by simp) (by simp [DriveReadsSame])

theorem onULostChange_driveLaws : DriveLawsKept s (onULostChange s) := of_eq (by simp) (by simp [DriveReadsSame])

theorem onAmbRefChange_driveLaws : DriveLawsKept s (onAmbRefChange s) := by
  unfold onAmbRefChange
  dsimp only
  split
  · exact onAmbientSample_driveLaws s
  · exact .refl s

theorem onAjarTimeChange_driveLaws : DriveLawsKept s (onAjarTimeChange s) := of_eq (by simp) (by simp [DriveReadsSame])

/-- R182: a changed value reaches its owner. -/
theorem handChange_driveLaws (i : Item) (old : Int) : DriveLawsKept s (handChange i old s) := by
  cases i with
  | setpoint z => exact onSetpointChange_driveLaws s z
  | mode z => exact onModeChange_driveLaws s z _ _
  | weight z => exact recomputeU_driveLaws s z
  | uLost => exact onULostChange_driveLaws s
  | alarmHi z => exact evalAlarm_driveLaws s z .change
  | alarmLo z => exact evalAlarm_driveLaws s z .change
  | alarmDelay => exact (governed_driveLaws s .alarmDelay).trans (evalAllAlarms_driveLaws _)
  | nMin => exact onLimitChange_driveLaws s
  | nMax => exact onLimitChange_driveLaws s
  | ambRef => exact onAmbRefChange_driveLaws s
  | fDue => exact dueCheck_driveLaws s
  | minGap => exact dueCheck_driveLaws s
  | maxGap => exact dueCheck_driveLaws s
  | ajarTime => exact onAjarTimeChange_driveLaws s
  | _ => exact of_eq (by simp [handChange]) (by simp [handChange, DriveReadsSame])

/-! ### Writes (R183) -/

/-- R183: a write of an item other than the speed limits. -/
theorem write_driveLaws (i : Item) (v : Option Int) (hv : ∀ w, v = some w → i.Admits w) (hi : i ≠ .nMin ∧ i ≠ .nMax) :
    DriveLawsKept s { s with settings := s.settings.write i v } := by
  have hkeeps : ∀ j, j ≠ i → (s.settings.write i v).eff j = s.settings.eff j := fun j =>
    Settings.eff_write_of_ne _ v
  refine of_same (fun k => k.congr rfl) (fun k => k.write i v hv rfl) ⟨?_, ?_⟩ (.of_records rfl rfl)
  · exact congrArg Int.toNat (hkeeps .nMin hi.1.symm)
  · exact congrArg Int.toNat (hkeeps .nMax hi.2.symm)

/-- R183: a write that leaves every effective value. -/
theorem write_driveLaws_of_eq (i : Item) (v : Option Int) (hv : ∀ w, v = some w → i.Admits w)
    (he : (s.settings.write i v).eff i = s.settings.eff i) :
    DriveLawsKept s { s with settings := s.settings.write i v } := by
  have hkeeps : ∀ j, (s.settings.write i v).eff j = s.settings.eff j := fun j => by
    by_cases hj : j = i
    · rw [hj, he]
    · exact Settings.eff_write_of_ne _ v hj
  exact of_same (fun k => k.congr rfl) (fun k => k.write i v hv rfl)
    ⟨congrArg Int.toNat (hkeeps .nMin), congrArg Int.toNat (hkeeps .nMax)⟩ (.of_records rfl rfl)

theorem storeItem_driveLaws (i : Item) (v : Option Int) (hv : ∀ w, v = some w → i.Admits w) :
    DriveLawsKept s (storeItem i v s) := by
  unfold storeItem
  dsimp only
  split
  · next he => exact write_driveLaws_of_eq s i v hv he
  · by_cases hi : i = .nMin ∨ i = .nMax
    · have hlimit : ∀ old, handChange i old { s with settings := s.settings.write i v } =
          onLimitChange { s with settings := s.settings.write i v } := by
        rcases hi with rfl | rfl <;> exact fun _ => rfl
      rw [hlimit]
      exact onLimitChange_driveLaws_from s rfl (.of_records rfl rfl) fun k => k.write i v hv rfl
    · exact (write_driveLaws s i v hv (not_or.mp hi)).trans (handChange_driveLaws _ i _)

theorem setItem_driveLaws (i : Item) (v : Int) : DriveLawsKept s (setItem i v s).2 := by
  unfold setItem
  split
  · exact .refl s
  · exact storeItem_driveLaws s i none nofun
  · next w hw =>
    refine .trans (of_records (t := repeatBoost i v s) (by simp) (by simp) (by simp))
      (storeItem_driveLaws _ i _ fun x hx => ?_)
    cases hx
    exact settleValue_admitted hw

/-- R8: MODE returns to following the profile. -/
theorem onBoostExpiry_driveLaws (z : Zone) : DriveLawsKept s (onBoostExpiry z s) := by
  have hwritten := write_driveLaws s (.mode z) none nofun ⟨nofun, nofun⟩
  unfold onBoostExpiry
  dsimp only
  split
  · exact hwritten
  · exact hwritten.trans (onModeChange_driveLaws _ z _ _)

/-! ### Profiles (R185) -/

theorem handChanges_append (old : Settings) (first rest : List Item) :
    handChanges old (first ++ rest) s = handChanges old rest (handChanges old first s) := by
  induction first generalizing s with
  | nil => rfl
  | cons i first ih => exact ih _

theorem handChanges_driveLaws (old : Settings) (items : List Item) : DriveLawsKept s (handChanges old items s) := by
  induction items generalizing s with
  | nil => exact .refl s
  | cons i rest ih =>
    simp only [handChanges]
    split
    · exact ih s
    · exact (handChange_driveLaws s i _).trans (ih _)

/-- The profiled items that come before N_MAX in id order. -/
def profiledBeforeMax : List Item := [.weight .fresh, .slotMax .fresh, .slotMin]

/-- R182, R185: they reach a zone's urgency and SLOT, and neither the compressor nor the sequencer. -/
theorem handChanges_profiledBeforeMax (old : Settings) :
    (handChanges old profiledBeforeMax s).arb = s.arb ∧ (handChanges old profiledBeforeMax s).comp = s.comp ∧
      (handChanges old profiledBeforeMax s).defr = s.defr := by
  have hone : ∀ i ∈ profiledBeforeMax, ∀ (v : Int) (u : State),
      (handChange i v u).arb = u.arb ∧ (handChange i v u).comp = u.comp ∧ (handChange i v u).defr = u.defr := by
    simp [profiledBeforeMax, handChange]
  generalize profiledBeforeMax = items at hone
  induction items generalizing s with
  | nil => exact ⟨rfl, rfl, rfl⟩
  | cons i rest ih =>
    have hrest := fun u => ih u fun j hj => hone j (List.mem_cons_of_mem _ hj)
    simp only [handChanges]
    split
    · exact hrest s
    · obtain ⟨harb, hcomp, hdefr⟩ := hone i List.mem_cons_self (old.eff i) s
      simpa only [harb, hcomp, hdefr] using hrest (handChange i (old.eff i) s)

/-- R107, R185: N_MAX changes with the profile, and the limit with it. -/
theorem changeProfile_driveLaws (p : Nat) : DriveLawsKept s (changeProfile p s) := by
  unfold changeProfile
  split
  · exact .refl s
  · rw [show Item.profiled = profiledBeforeMax ++ .nMax :: [.uFull, .fDue, .maxGap, .ajarTime] from rfl,
      handChanges_append, handChanges]
    refine .trans ?_ (handChanges_driveLaws _ _ _)
    generalize hu : handChanges s.settings profiledBeforeMax { s with settings := { s.settings with profile := p } } = u
    have hset : u.settings = { s.settings with profile := p } := hu ▸ (handChanges_keeps _ _ _).2.1
    obtain ⟨harb, hcomp, hdefr⟩ :=
      handChanges_profiledBeforeMax { s with settings := { s.settings with profile := p } } s.settings
    rw [hu] at harb hcomp hdefr
    have hsame : DriveReadsSame s u := .of_records hcomp hdefr
    have hsettings : SettingsLaw s → SettingsLaw u := fun k => k.profile p hset
    have hmin : u.nMin = s.nMin := by
      simp only [State.nMin, State.effN, State.eff, hset]
      rw [Settings.eff_profile]
      simp only [Item.default_of_not_profiled (i := .nMin) (by simp [Item.profiled])]
    split
    · next hmax =>
      exact of_same (fun k => k.congr harb) hsettings ⟨hmin, congrArg Int.toNat hmax⟩ hsame
    · exact onLimitChange_driveLaws_from s harb hsame hsettings

end

end Sys2Proof.Machine

/-! The laws of the compressor, the heater and the routes across requests, expiries, resets, and so across every step.
-/

namespace Sys2Proof.Machine

open DriveLawsKept

section

variable (s : State)

/-! ### Requests (R62, R63, R75, R95, R96, R110, R112, R121, R134) -/

theorem performSet_driveLaws (id : Byte) (v : Int) : DriveLawsKept s (performSet id v s).2 := by
  unfold performSet
  split
  · simp only [setAnswer_snd, setProfileItem]
    split
    · exact .refl s
    · exact changeProfile_driveLaws s _
  · split
    · simpa only [setAnswer_snd] using setItem_driveLaws s _ v
    · exact .refl s

/-- R134: an abort before HEAT. -/
theorem abortBeforeHeat_driveLaws (hr : ResumeLaw s → s.defr.resumeHeat = false) :
    DriveLawsKept s (abortBeforeHeat s) := by
  have hstopped : DriveLawsKept s (s.stopC .phase) := of_eq (by simp) (by simp [DriveReadsSame])
  exact hstopped.trans (leaveDefrost_driveLaws _ hr)

theorem orderStartDefrost_driveLaws : DriveLawsKept s (orderStartDefrost s).2 := by
  unfold orderStartDefrost
  split
  · next hp =>
    split
    · exact .refl s
    · exact enterPending_driveLaws s (by simp [hp])
  all_goals exact .refl s

theorem orderAbortDefrost_driveLaws : DriveLawsKept s (orderAbortDefrost s).2 := by
  unfold orderAbortDefrost
  split
  · next hp => exact setPhase_driveLaws s .idle fun k => k.no_resume (by simp [hp])
  · next hp => exact abortBeforeHeat_driveLaws s fun k => k.no_resume (by simp [hp])
  · dsimp only
    split
    · exact endHeat_driveLaws s .abort
    · next hr => exact abortBeforeHeat_driveLaws s fun _ => Bool.eq_false_of_not_eq_true hr
  · exact endHeat_driveLaws s .abort
  all_goals exact .refl s

theorem doOrder_driveLaws (o : Order) : DriveLawsKept s (doOrder o s).2 := by
  cases o with
  | startDefrost => exact orderStartDefrost_driveLaws s
  | abortDefrost => exact orderAbortDefrost_driveLaws s
  | hold =>
    simp only [doOrder, orderHold]
    split
    · exact .refl s
    · exact claimService_driveLaws s
  | release =>
    have hstopped : DriveLawsKept s (s.stopC .svc) := of_eq (by simp) (by simp [DriveReadsSame])
    simp only [doOrder, orderRelease]
    split
    · exact hstopped.trans (endService_driveLaws _)
    · exact .refl s
  | clearFault =>
    simp only [doOrder, orderClearFault]
    split
    · next h => exact clearLockout_driveLaws s h
    · exact .refl s
  | restart => exact of_records ⟨rfl, rfl⟩ rfl rfl
  | planCommit => exact commitPlan_driveLaws s
  | curveCommit =>
    simp only [doOrder, orderCurveCommit]
    split
    · exact of_records ⟨rfl, rfl⟩ rfl rfl
    · exact .refl s

theorem performOrder_driveLaws (code : Byte) : DriveLawsKept s (performOrder code s).2 := by
  unfold performOrder
  split
  · simpa only [setAnswer_snd] using doOrder_driveLaws s _
  · exact .refl s

/-- R61, R62: a staged entry lies within the route limits. -/
theorem performPlanStage_driveLaws (entry : Byte) (fo co fd sf : Int) :
    DriveLawsKept s (performPlanStage entry fo co fd sf s).2 := by
  unfold performPlanStage
  split
  · exact .refl s
  · next e _ =>
    exact of_arb (fun ⟨⟨hactive, hstaged⟩, hroute, hstack⟩ =>
      ⟨⟨hactive, s.arb.staged.put_inLimits hstaged e fo co fd sf⟩, hroute, hstack⟩) rfl rfl rfl

/-- R112: a compressor field sets a demand in steps of 30. -/
theorem driveDemand_steps30 (v : Int) (hs : SettingsLaw s) : (driveDemand v s.nMin s.nMax).steps30 := by
  rw [driveDemand_eq hs]
  split
  · trivial
  · exact Nat.mul_mod_left _ _

theorem performServiceDrive_driveLaws (fresh chill fan compressor heater : Int) :
    DriveLawsKept s (performServiceDrive fresh chill fan compressor heater s).2 := by
  have hdampers : DriveLawsKept s (s.dampersDriven fresh chill) := of_records ⟨rfl, rfl⟩ rfl rfl
  have hfan : ∀ u, DriveLawsKept u (driveFan fan u) := fun u => by
    unfold driveFan
    split
    · exact .refl u
    · exact requestFan_driveLaws u _
  have hcomp : ∀ u, DriveLawsKept u (driveComp compressor u) := fun u => by
    unfold driveComp
    split
    · exact .refl u
    · exact giveDemand_driveLaws u _ fun hs _ => driveDemand_steps30 u compressor hs
  have hheater : ∀ u, DriveLawsKept u (driveHeater heater u) := fun u =>
    (onDefr_driveLaws u (fun d => { d with svcHeater := heaterAfter heater d.svcHeater }) ⟨rfl, rfl, rfl, rfl⟩).trans
      (refreshHeater_driveLaws _)
  unfold performServiceDrive
  split
  · exact .refl s
  · rw [applyDrive_eq]
    exact ((hdampers.trans (hfan _)).trans (hcomp _)).trans (hheater _)

theorem perform_driveLaws (r : Request) : DriveLawsKept s (perform r s).2 := by
  cases r with
  | set i v => exact performSet_driveLaws s i _
  | order c => exact performOrder_driveLaws s c
  | planStage e a b c d => exact performPlanStage_driveLaws s e _ _ _ _
  | serviceDrive a b c d e => exact performServiceDrive_driveLaws s _ _ _ _ _
  | curveLoad i vs =>
    simp only [perform, performCurveLoad]
    split
    · exact of_records ⟨rfl, rfl⟩ rfl rfl
    · exact .refl s
  | get i =>
    simp only [perform, performGet]
    repeat' split
    all_goals exact .refl s
  | zoneView z =>
    simp only [perform, performZoneView]
    split <;> exact .refl s
  | planView p =>
    simp only [perform, performPlanView]
    repeat' split
    all_goals exact .refl s
  | counterView i =>
    simp only [perform, performCounterView]
    split <;> exact .refl s
  | clearDeltas v => exact of_records ⟨rfl, rfl⟩ rfl rfl
  | notifyMask m => exact of_records ⟨rfl, rfl⟩ rfl rfl
  | ident => exact .refl s
  | conditions => exact .refl s
  | stackView => exact .refl s

/-! ### Expiries, dampers and conversions (R30, R75, R82, R84, R155) -/

theorem onSvcExpiry_driveLaws : DriveLawsKept s (onSvcExpiry s) := by
  unfold onSvcExpiry
  split
  · exact endService_driveLaws s
  · exact .refl s

theorem onExpiry_driveLaws (i : CounterId) : DriveLawsKept s (onExpiry i s) := by
  cases i with
  | slot => exact onSlotExpiry_driveLaws s
  | guard => exact onGuard_driveLaws s
  | condrun => exact onComp_driveLaws_of_marks s (fun c => { c with condFan := false }) ⟨rfl, rfl, rfl, rfl⟩
  | phase => exact onPhaseExpiry_driveLaws s
  | settle => exact onSettleExpiry_driveLaws s
  | pause => exact onPauseExpiry_driveLaws s
  | fantime => exact onFantimeExpiry_driveLaws s
  | boost z => exact onBoostExpiry_driveLaws s z
  | alm z => exact of_eq (by simp [onExpiry]) (by simp [onExpiry, DriveReadsSame])
  | svc => exact onSvcExpiry_driveLaws s
  | _ => exact .refl s

theorem onDamper_driveLaws (d : Damper) (f : DamperRec → DamperRec) : DriveLawsKept s (s.onDamper d f) :=
  of_records ⟨rfl, rfl⟩ rfl rfl

theorem damperArrives_driveLaws (d : Damper) : DriveLawsKept s (damperArrives d s) := by
  unfold damperArrives
  split
  · exact (onDamper_driveLaws s d _).trans (onCompletion_driveLaws _)
  · exact .refl s

theorem homingEnds_driveLaws (d : Damper) : DriveLawsKept s (homingEnds d s) := by
  unfold homingEnds
  dsimp only
  split
  · split
    · exact (onDamper_driveLaws s d _).trans (onCompletion_driveLaws _)
    · exact onDamper_driveLaws s d _
  · exact .refl s

theorem damperTick_driveLaws (d : Damper) : DriveLawsKept s (damperTick d s) := by
  have hrec := onDamper_driveLaws s d
  unfold damperTick
  dsimp only
  split
  · split
    · exact (hrec _).trans (damperArrives_driveLaws _ d)
    · exact hrec _
  · split
    · exact (hrec _).trans (homingEnds_driveLaws _ d)
    · exact hrec _
  all_goals exact .refl s

theorem takeConversion_driveLaws : DriveLawsKept s (takeConversion s) := by
  unfold takeConversion
  split
  · exact of_records ⟨rfl, rfl⟩ rfl rfl
  · exact .refl s

/-! ### Resets (R46, R79, R116, R117, R138) -/

theorem fullReset_driveLaws (lines : DoorLines) : DriveLawsKept s (fullReset lines s) where
  heater _ := ⟨rfl, nofun⟩
  line _ _ := ⟨rfl, rfl⟩
  resume _ := nofun
  routes _ := ⟨reset_planLaw, trivial, nofun⟩
  settings _ := reset_settingsLaw.congr rfl
  speed _ _ _ := ⟨trivial, nofun⟩

/-- R79, R117, R138: a WARM restart leaves the compressor not RUNNING, the heater off and the path free. -/
theorem warmReset_driveLaws (lines : DoorLines) : DriveLawsKept s (warmReset lines s) := by
  obtain ⟨-, -, -, -, harb, hcomp, hdefr, -, -, -⟩ := giveIdleEntry_keeps (warmRestored lines s)
  rw [show giveIdleEntry (warmRestored lines s) = warmReset lines s from rfl] at harb hcomp hdefr
  have hstate : (warmReset lines s).comp.state = if s.comp.state = .lockout then .lockout else .off :=
    congrArg Compressor.state hcomp
  have hrest : (warmReset lines s).comp.state ≠ .running := by
    rw [hstate]
    split <;> decide
  have hoff : (warmReset lines s).defr.heaterDrive = false ∧ (warmReset lines s).defr.resumeHeat = false := by
    rw [hdefr]
    exact ⟨rfl, rfl⟩
  refine ⟨fun _ => ⟨?_, by simp [hoff]⟩, fun _ _ => ?_, fun _ h => by simp [hoff] at h, fun ⟨hp, _, _⟩ => ?_,
    (warmReset_storeLaws s lines).settings, fun _ _ _ => ⟨?_, fun h => absurd h hrest⟩⟩
  · rw [hstate, hdefr]
    show (if decide (s.comp.state = .lockout) = true then CompState.lockout else .off) = _
    simp only [decide_eq_true_eq]
  · rw [hcomp]
    exact ⟨rfl, rfl⟩
  · refine RouteLaw.congr (s := warmRestored lines s) ⟨hp, trivial, nofun⟩ harb
  · rw [hcomp]
    exact trivial

/-! ### The step -/

/-- The laws hold across every effect that a step is made of. -/
theorem driveLaws_effectsKeep : EffectsKeep DriveLawsKept where
  refl := .refl
  trans := .trans
  pending _ _ := of_records ⟨rfl, rfl⟩ rfl rfl
  own := own_driveLaws
  counter _ _ _ _ := of_eq (by simp) (by simp [DriveReadsSame])
  link _ _ := of_records ⟨rfl, rfl⟩ rfl rfl
  offer _ _ := of_eq (by simp) (by simp [DriveReadsSame])
  note _ := of_eq (by simp) (by simp [DriveReadsSame])
  request := perform_driveLaws
  full := fullReset_driveLaws
  warm := warmReset_driveLaws
  expiry := onExpiry_driveLaws
  round := onRound_driveLaws
  ramp := onRamp_driveLaws
  due := dueCheck_driveLaws
  carry s := growFrost_driveLaws s _
  ajar _ _ := of_eq (by simp) (by simp [DriveReadsSame])
  overflow := onTachOverflow_driveLaws
  edge _ := of_eq (by simp) (by simp [DriveReadsSame])
  kickEnd := onKickEnd_driveLaws
  fanRetry := onFanRetry_driveLaws
  provingEnd := onProvingEnd_driveLaws
  arrives := damperArrives_driveLaws
  homed := homingEnds_driveLaws
  drive := damperTick_driveLaws
  opening := onOpening_driveLaws
  close := onClose_driveLaws
  time _ := of_records ⟨rfl, rfl⟩ rfl rfl
  conversion := takeConversion_driveLaws

end

/-- Settles O56: the laws hold across every effect, and so across every step. -/
theorem everyStepKeepsHeaterAndSpeedLine : Obligations.EveryStepKeepsHeaterAndSpeedLine :=
  ⟨fun s t k h => (driveLaws_effectsKeep.step s t h).heater k, fun s t k h => (driveLaws_effectsKeep.step s t h).line k,
    fun s t k h => (driveLaws_effectsKeep.step s t h).resume k,
    fun s t hs hr k h => (driveLaws_effectsKeep.step s t h).speed hs hr k⟩

end Sys2Proof.Machine

/-! What a start, a stop, a resolved demand and a report of the compressor come to (R101 to R105, R125, R126),
CLEAR_FAULT (R110), and the AUTO target (R102). -/

namespace Sys2Proof.Machine

section

variable (s : State)

/-! ### Starts and stops (R103, R105) -/

/-- R103: a start touches GUARD, RAMP and CONDRUN alone. -/
theorem startComp_counter (n : Nat) (j : CounterId) (hg : j ≠ .guard) (hr : j ≠ .ramp) (hc : j ≠ .condrun) :
    (startComp n s).counter j = s.counter j := by
  simp [startComp, onComp_counter, hg, hr, hc]

/-- R105: a stop touches GUARD and CONDRUN alone. -/
theorem stopComp_counter (j : CounterId) (hg : j ≠ .guard) (hc : j ≠ .condrun) :
    (stopComp s).counter j = s.counter j := by
  simp [stopComp, beginPostRun, onComp_counter, hg, hc]

/-- R118, R132: a start is known to the sequencer and holds the heater off. -/
theorem startComp_defr (n : Nat) :
    (startComp n s).defr = { s.defr with compState := .running, heaterDrive := false } := by
  simp [startComp, setCompState, refreshHeater, State.heaterWanted]

/-- R105: a stop leaves the phase and what is suspended. -/
theorem stopComp_defr : (stopComp s).defr = (setCompState .off s).defr := by
  simp [stopComp, beginPostRun]

/-! ### A demand that is resolved (R101, R105) -/

variable {s}

theorem SettingsLaw.resolve_of_runsAt (hs : SettingsLaw s) {n : Nat} (hd : s.comp.demand.RunsAt n s) :
    s.resolve = some n :=
  (resolve_eq_some_iff s hs.nMin_le_nMax n).mpr hd

theorem resolve_of_stops (hd : s.comp.demand.Stops s) : s.resolve = none := (resolve_eq_none_iff s).mpr hd

/-- R105: a stop in the minimum run is held. -/
theorem decideStop_of_minOn (hg : s.comp.guard = .minOn) :
    decideStop s = s.onComp fun c => { c with stopHeld := true, target := s.nMin } := by
  simp [decideStop, hg]

/-- R105: a stop after the minimum run is taken. -/
theorem decideStop_of_not_minOn (hg : s.comp.guard ≠ .minOn) : decideStop s = stopComp s := by
  unfold decideStop
  split
  · next h => exact absurd h hg
  all_goals rfl

theorem resolveDemand_of_running_stops (at_ : ResolveAt) (hst : s.comp.state = .running) (hr : s.resolve = none) :
    resolveDemand at_ s = decideStop s := by
  simp [resolveDemand, hst, hr]

/-- R103: the demand starts a compressor that is OFF with its guard expired. -/
theorem resolveDemand_of_off_runs (at_ : ResolveAt) (hst : s.comp.state = .off) {n : Nat} (hr : s.resolve = some n)
    (hg : (s.counter .guard).run = false) : resolveDemand at_ s = startComp n s := by
  simp [resolveDemand, hst, hr, hg]

theorem resolveDemand_of_off_stays (at_ : ResolveAt) (hst : s.comp.state = .off)
    (h : s.resolve = none ∨ (s.counter .guard).run = true) : resolveDemand at_ s = s := by
  simp only [resolveDemand, hst]
  split
  · rfl
  · next hr => simp [h.resolve_left (by simp [hr])]

/-! ### What the sequencer makes of a report (R124, R125) -/

/-- R124, R125: the phase stays where neither STOP_WAIT nor PRE_CHILL waits for the report. -/
theorem followComp_eq_self (hw : s.defr.suspended = true ∨ s.defr.phase ≠ .stopWait ∨ s.defr.compState = .running)
    (hp : s.defr.suspended = true ∨ s.defr.phase ≠ .preChill ∨ s.defr.compState ≠ .lockout) : followComp s = s := by
  unfold followComp
  split
  · rfl
  · next hsus =>
    have hw' := hw.resolve_left hsus
    have hp' := hp.resolve_left hsus
    split
    · next hph => simp [State.compRunning, hw'.resolve_left (not_not.mpr hph)]
    · next hph => exact if_neg (hp'.resolve_left (not_not.mpr hph))
    all_goals rfl

/-! ### FAULTED is left (R109) -/

/-- R109: OFF and COMP_FAULT deasserted, before the demand is resolved. -/
def State.faultLeft (s : State) : State := (setCompState .off s).setLevel .compFault false

theorem faultLeft_counter (j : CounterId) : s.faultLeft.counter j = s.counter j := setCompState_counter s j .off

theorem faultLeft_comp : s.faultLeft.comp = { s.comp with state := .off } := setCompState_comp s .off

theorem leaveFaulted_of_stops (hd : s.comp.demand.Stops s) : leaveFaulted s = s.faultLeft :=
  resolveDemand_of_off_stays _ rfl (.inl (resolve_of_stops (s := s.faultLeft) hd))

theorem leaveFaulted_of_runs (hs : SettingsLaw s) {n : Nat} (hd : s.comp.demand.RunsAt n s)
    (hg : (s.counter .guard).run = false) : leaveFaulted s = startComp n s.faultLeft :=
  resolveDemand_of_off_runs _ rfl (SettingsLaw.resolve_of_runsAt (s := s.faultLeft) (hs.congr rfl) hd) hg

/-! ### CLEAR_FAULT (R110) -/

/-- R110: LOCKOUT is left for OFF, with GUARD restarted with MIN_OFF. -/
theorem clearLockout_eq (hs : SettingsLaw s) :
    clearLockout s =
      ((((setCompState .off s).onComp fun c =>
          { c with faultCount := 0, fltRounds := 0, guard := .minOff }).setCounter .guard
        ((s.counter .guard).timing (s.effN .minOff))).setLevel .compFault false).setLevel .compLockout false := by
  have hoff : s.effN .minOff ≠ 0 := hs.lengths.2.1
  exact congrArg (fun u => (u.setLevel .compFault false).setLevel .compLockout false)
    (State.restartC_eq _ .guard _ hoff (.inl rfl))

end

/-- Settles O24, by the state. -/
theorem clearFaultEndsLockout : Obligations.ClearFaultEndsLockout := by
  intro tag s ha hs
  refine ⟨fun hst => ?_, fun hst => ?_⟩
  · have hrefused : doOrder .clearFault s = (.notApplicable, s) := by simp [doOrder, orderClearFault, hst]
    exact congrArg Host.Outcome.next (submit_order_refused s tag .clearFault .notApplicable ha hrefused rfl)
  · have hdone : doOrder .clearFault s = (.ok, clearLockout s) := by simp [doOrder, orderClearFault, hst]
    have heq := clearLockout_eq hs
    have hown : (clearLockout s).own.signalled = [] := by
      rw [heq]
      exact ha.1
    refine ⟨clearLockout s, congrArg Host.Outcome.next (submit_order_ok s tag .clearFault ha hdone hown), ?_⟩
    rw [heq]
    refine ⟨?_, ?_, ?_, State.level_setLevel_self _ _ _, fun i hf hl => ?_, ?_, ?_, ?_, ?_, ?_, ?_, ?_, ?_⟩
    · rfl
    · rfl
    · rw [State.level_setLevel_of_ne _ _ _ _ (by decide), State.level_setLevel_self]
    · rw [State.level_setLevel_of_ne _ _ _ _ hl, State.level_setLevel_of_ne _ _ _ _ hf]
      rfl
    · exact ⟨_, rfl⟩
    all_goals simp

/-! ### The AUTO target (R102) -/

/-- R102: steps 1 to 4, the ambient lift being given as a natural number. -/
theorem State.rawTarget_eq (s : State) :
    s.rawTarget = s.effN .nMin + (s.effN .nMax - s.effN .nMin) *
      min (s.effN .uFull)
        ((if s.zones.fresh.calling then s.zones.fresh.urgency else 0) +
          (if s.zones.chill.calling then s.zones.chill.urgency else 0) +
          (if s.zones.freeze.calling then s.zones.freeze.urgency else 0)) / s.effN .uFull := by
  simp [State.rawTarget, State.urgencySum, State.nMin, State.nMax, allZones, State.zone, PerZone.get,
    Nat.add_assoc] <;> rfl

theorem State.ambientLift_eq (s : State) {lift : Nat}
    (h : (lift : Int) =
      if s.eff .ambRef < s.comp.ambient then s.eff .ambGain * (s.comp.ambient - s.eff .ambRef) else 0) :
    s.ambientLift = lift := by
  unfold State.ambientLift
  by_cases ha : s.eff .ambRef < s.comp.ambient
  · rw [if_pos ha] at h ⊢
    omega
  · rw [if_neg ha] at h ⊢
    omega

/-- Settles O43: the cap, and then the floor. -/
theorem autoTargetFormula : Obligations.AutoTargetFormula := by
  intro floor s hs
  have hspeed : ∀ n, s.limitSpeed n = max (s.effN .nMin) (min (s.effN .nMax) n) := fun n =>
    limitedN_eq _ _ _ hs.nMin_le_nMax
  refine ⟨fun hcap => by simp [State.autoTarget, hcap, State.nMin], fun hcap uSum lift nRaw hsum hraw hlift => ?_⟩
  have hraw' : s.rawTarget = nRaw := by rw [State.rawTarget_eq, hraw, hsum]
  simp only [State.autoTarget, hcap, Bool.false_eq_true, if_false, hraw', s.ambientLift_eq hlift]
  cases floor with
  | none => simp only [State.raiseToFloor, hspeed, floor30, Nat.max_zero]
  | some f => simp only [State.raiseToFloor, hspeed, floor30]

end Sys2Proof.Machine

/-! The compressor's own expiries: RAMP (R101, R104), CONDRUN (R111) and GUARD (R106, R109). -/

namespace Sys2Proof.Machine

/-! ### The RAMP expiry (R104, R154) -/

/-- R154: RAMP has expired and runs on. -/
def State.rampRewound (s : State) : State :=
  s.setCounter .ramp { s.counter .ramp with count := (s.counter .ramp).reload, part := 0 }

section

variable {s : State}

/-- R104, R154: the expiry's effect, where it signals no expiry. -/
theorem exec_rampExpiry_of {t : State} (hst : Settled s) (hrun : (s.counter .ramp).run = true)
    (ht : onRamp s.rampRewound = t) (hown : t.own = s.own) : exec .rampExpiry s = .next (startNote t) := by
  have hlink : t.link = s.link := by
    rw [← ht]
    simp [State.rampRewound]
  have he : exec .rampExpiry s = .next (finish (rampExpires s)) := rfl
  rw [he, rampExpires, if_pos hrun, ← finish_of_settled t (hst.of_eq hlink (congrArg _ hown)), ← ht]
  rfl

/-- R105: a stop told from before the expiry, which touches RAMP alone. -/
theorem CompStops.of_rampRewound {d : Demand} {t : State} (h : CompStops d s.rampRewound t) : CompStops d s t := by
  obtain ⟨hcomp, hg, hc, hk⟩ := h
  exact ⟨hcomp, hg, hc, hk⟩

/-- R103: a start told from before the expiry, which touches RAMP alone. -/
theorem CompStarts.of_rampRewound {d : Demand} {n : Nat} {t : State} (h : CompStarts d n s.rampRewound t) :
    CompStarts d n s t := by
  obtain ⟨hcomp, hg, hr, hc, hk⟩ := h
  exact ⟨hcomp, hg, hr, hc, hk⟩

theorem onRampExpiry_of_off (hst : s.comp.state = .off) : onRampExpiry s = resolveDemand .ramp s := by
  simp [onRampExpiry, hst]

theorem onRampExpiry_of_faulted (hst : s.comp.state = .faulted ∨ s.comp.state = .lockout) : onRampExpiry s = s := by
  rcases hst with hst | hst <;> simp [onRampExpiry, hst]

/-- R104: a compressor that goes on RUNNING takes a step toward its target. -/
theorem onRampExpiry_of_running {t : State} (hst : s.comp.state = .running) (ht : resolveDemand .ramp s = t)
    (hrun : t.comp.state = .running) :
    onRampExpiry s = t.onComp fun c =>
      { c with command := rampStep c.command c.target (t.effN .rampUp) (t.effN .rampDn) } := by
  simp [onRampExpiry, hst, ht, hrun]

/-- R101, R104: a demand to run becomes the target. -/
theorem onRampExpiry_of_runs (hst : s.comp.state = .running) {n : Nat} (hr : s.resolve = some n) :
    onRampExpiry s = s.onComp fun c =>
      { c with stopHeld := false, target := n, command := rampStep c.command n (s.effN .rampUp) (s.effN .rampDn) } :=
  onRampExpiry_of_running (t := s.onComp fun c => { c with stopHeld := false, target := n }) hst
    (by simp [resolveDemand, hst, hr]) hst

/-- R104, R105: a stop that the minimum run holds has N_MIN as its target. -/
theorem onRampExpiry_of_held (hst : s.comp.state = .running) (hr : s.resolve = none) (hg : s.comp.guard = .minOn) :
    onRampExpiry s = s.onComp fun c =>
      { c with
        stopHeld := true, target := s.nMin, command := rampStep c.command s.nMin (s.effN .rampUp) (s.effN .rampDn) } :=
  onRampExpiry_of_running (t := s.onComp fun c => { c with stopHeld := true, target := s.nMin }) hst
    (by rw [resolveDemand_of_running_stops _ hst hr, decideStop_of_minOn hg]) hst

/-- R105: a stop is taken after the minimum run. -/
theorem onRampExpiry_of_stops (hst : s.comp.state = .running) (hr : s.resolve = none) (hg : s.comp.guard ≠ .minOn) :
    onRampExpiry s = stopComp s := by
  have hstop : resolveDemand .ramp s = stopComp s := by
    rw [resolveDemand_of_running_stops _ hst hr, decideStop_of_not_minOn hg]
  have hoff : (stopComp s).comp.state = .off := by simp [stopComp, beginPostRun]
  simp [onRampExpiry, hst, hstop, hoff]

/-- R124, R125: no phase waits for a compressor that goes on RUNNING. -/
theorem followComp_of_running (h : s.defr.compState = .running) : followComp s = s :=
  followComp_eq_self (.inr (.inr h)) (.inr (.inr (by simp [h])))

/-- R125: a compressor that has stopped is awaited by STOP_WAIT alone. -/
theorem followComp_of_off (h : s.defr.compState = .off) (hw : s.defr.suspended = true ∨ s.defr.phase ≠ .stopWait) :
    followComp s = s :=
  followComp_eq_self (hw.imp_right .inl) (.inr (.inr (by simp [h])))

/-- R101, R104: a RAMP expiry with a demand to run. -/
theorem onRamp_of_runs (hst : s.comp.state = .running) (hk : s.defr.compState = .running) {n : Nat}
    (hr : s.resolve = some n) :
    onRamp s = s.onComp fun c =>
      { c with stopHeld := false, target := n, command := rampStep c.command n (s.effN .rampUp) (s.effN .rampDn) } := by
  rw [onRamp, onRampExpiry_of_runs hst hr]
  exact followComp_of_running hk

/-- R104, R105: a RAMP expiry that finds the stop held. -/
theorem onRamp_of_held (hst : s.comp.state = .running) (hk : s.defr.compState = .running) (hr : s.resolve = none)
    (hg : s.comp.guard = .minOn) :
    onRamp s = s.onComp fun c =>
      { c with
        stopHeld := true, target := s.nMin, command := rampStep c.command s.nMin (s.effN .rampUp) (s.effN .rampDn) } := by
  rw [onRamp, onRampExpiry_of_held hst hr hg]
  exact followComp_of_running hk

/-- R104, R105: a RAMP expiry that stops the compressor. -/
theorem onRamp_of_stops (hst : s.comp.state = .running) (hr : s.resolve = none) (hg : s.comp.guard ≠ .minOn)
    (hw : s.defr.suspended = true ∨ s.defr.phase ≠ .stopWait) : onRamp s = stopComp s := by
  have hdefr := stopComp_defr s
  rw [onRamp, onRampExpiry_of_stops hst hr hg]
  exact followComp_of_off (by rw [hdefr]; rfl) (by rw [hdefr]; exact hw)

/-- R103: a RAMP expiry that starts the compressor. -/
theorem onRamp_of_starts (hst : s.comp.state = .off) {n : Nat} (hr : s.resolve = some n)
    (hg : (s.counter .guard).run = false) : onRamp s = startComp n s := by
  rw [onRamp, onRampExpiry_of_off hst, resolveDemand_of_off_runs _ hst hr hg]
  exact followComp_of_running (by rw [startComp_defr])

/-- R101, R109, R110: a RAMP expiry that finds nothing to do. -/
theorem onRamp_of_rests (hk : s.defr.compState = s.comp.state)
    (h : s.comp.state = .off ∧ (s.resolve = none ∨ (s.counter .guard).run = true) ∨ s.comp.state = .faulted ∨
      s.comp.state = .lockout ∧ (s.defr.suspended = true ∨ s.defr.phase ≠ .preChill))
    (hw : s.defr.suspended = true ∨ s.defr.phase ≠ .stopWait) : onRamp s = s := by
  rw [onRamp]
  rcases h with ⟨hst, hstays⟩ | hst | ⟨hst, hp⟩
  · rw [onRampExpiry_of_off hst, resolveDemand_of_off_stays _ hst hstays]
    exact followComp_of_off (hk.trans hst) hw
  · rw [onRampExpiry_of_faulted (.inl hst)]
    exact followComp_eq_self (hw.imp_right .inl) (.inr (.inr (by simp [hk, hst])))
  · rw [onRampExpiry_of_faulted (.inr hst)]
    exact followComp_eq_self (hw.imp_right .inl) (hp.imp_right .inl)

end

/-- Settles O42: the RAMP expiry of a RUNNING compressor by what its demand resolves to, then that of another one, and
the CONDRUN expiry. -/
theorem rampAndCondrunExpiry : Obligations.RampAndCondrunExpiry := by
  refine ⟨fun n s hst hs hrun hstate hd hk => ?step, fun rewound s hst hs hk hrun hrew => ?_, fun s hst hrun => ?condrun⟩
  case step =>
    have hr := SettingsLaw.resolve_of_runsAt (s := s.rampRewound) (hs.congr rfl) hd
    exact exec_rampExpiry_of hst hrun (onRamp_of_runs (s := s.rampRewound) hstate hk hr) rfl
  case condrun =>
    have he : exec .condrunExpiry s = .next (finish (fireOneShot .condrun onCondrunExpiry s)) := rfl
    rw [he, fireOneShot_of_run _ _ _ hrun]
    exact congrArg Host.Outcome.next (finish_of_settled _ (hst.of_eq rfl rfl))
  have hset : SettingsLaw s.rampRewound := hs.congr rfl
  obtain ⟨hon, hoff, -⟩ := hset.lengths
  subst hrew
  refine ⟨fun hstate hd hg => ?held, fun hstate hd hg hw => ?stops, fun n hstate hd hg hw => ?starts, fun h hw => ?rests⟩
  case held =>
    exact exec_rampExpiry_of hst hrun
      (onRamp_of_held (s := s.rampRewound) hstate (hk.1.trans hstate) (resolve_of_stops hd) hg) rfl
  case stops =>
    have hramp := onRamp_of_stops (s := s.rampRewound) hstate (resolve_of_stops hd) hg hw
    refine ⟨_, exec_rampExpiry_of hst hrun hramp (stopComp_own _ hoff), (stopComp_stops _ hoff).of_rampRewound,
      fun i hr hgd hc => ?_, ?_, ?_, ?_⟩
    · rw [stopComp_counter _ _ hgd hc]
      exact State.counter_setCounter_of_ne _ _ _ _ hr
    · rw [stopComp_counter _ _ (by decide) (by decide)]
      exact State.counter_setCounter_self _ _ _
    · rw [stopComp_defr]
      rfl
    · simp [State.rampRewound]
  case starts =>
    have hramp := onRamp_of_starts (s := s.rampRewound) hstate (SettingsLaw.resolve_of_runsAt hset hd) hg
    refine ⟨_, exec_rampExpiry_of hst hrun hramp (startComp_own _ _ hon), (startComp_starts _ _ hon).of_rampRewound,
      fun i hr hgd hc => ?_, ?_, ?_⟩
    · rw [startComp_counter _ _ _ hgd hr hc]
      exact State.counter_setCounter_of_ne _ _ _ _ hr
    · rw [startComp_defr]
      rfl
    · simp [State.rampRewound]
  case rests =>
    refine exec_rampExpiry_of hst hrun (onRamp_of_rests (s := s.rampRewound) hk.1 ?_ hw) rfl
    exact h.imp_left (And.imp_right (Or.imp_left (resolve_of_stops (s := s.rampRewound))))

/-! ### The GUARD expiry (R106) -/

/-- R155: GUARD has expired. -/
def State.guardExpired (s : State) : State :=
  s.setCounter .guard { s.counter .guard with run := false, count := 0, part := 0 }

/-- R106: what the guard held is free. -/
def State.guardEnded (s : State) : State := s.guardExpired.onComp fun c => { c with guard := .none }

/-- R106: the end of the minimum run clears fault_count. -/
def State.minRunEnded (s : State) : State := s.guardEnded.onComp fun c => { c with faultCount := 0 }

section

variable {s : State}

theorem guardEnded_counter_of_ne (i : CounterId) (hi : i ≠ .guard) : s.guardEnded.counter i = s.counter i :=
  State.counter_setCounter_of_ne _ _ _ _ hi

theorem minRunEnded_guard : s.minRunEnded.comp.guard = .none := rfl

theorem guardEnded_stopped : (s.guardEnded.counter .guard).run = false :=
  congrArg Counter.run (State.counter_setCounter_self s .guard _)

/-- R106, R155: the expiry's effect, where it signals no expiry. -/
theorem exec_guardExpiry_of {t : State} (hst : Settled s) (hrun : (s.counter .guard).run = true)
    (ht : onGuard s.guardExpired = t) (hown : t.own = s.own) : exec .guardExpiry s = .next (startNote t) := by
  have hlink : t.link = s.link := by
    rw [← ht]
    simp [State.guardExpired]
  have he : exec .guardExpiry s = .next (finish (fireOneShot .guard onGuard s)) := rfl
  rw [he, fireOneShot_of_run _ _ _ hrun, show onGuard (s.setCounter .guard _) = t from ht,
    finish_of_settled t (hst.of_eq hlink (congrArg _ hown))]

/-- R103, R106: the minimum rest ends, and a demand to run starts the compressor. -/
theorem onGuard_of_starts (hst : s.comp.state = .off) {n : Nat} (hr : s.guardEnded.resolve = some n) :
    onGuard s.guardExpired = startComp n s.guardEnded := by
  have hexpiry : onGuardExpiry s.guardExpired = resolveDemand .guard s.guardEnded := by
    simp [onGuardExpiry, State.guardEnded, State.guardExpired, hst]
  rw [onGuard, hexpiry, resolveDemand_of_off_runs (s := s.guardEnded) _ hst hr guardEnded_stopped]
  exact followComp_of_running (by rw [startComp_defr])

/-- R106: the minimum run has ended. -/
theorem onGuardExpiry_of_running (hst : s.comp.state = .running) :
    onGuardExpiry s.guardExpired = resolveDemand .guard s.minRunEnded := by
  simp [onGuardExpiry, State.minRunEnded, State.guardEnded, State.guardExpired, hst]

/-- R101, R106: the minimum run ends with a demand to run. -/
theorem onGuard_of_runs (hst : s.comp.state = .running) (hk : s.defr.compState = .running) {n : Nat}
    (hr : s.guardEnded.resolve = some n) :
    onGuard s.guardExpired = s.guardEnded.onComp fun c => { c with faultCount := 0, stopHeld := false } := by
  have hgoes : resolveDemand .guard s.minRunEnded =
      s.guardEnded.onComp fun c => { c with faultCount := 0, stopHeld := false } := by
    have hr' : s.minRunEnded.resolve = some n := hr
    have hst' : s.minRunEnded.comp.state = .running := hst
    simp only [resolveDemand, hst', hr']
    rfl
  rw [onGuard, onGuardExpiry_of_running hst, hgoes]
  exact followComp_of_running hk

/-- R105, R106: the minimum run ends, and the held stop is taken. -/
theorem onGuard_of_stops (hst : s.comp.state = .running) (hr : s.guardEnded.resolve = none)
    (hw : s.defr.suspended = true ∨ s.defr.phase ≠ .stopWait) :
    onGuard s.guardExpired = stopComp s.minRunEnded := by
  have hdefr := stopComp_defr s.minRunEnded
  have hstop : resolveDemand .guard s.minRunEnded =
      stopComp s.minRunEnded :=
    (resolveDemand_of_running_stops (s := s.minRunEnded) _ hst hr).trans
      (decideStop_of_not_minOn (by simp [minRunEnded_guard]))
  rw [onGuard, onGuardExpiry_of_running hst, hstop]
  exact followComp_of_off (by rw [hdefr]; rfl) (by rw [hdefr]; exact hw)

/-- R106, R109, R110: only the guard changes. -/
theorem onGuard_of_rests (hk : s.defr.compState = s.comp.state)
    (h : s.comp.state = .faulted ∧ s.scanner.compFlt = some true ∨ s.comp.state = .off ∧ s.guardEnded.resolve = none ∨
      s.comp.state = .lockout ∧ (s.defr.suspended = true ∨ s.defr.phase ≠ .preChill))
    (hw : s.defr.suspended = true ∨ s.defr.phase ≠ .stopWait) : onGuard s.guardExpired = s.guardEnded := by
  have hfollow : (s.defr.suspended = true ∨ s.defr.phase ≠ .preChill ∨ s.defr.compState ≠ .lockout) →
      followComp s.guardEnded = s.guardEnded := followComp_eq_self (s := s.guardEnded) (hw.imp_right .inl)
  rw [onGuard]
  rcases h with ⟨hst, hflt⟩ | ⟨hst, hr⟩ | ⟨hst, hp⟩
  · have hexpiry : onGuardExpiry s.guardExpired = s.guardEnded := by
      simp [onGuardExpiry, State.guardEnded, State.guardExpired, hst, hflt]
    rw [hexpiry]
    exact hfollow (.inr (.inr (by simp [hk, hst])))
  · have hexpiry : onGuardExpiry s.guardExpired = resolveDemand .guard s.guardEnded := by
      simp [onGuardExpiry, State.guardEnded, State.guardExpired, hst]
    rw [hexpiry, resolveDemand_of_off_stays (s := s.guardEnded) _ hst (.inl hr)]
    exact hfollow (.inr (.inr (by simp [hk, hst])))
  · have hexpiry : onGuardExpiry s.guardExpired = s.guardEnded := by
      simp [onGuardExpiry, State.guardEnded, State.guardExpired, hst]
    rw [hexpiry]
    exact hfollow (hp.imp_right .inl)

/-- R106, R109: FAULTED is left with the level negated. -/
theorem onGuard_of_leaves (hst : s.comp.state = .faulted) (hflt : s.scanner.compFlt ≠ some true) :
    onGuard s.guardExpired = followComp (leaveFaulted s.guardEnded) := by
  simp [onGuard, onGuardExpiry, State.guardEnded, State.guardExpired, hst, hflt]

/-- R109: no phase but STOP_WAIT waits for the leaving of FAULTED. -/
theorem followComp_faultLeft (hw : s.defr.suspended = true ∨ s.defr.phase ≠ .stopWait) :
    followComp s.faultLeft = s.faultLeft := followComp_of_off rfl hw

end

/-- R103, R106: the start at a GUARD expiry, told from the state before it. -/
theorem guardStart_tells {s u : State} (n : Nat) (hon : u.effN .minOn ≠ 0) (hset : u.settings = s.settings)
    (hguard : ∀ k, (u.counter .guard).timing k = (s.counter .guard).timing k)
    (hcount : ∀ i, i ≠ .guard → u.counter i = s.counter i) :
    (startComp n u).counter .guard = (s.counter .guard).timing (s.effN .minOn) ∧
      (startComp n u).counter .ramp = (s.counter .ramp).timing 1000 ∧ ((startComp n u).counter .condrun).run = false ∧
      ∀ i, i ≠ .guard → i ≠ .ramp → i ≠ .condrun → (startComp n u).counter i = s.counter i := by
  obtain ⟨-, hg, hr, hc, -⟩ := startComp_starts u n hon
  refine ⟨?_, ?_, ?_, fun i hgd hrp hcd => ?_⟩
  · rw [hg, hguard, State.effN_congr hset]
  · rw [hr, hcount _ (by decide)]
  · rw [hc, Counter.stop_run]
  · rw [startComp_counter _ _ _ hgd hrp hcd, hcount i hgd]

/-- Settles O44, state by state and by what the demand resolves to. -/
theorem guardExpiryByStateAndDemand : Obligations.GuardExpiryByStateAndDemand := by
  have htiming : ∀ (s : State) k, (s.guardEnded.counter .guard).timing k = (s.counter .guard).timing k := fun s k => rfl
  refine ⟨fun n s hst hs hrun hd => ?demandRuns, fun s hst hs hrun hstate hd hw _ => ?demandStops,
    fun s hst hs hk hrun hw => ?notRunning⟩
  case demandRuns =>
    have hset : SettingsLaw s.guardEnded := hs.congr rfl
    have hr := SettingsLaw.resolve_of_runsAt hset hd
    refine ⟨fun hstate _ => ?_, fun hstate hk => exec_guardExpiry_of hst hrun (onGuard_of_runs hstate hk hr) rfl⟩
    have hon := hset.lengths.1
    obtain ⟨hg, hramp, hc, hcount⟩ :=
      guardStart_tells (s := s) n hon rfl (htiming s) fun i hi => guardEnded_counter_of_ne i hi
    refine ⟨_, exec_guardExpiry_of hst hrun (onGuard_of_starts hstate hr) (startComp_own _ _ hon),
      (startComp_starts _ n hon).1, hg, hramp, hc, hcount, startComp_defr _ n, ?_⟩
    simp [State.guardEnded, State.guardExpired]
  case demandStops =>
    have hoff : s.minRunEnded.effN .minOff ≠ 0 := hs.lengths.2.1
    obtain ⟨hcomp, hg, hc, hk⟩ := stopComp_stops _ hoff
    refine ⟨_, exec_guardExpiry_of hst hrun (onGuard_of_stops hstate (resolve_of_stops (s := s.guardEnded) hd) (.inr hw))
      (stopComp_own _ hoff), hcomp, hg, hc, fun i hgd hcd => ?_, hk, ?_⟩
    · rw [stopComp_counter _ _ hgd hcd]
      exact guardEnded_counter_of_ne i hgd
    · simp [State.minRunEnded, State.guardEnded, State.guardExpired]
  case notRunning =>
    have hown : s.guardEnded.faultLeft.own = s.own := by simp [State.guardEnded, State.guardExpired, State.faultLeft]
    have hkept : s.guardEnded.faultLeft.settings = s.settings := by
      simp [State.guardEnded, State.guardExpired, State.faultLeft]
    refine ⟨fun h => ?rests, fun hstate hflt hd => ?leaves, fun n hstate hflt hd => ?starts⟩
    case rests =>
      refine exec_guardExpiry_of hst hrun (onGuard_of_rests hk.1 ?_ hw) rfl
      exact h.imp_right (Or.imp_left (And.imp_right (resolve_of_stops (s := s.guardEnded))))
    case leaves =>
      have hleft : onGuard s.guardExpired = s.guardEnded.faultLeft := by
        rw [onGuard_of_leaves hstate hflt, leaveFaulted_of_stops (s := s.guardEnded) hd]
        exact followComp_faultLeft (s := s.guardEnded) hw
      refine ⟨_, exec_guardExpiry_of hst hrun hleft hown, ?_⟩
      simp [State.guardEnded, State.guardExpired, State.faultLeft, setCompState]
    case starts =>
      have hset : SettingsLaw s.guardEnded := hs.congr rfl
      have hon : s.guardEnded.faultLeft.effN .minOn ≠ 0 := hset.lengths.1
      have hstarted : onGuard s.guardExpired = startComp n s.guardEnded.faultLeft := by
        rw [onGuard_of_leaves hstate hflt, leaveFaulted_of_runs (s := s.guardEnded) hset hd guardEnded_stopped]
        exact followComp_of_running (by rw [startComp_defr])
      obtain ⟨hg, hramp, hc, hcount⟩ := guardStart_tells (s := s) (u := s.guardEnded.faultLeft) n hon hkept
        (fun k => by rw [faultLeft_counter, htiming]) fun i hi => by rw [faultLeft_counter, guardEnded_counter_of_ne i hi]
      have hdefr := startComp_defr s.guardEnded.faultLeft n
      refine ⟨_, exec_guardExpiry_of hst hrun hstarted ((startComp_own _ _ hon).trans hown), ?_, ?_, ?_, ?_, hg,
        hramp, hc, hcount, ?_⟩
      · rw [(startComp_starts _ n hon).1, faultLeft_comp, State.effN_congr (s := s) hkept]
        rfl
      · simp [State.guardEnded, State.guardExpired, State.faultLeft]
      · rw [hdefr]
      · rw [hdefr]
        rfl
      · simp [State.guardEnded, State.guardExpired, State.faultLeft]

end Sys2Proof.Machine

/-! A round's COMP_FLT level (R108 to R110), and its HEATER_SENSE level with the defrost that the negation of
HEATER_STUCK may make due (R120, R122, R132, R133). -/

namespace Sys2Proof.Machine

section

variable {s : State}

/-! ### A fault (R108, R110, R111) -/

/-- R108: the second asserted round in a row is a fault. -/
theorem onCompFltRound_of_second (hst : s.comp.state = .off ∨ s.comp.state = .running) (hn : s.comp.fltRounds = 1) :
    onCompFltRound true s = takeFault (s.onComp fun c => { c with fltRounds := 2 }) := by
  have hcount : (s.onComp fun c => { c with fltRounds := min 2 (c.fltRounds + 1) }) =
      s.onComp fun c => { c with fltRounds := 2 } := by simp [State.onComp, hn]
  show (if _ then takeFault (s.onComp fun c => { c with fltRounds := min 2 (c.fltRounds + 1) }) else _) = _
  rw [hcount, if_pos ⟨rfl, hst⟩]

/-- R108, R111: a fault is noted in the record, and the post-run begun where the compressor was RUNNING. -/
def State.faultNoted (s : State) : State :=
  let noted := s.onComp fun c =>
    { c with command := 0, target := 0, guard := .minOff, stopHeld := false, faultCount := s.comp.faultCount + 1 }
  if s.comp.state = .running then beginPostRun noted else noted

theorem takeFault_bank :
    (takeFault s).bank = (s.faultNoted.restartC .guard (s.faultNoted.effN .minOff)).bank := by
  unfold takeFault State.faultNoted
  dsimp only
  simp only [decide_eq_true_eq]
  split <;> simp

theorem faultNoted_settings : s.faultNoted.settings = s.settings := by
  unfold State.faultNoted beginPostRun
  dsimp only
  split <;> simp

theorem faultNoted_guard : s.faultNoted.counter .guard = s.counter .guard := by
  unfold State.faultNoted beginPostRun
  dsimp only
  split <;> simp [onComp_counter]

/-- R111: CONDRUN is restarted with 60. -/
theorem faultNoted_condrun : s.faultNoted.counter .condrun =
    if s.comp.state = .running then (s.counter .condrun).timing 60 else s.counter .condrun := by
  unfold State.faultNoted beginPostRun
  dsimp only
  split
  · exact State.counter_restartC_self _ _ _ (by decide) (.inl rfl)
  · rfl

/-- R108: a fault restarts GUARD with MIN_OFF. -/
theorem takeFault_guard (hoff : s.effN .minOff ≠ 0) :
    (takeFault s).counter .guard = (s.counter .guard).timing (s.effN .minOff) := by
  rw [State.counter, takeFault_bank, State.effN_congr faultNoted_settings, ← State.counter,
    State.counter_restartC_self _ _ _ hoff (.inl rfl), faultNoted_guard]

/-- R111: the post-run begins where the compressor was RUNNING. -/
theorem takeFault_condrun : (takeFault s).counter .condrun =
    if s.comp.state = .running then (s.counter .condrun).timing 60 else s.counter .condrun := by
  rw [State.counter, takeFault_bank, ← State.counter, State.counter_restartC_of_ne _ _ _ _ (by decide), faultNoted_condrun]

theorem takeFault_level :
    (takeFault s).level .compFault = true ∧ (3 ≤ s.comp.faultCount + 1 → (takeFault s).level .compLockout = true) := by
  unfold takeFault
  dsimp only
  split
  · exact ⟨(State.level_setLevel_of_ne _ _ _ _ (by decide)).trans (State.level_setLevel_self _ _ _),
      fun _ => State.level_setLevel_self _ _ _⟩
  · next hn => exact ⟨State.level_setLevel_self _ _ _, fun h => absurd h hn⟩

/-! ### A round without the level (R108, R109) -/

/-- R108: the rounds in a row begin anew. -/
def State.fltCleared (s : State) : State := s.onComp fun c => { c with fltRounds := 0 }

theorem onCompFltRound_negated_stays (h : s.comp.state ≠ .faulted ∨ s.comp.guard ≠ .none) :
    onCompFltRound false s = s.fltCleared := by
  have hstays : ¬ (s.fltCleared.comp.state = .faulted ∧ s.fltCleared.comp.guard = .none) := fun ⟨hst, hg⟩ =>
    h.elim (· hst) (· hg)
  exact if_neg hstays

theorem onCompFltRound_negated_leaves (hst : s.comp.state = .faulted) (hg : s.comp.guard = .none) :
    onCompFltRound false s = leaveFaulted s.fltCleared := by
  have hleaves : s.fltCleared.comp.state = .faulted ∧ s.fltCleared.comp.guard = .none := ⟨hst, hg⟩
  exact if_pos hleaves

/-! ### The heater fault rows (R133) -/

theorem heaterOpenRound_of_other {sense : Bool} (h : s.defr.heaterDrive = false ∨ sense ≠ s.level .heaterOpen) :
    heaterOpenRound sense s = s.onDefr fun d => { d with openRun := 0 } := by
  have hrow : (s.defr.heaterDrive && (sense == s.level .heaterOpen)) = false := by
    rcases h with h | h <;> simp [h]
  simp [heaterOpenRound, faultRun, hrow]

theorem heaterOpenRound_of_few {sense : Bool} (hd : s.defr.heaterDrive = true) (h : sense = s.level .heaterOpen)
    (hn : s.defr.openRun < 9) : heaterOpenRound sense s = s.onDefr fun d => { d with openRun := s.defr.openRun + 1 } := by
  have hten : ¬ 10 ≤ s.defr.openRun + 1 := by omega
  simp [heaterOpenRound, faultRun, hd, h, hten]

/-- R133: the tenth round in a row. -/
theorem heaterOpenRound_of_tenth {sense : Bool} (hd : s.defr.heaterDrive = true) (h : sense = s.level .heaterOpen)
    (hn : 9 ≤ s.defr.openRun) :
    heaterOpenRound sense s =
      (s.onDefr fun d => { d with openRun := 0 }).setLevel .heaterOpen (!s.level .heaterOpen) := by
  have hten : 10 ≤ s.defr.openRun + 1 := by omega
  simp [heaterOpenRound, faultRun, hd, h, hten]

theorem heaterStuckRound_of_other {sense : Bool} (h : s.defr.heaterDrive = true ∨ sense = s.level .heaterStuck) :
    heaterStuckRound sense s = s.onDefr fun d => { d with stuckRun := 0 } := by
  have hrow : (!s.defr.heaterDrive && (sense != s.level .heaterStuck)) = false := by
    rcases h with h | h <;> simp [h]
  simp [heaterStuckRound, faultRun, hrow]

theorem heaterStuckRound_of_few {sense : Bool} (hd : s.defr.heaterDrive = false) (h : sense ≠ s.level .heaterStuck)
    (hn : s.defr.stuckRun < 9) :
    heaterStuckRound sense s = s.onDefr fun d => { d with stuckRun := s.defr.stuckRun + 1 } := by
  have hten : ¬ 10 ≤ s.defr.stuckRun + 1 := by omega
  simp [heaterStuckRound, faultRun, hd, h, hten]

/-- R132, R133: the tenth round in a row, and the drive that follows the level. -/
theorem heaterStuckRound_of_tenth {sense : Bool} (hd : s.defr.heaterDrive = false) (h : sense ≠ s.level .heaterStuck)
    (hn : 9 ≤ s.defr.stuckRun) :
    heaterStuckRound sense s =
      refreshHeater ((s.onDefr fun d => { d with stuckRun := 0 }).setLevel .heaterStuck (!s.level .heaterStuck)) := by
  have hten : 10 ≤ s.defr.stuckRun + 1 := by omega
  simp [heaterStuckRound, faultRun, hd, h, hten]

/-- R120: a round that negates no HEATER_STUCK makes no due check. -/
theorem onHeaterSenseRound_of_no_negation {sense : Bool} {t : State}
    (ht : heaterStuckRound sense (heaterOpenRound sense s) = t)
    (h : s.level .heaterStuck = true → t.level .heaterStuck = true) : onHeaterSenseRound sense s = t := by
  have hkeeps : (s.level .heaterStuck && !t.level .heaterStuck) = false := by
    cases hl : s.level .heaterStuck
    · rfl
    · simp [h hl]
  simp [onHeaterSenseRound, ht, hkeeps]

/-- R120: a round that negates HEATER_STUCK makes the due check. -/
theorem onHeaterSenseRound_of_negation {sense : Bool} {t : State}
    (ht : heaterStuckRound sense (heaterOpenRound sense s) = t) (hs : s.level .heaterStuck = true)
    (hl : t.level .heaterStuck = false) : onHeaterSenseRound sense s = dueCheck t := by
  simp [onHeaterSenseRound, ht, hs, hl]

/-! ### The claim of a defrost that has fallen due (R122, R123) -/

theorem SequencerSame.phase {s t : State} (h : SequencerSame s t) : t.defr.phase = s.defr.phase := by
  obtain ⟨st, on, hd⟩ := h
  rw [hd]

/-- R125, R126: STOP_WAIT is entered, and HEAT where the compressor is not RUNNING. -/
theorem enterStopWait_phase :
    (enterStopWait s).defr.phase = .stopWait ∨ (enterStopWait s).defr.phase = .heat := by
  have hstop : ∀ p u, (giveStopOutputs (setPhase p u)).defr.phase = p := fun p u => (giveStopOutputs_sequencer _).phase
  unfold enterStopWait endStopWait continueHeat enterHeat
  dsimp only
  split
  · exact .inl (hstop _ _)
  · split
    · exact .inr (by simpa using hstop _ _)
    · exact .inr (hstop _ _)

/-- R123: PRE_CHILL, STOP_WAIT or HEAT. -/
theorem enterFirstPhase_phase : (enterFirstPhase s).defr.phase ≠ .idle := by
  unfold enterFirstPhase
  split
  · rcases enterStopWait_phase (s := s) with h | h <;> simp [h]
  · have hpre : (enterPreChill s).defr.phase = .preChill := by
      obtain ⟨st, on, hd⟩ := giveDemand_defr (requestFan s.arb.active.freeze.fanDuty
        (giveOpenings s.arb.active.freeze.freshOpen s.arb.active.freeze.chillOpen s.prechilling)) (.fixed (s.effN .nMax))
      rw [enterPreChill_eq, hd]
      simp [State.prechilling, setPhase]
    simp [hpre]

theorem claimDefrost_phase : (claimDefrost s).defr.phase ≠ .idle := by
  rw [claimDefrost_eq, (tellHolder_sequencer _).phase]
  exact enterFirstPhase_phase

/-- R50, R122: the claim tells DEFROST_ACTIVE and SERVICE_HOLD alone. -/
theorem claimDefrost_heaterStuck : (claimDefrost s).level .heaterStuck = s.level .heaterStuck := by
  have htaken : s.defrostTaken.level .heaterStuck = s.level .heaterStuck := by
    rw [State.defrostTaken, State.level_setLevel_of_ne _ _ _ _ (by decide)]
    simp [State.level, State.claimed]
  rw [claimDefrost_eq, tellHolder_level_of_ne _ _ (by decide), State.level, (enterFirstPhase_keeps _).2.2.2.2.2.2.1]
  exact htaken

/-- R122: a defrost that enters PENDING claims a free path at once. -/
theorem enterPending_enters :
    (enterPending s).level .heaterStuck = s.level .heaterStuck ∧ (enterPending s).defr.phase ≠ .idle ∧
      (s.arb.holder.isFree = true → (enterPending s).arb.holder = .defrost) := by
  by_cases hf : s.arb.holder.isFree = true
  · rw [enterPending_of_free s hf]
    refine ⟨claimDefrost_heaterStuck, claimDefrost_phase, fun _ => ?_⟩
    rw [(claimDefrost_takes (setPhase .pending s) hf).1]
  · have hpending : enterPending s = setPhase .pending s := if_neg hf
    rw [hpending]
    exact ⟨rfl, by simp [setPhase], fun h => absurd h hf⟩

/-! ### A round's HEATER_SENSE level (R132, R133) -/

/-- R132, R133: HEATER_STUCK has changed at the tenth round in a row, and the drive with it, before any due check. -/
def State.stuckChanged (s : State) (stuck drive : Bool) : State :=
  { s with
    defr := { s.defr with openRun := 0, stuckRun := 0, heaterDrive := drive }
    cond := s.cond.setLevel .heaterStuck stuck }

theorem stuckChanged_heaterStuck (stuck drive : Bool) : (s.stuckChanged stuck drive).level .heaterStuck = stuck :=
  Conditions.level_setLevel_self _ _ _

/-- R120: whether a defrost is due rests on the phase, F and GAP. -/
theorem stuckChanged_dueNow_iff (drive : Bool) :
    DueNow (s.stuckChanged false drive) ↔ (decide (s.defr.phase = .idle) &&
      ((decide (s.effN .fDue ≤ s.defr.frost) && decide (s.effN .minGap ≤ (s.counter .gap).count)) ||
        decide (s.effN .maxGap ≤ (s.counter .gap).count))) = true := by
  simp only [DueNow, stuckChanged_heaterStuck, Bool.and_eq_true, Bool.or_eq_true, decide_eq_true_eq, true_and]
  exact Iff.rfl

/-- R132, R133: the tenth round in a row, and the drive that follows. -/
theorem heaterStuckRound_changes {sense stuck drive : Bool} (hd : s.defr.heaterDrive = false)
    (hsense : sense ≠ s.level .heaterStuck) (hn : 9 ≤ s.defr.stuckRun) (hstuck : (!s.level .heaterStuck) = stuck)
    (hdrive :
      ((s.onDefr fun d => { d with openRun := 0, stuckRun := 0 }).setLevel .heaterStuck stuck).heaterWanted = drive) :
    heaterStuckRound sense (s.onDefr fun d => { d with openRun := 0 }) = s.stuckChanged stuck drive := by
  have htenth := heaterStuckRound_of_tenth (s := s.onDefr fun d => { d with openRun := 0 }) hd hsense hn
  rw [htenth, ← hdrive, ← hstuck]
  rfl

/-- R133: the two rows of a round whose level asserts or leaves HEATER_STUCK. -/
theorem onHeaterSenseRound_driven {sense : Bool} {t : State} (hd : s.defr.heaterDrive = true)
    (ht : heaterOpenRound sense s = t) (hl : t.level .heaterStuck = s.level .heaterStuck)
    (hon : t.defr.heaterDrive = s.defr.heaterDrive) :
    onHeaterSenseRound sense s = t.onDefr fun d => { d with stuckRun := 0 } := by
  refine onHeaterSenseRound_of_no_negation ?_ fun h => hl.trans h
  rw [ht]
  exact heaterStuckRound_of_other (.inl (hon.trans hd))

/-- R133: with the drive off HEATER_OPEN's row begins anew. -/
theorem onHeaterSenseRound_undriven {sense : Bool} {t : State} (hd : s.defr.heaterDrive = false)
    (ht : heaterStuckRound sense (s.onDefr fun d => { d with openRun := 0 }) = t)
    (hl : s.level .heaterStuck = true → t.level .heaterStuck = true) : onHeaterSenseRound sense s = t :=
  onHeaterSenseRound_of_no_negation (by rw [heaterOpenRound_of_other (.inl hd), ht]) hl

end

/-- Settles O45: an asserted round, a negated one by the state and the demand, and a HEATER_SENSE round by the drive
and by how many rounds have supported a change. -/
theorem secondFaultRoundStopsTheCompressor : Obligations.SecondFaultRoundStopsTheCompressor := by
  refine ⟨fun s hs hst hn => ?asserted, fun s hs => ⟨onCompFltRound_negated_stays, ?negatedStops, ?negatedRuns⟩,
    fun sense due drive s hdue hdrive => ⟨fun hd => ⟨?openOther, ?openFew, ?openTenth⟩,
      fun hd => ⟨?stuckOther, ?stuckFew, ?stuckSet, ?stuckCleared⟩⟩⟩
  case asserted =>
    have hoff : s.effN .minOff ≠ 0 := hs.lengths.2.1
    obtain ⟨hfault, hlockout⟩ := takeFault_level (s := s.onComp fun c => { c with fltRounds := 2 })
    have hcondrun := takeFault_condrun (s := s.onComp fun c => { c with fltRounds := 2 })
    rw [onCompFltRound_of_second hst hn]
    refine ⟨takeFault_comp _, takeFault_guard hoff, fun hrun => ?_, fun hrest => ?_, hfault, hlockout⟩
    · exact hcondrun.trans (if_pos hrun)
    · exact hcondrun.trans (if_neg (by simp [hrest]))
  case negatedStops =>
    intro hst hg hd
    rw [onCompFltRound_negated_leaves hst hg, leaveFaulted_of_stops (s := s.fltCleared) hd, faultLeft_comp]
    exact ⟨rfl, rfl, rfl, rfl⟩
  case negatedRuns =>
    intro n hst hg hd hrun
    have hon : s.fltCleared.faultLeft.effN .minOn ≠ 0 := hs.lengths.1
    obtain ⟨hcomp, hguard, -⟩ := startComp_starts s.fltCleared.faultLeft n hon
    rw [onCompFltRound_negated_leaves hst hg, leaveFaulted_of_runs (s := s.fltCleared) (hs.congr rfl) hd hrun]
    refine ⟨?_, ?_, ?_⟩
    · rw [hcomp, faultLeft_comp]
      rfl
    · simp [State.faultLeft, State.fltCleared]
    · rw [hguard, faultLeft_counter]
      rfl
  case openOther => exact fun h => onHeaterSenseRound_driven hd (heaterOpenRound_of_other (.inr h)) rfl rfl
  case openFew => exact fun h hn => onHeaterSenseRound_driven hd (heaterOpenRound_of_few hd h hn) rfl rfl
  case openTenth =>
    exact fun h hn => onHeaterSenseRound_driven hd (heaterOpenRound_of_tenth hd h hn)
      (State.level_setLevel_of_ne _ _ _ _ (by decide)) rfl
  case stuckOther =>
    exact fun h => onHeaterSenseRound_undriven hd (heaterStuckRound_of_other (.inr h)) id
  case stuckFew =>
    exact fun h hn => onHeaterSenseRound_undriven hd (heaterStuckRound_of_few hd h hn) id
  case stuckSet =>
    intro hsense hl hn
    have hchanged := heaterStuckRound_changes (sense := sense) (stuck := true) (drive := false) hd
      (by simp [hsense, hl]) hn (by simp [hl]) (by simp [State.heaterWanted])
    exact onHeaterSenseRound_undriven hd hchanged fun _ => stuckChanged_heaterStuck _ _
  case stuckCleared =>
    intro hsense hl hn
    have hwanted : ((s.onDefr fun d => { d with openRun := 0, stuckRun := 0 }).setLevel .heaterStuck false).heaterWanted =
        drive := by
      rw [hdrive, State.heaterWanted, State.level_setLevel_self, Bool.not_false, Bool.and_true, State.setLevel_arb,
        State.onDefr_arb]
      cases s.arb.holder <;> rfl
    have hchanged := heaterStuckRound_changes (sense := sense) hd (by simp [hsense, hl]) hn (by simp [hl]) hwanted
    have hround : onHeaterSenseRound sense s = dueCheck (s.stuckChanged false drive) :=
      onHeaterSenseRound_of_negation (by rw [heaterOpenRound_of_other (.inl hd), hchanged]) hl
        (stuckChanged_heaterStuck _ _)
    have hnow := stuckChanged_dueNow_iff (s := s) drive
    rw [← hdue] at hnow
    rw [hround]
    refine ⟨fun hno => dueCheck_of_not_due _ (by simp [hnow, hno]), fun hyes => ?_⟩
    obtain ⟨hstuck, hphase, hholder⟩ := enterPending_enters (s := s.stuckChanged false drive)
    rw [dueCheck_of_due _ (hnow.mpr hyes)]
    exact ⟨hstuck.trans (stuckChanged_heaterStuck _ _), hphase, hholder⟩

end Sys2Proof.Machine

/-! The PHASE expiry of PRE_CHILL (R123 to R126): the outputs that stop the cold beside a compressor that keeps its
state, STOP_WAIT, and the HEAT that follows at once. -/

namespace Sys2Proof.Machine

section

variable {s t : State}

/-! ### Outputs that stop the cold and leave the compressor's state (R93, R101, R105, R123) -/

/-- R101, R105: a stop is held during the minimum run. -/
theorem giveDemand_stop_of_minOn (hrun : s.comp.state = .running) (hg : s.comp.guard = .minOn) :
    giveDemand .stop s =
      s.onComp fun c => { c with demand := .stop, stopHeld := true, target := s.effN .nMin } := by
  have hresolve : (s.onComp fun c => { c with demand := .stop }).resolve = none := rfl
  have hguard : (s.onComp fun c => { c with demand := .stop }).comp.guard = .minOn := hg
  have hstate : (s.onComp fun c => { c with demand := .stop }).comp.state = .running := hrun
  unfold giveDemand resolveDemand decideStop
  rw [hresolve, hstate, hguard]
  rfl

/-- R93, R123: the dampers and the fan are asked for 0, the compressor's record is `c`, and beside them only the fan's
two counters have moved. -/
structure ColdAsked (c : Compressor) (s t : State) : Prop where
  comp : t.comp = c
  defr : t.defr = s.defr
  own : t.own = s.own
  counter : ∀ i : CounterId, i ≠ .tach → i ≠ .fantime → t.counter i = s.counter i
  outputs : t.air.fan.requested = 0 ∧ (t.damper .fresh).target = 0 ∧ (t.damper .chill).target = 0

/-- R49, R123: the outputs, where the demand to stop changes the compressor's record alone. -/
theorem giveStopOutputs_coldAsked (f : Compressor → Compressor)
    (h : giveDemand .stop (requestFan 0 (giveOpenings 0 0 s)) = (requestFan 0 (giveOpenings 0 0 s)).onComp f) :
    ColdAsked (f s.comp) s (giveStopOutputs s) := by
  obtain ⟨hfresh, hchill⟩ := (giveOpenings_taken s 0 0).congr (u := giveStopOutputs s) (by simp [giveStopOutputs])
  have heq : giveStopOutputs s = (requestFan 0 (giveOpenings 0 0 s)).onComp f := h
  refine ⟨?_, ?_, ?_, fun i ht hf => ?_, ?_, hfresh.target, hchill.target⟩
  · simp [heq]
  · simp [heq]
  · simp [heq]
  · rw [heq, onComp_counter, requestFan_counter _ _ _ ht hf, giveOpenings_counter]
  · rw [heq]
    exact (requestFan_asked _ 0).requested

theorem giveStopOutputs_of_minOn (hrun : s.comp.state = .running) (hg : s.comp.guard = .minOn) :
    ColdAsked { s.comp with demand := .stop, stopHeld := true, target := s.effN .nMin } s (giveStopOutputs s) := by
  have hn : (requestFan 0 (giveOpenings 0 0 s)).effN .nMin = s.effN .nMin := State.effN_congr (by simp) _
  refine giveStopOutputs_coldAsked (fun c => { c with demand := .stop, stopHeld := true, target := s.effN .nMin }) ?_
  rw [giveDemand_stop_of_minOn (by simpa using hrun) (by simpa using hg), hn]

theorem giveStopOutputs_of_not_running (h : s.comp.state ≠ .running) :
    ColdAsked { s.comp with demand := .stop } s (giveStopOutputs s) :=
  giveStopOutputs_coldAsked (fun c => { c with demand := .stop }) (giveDemand_stop_of_not_running _ (by simpa using h))

/-! ### STOP_WAIT and HEAT beside DEFROST (R125, R126, R132) -/

/-- R132: while DEFROST holds, the heater drive follows the phase. -/
theorem setPhase_defr_of_defrost (p : DefrostPhase) (hh : s.arb.holder = .defrost) :
    (setPhase p s).defr =
      { s.defr with
        phase := p
        heaterDrive := decide (p = .heat) && !s.level .heaterStuck && decide (s.defr.compState ≠ .running) } := by
  have hw : (s.onDefr fun d => { d with phase := p }).heaterWanted =
      (decide (p = .heat) && !s.level .heaterStuck && decide (s.defr.compState ≠ .running)) := by
    unfold State.heaterWanted
    rw [State.onDefr_arb, hh]
    rfl
  rw [← hw]
  rfl

/-- R126: the sequencer's record as HEAT is entered. -/
theorem heating_defr (hh : s.arb.holder = .defrost) :
    (setPhase .heat s.heating).defr =
      { s.defr with
        phase := .heat, coilTimed := s.defr.coilLost, termCount := 0
        heatBudget := s.heatBudgetNow s.defr.coilLost
        heaterDrive := !s.level .heaterStuck && decide (s.defr.compState ≠ .running) } := by
  have hlevel : s.heating.level .heaterStuck = s.level .heaterStuck := by simp [State.level, State.heating]
  rw [setPhase_defr_of_defrost _ (by simpa [State.heating] using hh), hlevel]
  simp [State.heating]

theorem heating_counter (i : CounterId) (hi : i ≠ .phase) : (setPhase .heat s.heating).counter i = s.counter i := by
  rw [setPhase_counter, State.heating, State.counter_restartC_of_ne _ _ _ _ hi]
  rfl

theorem heating_own (hs : SettingsLaw s) : (setPhase .heat s.heating).own = s.own := by
  show s.heating.own = s.own
  rw [State.heating, State.restartC_own _ _ _ (heatBudgetNow_ne_zero s hs _)]
  rfl

/-- A phase has been entered with the sequencer's record `d`, the compressor's `c` and PHASE as `k`, the dampers and the
fan asked for 0; nothing but these and the fan's two counters has changed. -/
structure PhaseEntered (d : Defrost) (c : Compressor) (k : Counter) (s t : State) : Prop where
  defr : t.defr = d
  comp : t.comp = c
  phase : t.counter .phase = k
  own : t.own = s.own
  counter : ∀ i : CounterId, i ≠ .phase → i ≠ .tach → i ≠ .fantime → t.counter i = s.counter i
  outputs : t.air.fan.requested = 0 ∧ (t.damper .fresh).target = 0 ∧ (t.damper .chill).target = 0
  beside : t.settings = s.settings ∧ t.zones = s.zones ∧ t.scanner = s.scanner ∧ t.arb = s.arb ∧ t.doors = s.doors ∧
    t.cond = s.cond ∧ t.link = s.link

/-- R123, R125: STOP_WAIT as it is entered while DEFROST holds and the compressor keeps its state. -/
theorem waiting_entered {c : Compressor} (hh : s.arb.holder = .defrost)
    (h : ColdAsked c (setPhase .stopWait s) s.waiting) :
    PhaseEntered { s.defr with phase := .stopWait, heaterDrive := false } c (s.counter .phase) s s.waiting where
  defr := by
    rw [h.defr, setPhase_defr_of_defrost _ hh]
    rfl
  comp := h.comp
  phase := waiting_phase s
  own := h.own.trans (by simp)
  counter i _ ht hf := by rw [h.counter i ht hf, setPhase_counter]
  outputs := h.outputs
  beside := by simp [State.waiting]

/-- R105, R125: beside a compressor in its minimum run STOP_WAIT waits, and the stop is held. -/
theorem enterStopWait_of_minOn (hk : s.defr.compState = s.comp.state) (hh : s.arb.holder = .defrost)
    (hrun : s.comp.state = .running) (hg : s.comp.guard = .minOn) :
    PhaseEntered { s.defr with phase := .stopWait, heaterDrive := false }
      { s.comp with demand := .stop, stopHeld := true, target := s.effN .nMin } (s.counter .phase) s
      (enterStopWait s) := by
  have h := waiting_entered hh (giveStopOutputs_of_minOn (s := setPhase .stopWait s) hrun hg)
  have hwait : s.waiting.compRunning = true := by
    rw [State.compRunning, h.defr]
    exact decide_eq_true (hk.trans hrun)
  rw [enterStopWait_of_running s hwait]
  exact h

/-- R125, R126: beside a compressor that is not RUNNING STOP_WAIT ends at its entry, and HEAT has its budget. -/
theorem enterStopWait_of_not_running (hs : SettingsLaw s) (hk : s.defr.compState = s.comp.state)
    (hres : s.defr.resumeHeat = false) (hh : s.arb.holder = .defrost) (hn : s.comp.state ≠ .running) :
    PhaseEntered
      { s.defr with
        phase := .heat, coilTimed := s.defr.coilLost, termCount := 0, heaterDrive := !s.level .heaterStuck
        heatBudget := s.heatBudgetNow s.defr.coilLost }
      { s.comp with demand := .stop } ((s.counter .phase).timing (s.heatBudgetNow s.defr.coilLost)) s
      (enterStopWait s) := by
  have h := waiting_entered hh (giveStopOutputs_of_not_running (s := setPhase .stopWait s) hn)
  have hcomp : s.defr.compState ≠ .running := hk ▸ hn
  have hstop : s.waiting.compRunning = false := by
    rw [State.compRunning, h.defr]
    exact decide_eq_false hcomp
  obtain ⟨hset, hz, hsc, harb, hdo, hco, hl⟩ := h.beside
  obtain ⟨-, -, -, htiming⟩ := waiting_heat s hs _ rfl
  have hbudget : ∀ b, s.waiting.heatBudgetNow b = s.heatBudgetNow b := fun b => by
    simp only [State.heatBudgetNow, State.effN_congr hset]
  have hsame : ∀ u : State, (setPhase .heat u.heating).comp = u.comp ∧ (setPhase .heat u.heating).air = u.air ∧
      (setPhase .heat u.heating).settings = u.settings ∧ (setPhase .heat u.heating).zones = u.zones ∧
      (setPhase .heat u.heating).scanner = u.scanner ∧ (setPhase .heat u.heating).arb = u.arb ∧
      (setPhase .heat u.heating).doors = u.doors ∧ (setPhase .heat u.heating).cond = u.cond ∧
      (setPhase .heat u.heating).link = u.link := fun u => by simp [State.heating]
  obtain ⟨hcomp', hair, hset', hz', hsc', harb', hdo', hco', hl'⟩ := hsame s.waiting
  rw [enterStopWait_of_stopped s hk hres hstop]
  exact {
    defr := by
      rw [heating_defr (harb ▸ hh), h.defr, State.level, hco, hbudget]
      simp [hcomp, State.level]
    comp := hcomp'.trans h.comp
    phase := htiming
    own := (heating_own (hs.congr hset)).trans h.own
    counter := fun i hi ht hf => (heating_counter i hi).trans (h.counter i hi ht hf)
    outputs := by
      simp only [State.damper, hair]
      exact h.outputs
    beside := ⟨hset'.trans hset, hz'.trans hz, hsc'.trans hsc, harb'.trans harb, hdo'.trans hdo, hco'.trans hco,
      hl'.trans hl⟩ }

/-! ### The expiry (R124, R155) -/

theorem exec_prechillExpiry (hp : s.defr.phase = .preChill) (hr : (s.counter .phase).run = true) :
    exec .prechillExpiry s = .next (finish (enterStopWait s.phaseExpired)) := by
  have hx : s.phaseExpired.defr.phase = .preChill := hp
  show Host.Outcome.next (finish (phaseExpires .preChill onPhaseExpiry s)) = _
  rw [phaseExpires_of_run s _ hp hr, onPhaseExpiry, hx]

theorem phaseExpired_counter (i : CounterId) (hi : i ≠ .phase) : s.phaseExpired.counter i = s.counter i :=
  State.counter_setCounter_of_ne _ _ _ _ hi

/-- R124: what STOP_WAIT leaves is what the expiry leaves. -/
theorem prechillExpiry_enters {d : Defrost} {c : Compressor} {k : Counter} (hst : Settled s)
    (hp : s.defr.phase = .preChill) (hr : (s.counter .phase).run = true)
    (h : PhaseEntered d c k s.phaseExpired (enterStopWait s.phaseExpired)) :
    ∃ t, exec .prechillExpiry s = .next (startNote t) ∧ t.defr = d ∧ t.comp = c ∧ t.counter .phase = k ∧
      t.air.fan.requested = 0 ∧ (t.damper .fresh).target = 0 ∧ (t.damper .chill).target = 0 ∧
      (∀ i, i ≠ .phase → i ≠ .tach → i ≠ .fantime → t.counter i = s.counter i) ∧
      t.settings = s.settings ∧ t.zones = s.zones ∧ t.scanner = s.scanner ∧ t.arb = s.arb ∧ t.doors = s.doors ∧
      t.cond = s.cond ∧ t.link = s.link := by
  obtain ⟨hfan, hfresh, hchill⟩ := h.outputs
  obtain ⟨hset, hz, hsc, harb, hdo, hco, hl⟩ := h.beside
  refine ⟨_, ?_, h.defr, h.comp, h.phase, hfan, hfresh, hchill, fun i hi ht hf => ?_, hset, hz, hsc, harb, hdo, hco, hl⟩
  · rw [exec_prechillExpiry hp hr, finish_of_settled _ (hst.of_eq hl (congrArg Own.signalled h.own))]
  · rw [h.counter i hi ht hf, phaseExpired_counter i hi]

end

/-- Settles O47: the compressor in its minimum run, and the compressor not RUNNING. -/
theorem prechillExpiryLeadsToHeat : Obligations.PrechillExpiryLeadsToHeat := by
  intro s hst hs hheat hp hr _ hres hh
  obtain ⟨hk, -⟩ := hheat
  refine ⟨fun hrun hg => ?_, fun hn => ?_⟩
  · exact prechillExpiry_enters hst hp hr (enterStopWait_of_minOn (s := s.phaseExpired) hk hh hrun hg)
  · exact prechillExpiry_enters hst hp hr (enterStopWait_of_not_running (s := s.phaseExpired) hs hk hres hh hn)

end Sys2Proof.Machine

/-! The ends of HEAT by the PHASE expiry and by COIL samples, the adaptation of F_DUE, and DRIP (R126 to R130). -/

namespace Sys2Proof.Machine

section

variable {s t : State} {how : HeatEnd}

/-! ### DRIP (R130) -/

theorem enterDrip_of_holding (hu : s.defr.suspended = false) : enterDrip s = giveStopOutputs s.dripping := by
  have hn : ¬ (setPhase .drip s).defr.suspended = true := by
    show ¬ s.defr.suspended = true
    simp [hu]
  exact if_neg hn

theorem enterDrip_of_suspended (hu : s.defr.suspended = true) :
    enterDrip s = ((setPhase .drip s).stopC .phase).writeC .phase (s.effN .dripTime) := by
  have hset : ((setPhase .drip s).effN .dripTime) = s.effN .dripTime := State.effN_congr (by simp) _
  rw [← hset]
  exact if_pos hu

/-- R123, R130: DRIP while DEFROST holds, beside a compressor that is not RUNNING. -/
theorem enterDrip_entered (hs : SettingsLaw s) (hu : s.defr.suspended = false) (hh : s.arb.holder = .defrost)
    (hn : s.comp.state ≠ .running) :
    PhaseEntered { s.defr with phase := .drip, heaterDrive := false } { s.comp with demand := .stop }
      ((s.counter .phase).timing (s.effN .dripTime)) s (enterDrip s) := by
  have hcomp : s.dripping.comp = s.comp := by simp [State.dripping]
  have h := giveStopOutputs_of_not_running (s := s.dripping) (by rwa [hcomp])
  rw [enterDrip_of_holding hu]
  exact {
    defr := by
      have hd : s.dripping.defr = (setPhase .drip s).defr := by simp [State.dripping]
      rw [h.defr, hd, setPhase_defr_of_defrost _ hh]
      rfl
    comp := by rw [h.comp, hcomp]
    phase := (h.counter .phase nofun nofun).trans (dripping_phase s hs)
    own := h.own.trans (dripping_own s hs)
    counter := fun i hi ht hf => (h.counter i ht hf).trans (dripping_counter s i hi)
    outputs := h.outputs
    beside := by simp [State.dripping] }

/-- R130: PHASE has the length of DRIP, and runs unless the sequencer is suspended. -/
theorem enterDrip_phase (hs : SettingsLaw s) :
    ((enterDrip s).counter .phase).count = s.effN .dripTime ∧
      ((enterDrip s).counter .phase).run = !s.defr.suspended := by
  cases hu : s.defr.suspended with
  | true =>
    rw [enterDrip_of_suspended hu, State.counter_writeC_self, State.counter_stopC_self]
    simp [Counter.write]
  | false =>
    rw [enterDrip_of_holding hu, giveStopOutputs_counter _ _ (.inl rfl), dripping_phase s hs]
    exact ⟨rfl, rfl⟩

theorem enterDrip_runsec : (enterDrip s).counter .runsec = s.counter .runsec := by
  cases hu : s.defr.suspended with
  | true =>
    rw [enterDrip_of_suspended hu, State.counter_writeC_of_ne _ .phase .runsec _ nofun,
      State.counter_stopC_of_ne _ .phase .runsec nofun, setPhase_counter]
  | false =>
    rw [enterDrip_of_holding hu, giveStopOutputs_counter _ _ (.inl rfl), dripping_counter s .runsec nofun]

/-- R130, R132: of the sequencer's record DRIP changes the phase, and what follows the compressor. -/
theorem enterDrip_defr :
    ∃ st on, (enterDrip s).defr = { s.defr with phase := .drip, compState := st, heaterDrive := on } := by
  cases hu : s.defr.suspended with
  | true =>
    rw [enterDrip_of_suspended hu]
    exact ⟨s.defr.compState, _, by simp [setPhase]; rfl⟩
  | false =>
    obtain ⟨st, on, hd⟩ := giveStopOutputs_sequencer s.dripping
    rw [enterDrip_of_holding hu]
    exact ⟨st, on, by rw [hd]; simp [State.dripping, setPhase]⟩

/-! ### The adaptation of F_DUE (R129) -/

/-- R129: with ADAPT 1 the effective F_DUE is the adapted one. -/
theorem adaptDue_fDue (how : HeatEnd) (s : State) :
    (adaptDue how s).eff .fDue =
      if s.eff .adapt = 1 then
        adaptedDue how s.defr.coilTimed (s.level .heaterOpen) s.defr.lastHeat (s.eff .fDue)
      else s.eff .fDue := by
  have hwritten : ∀ w, ({ s with settings := s.settings.write .fDue (some w) } : State).eff .fDue = w := fun w => by
    simp [State.eff, Settings.eff_write]
  unfold adaptDue
  by_cases ha : s.eff .adapt = 1
  · by_cases hw : adaptedDue how s.defr.coilTimed (s.level .heaterOpen) s.defr.lastHeat (s.eff .fDue) = s.eff .fDue
    · simp [ha, hw]
    · simpa [ha, hw] using hwritten _
  · simp [ha]

theorem adaptDue_eff_of_ne (how : HeatEnd) (s : State) (i : Item) (hi : i ≠ .fDue) :
    (adaptDue how s).eff i = s.eff i := by
  unfold adaptDue
  dsimp only
  split
  · exact Settings.eff_write_of_ne _ _ hi
  · rfl

/-- R129: the timed end of a COIL loss adapts nothing. -/
theorem adaptDue_timedEnd (s : State) : adaptDue .timedEnd s = s := by simp [adaptDue, adaptedDue]

/-! ### An end of HEAT (R128) -/

/-- R128: HEAT has ended, other than by an abort, and F_DUE is not adapted yet. -/
def State.heatEnded (s : State) : State :=
  ((s.stopC .phase).onDefr fun d =>
    { d with lastHeat := s.heatElapsed / 60, termCount := 0, resumeHeat := false, frost := 0 }).clearC .runsec

theorem endHeat_eq (ha : how ≠ .abort) : endHeat how s = enterDrip (adaptDue how s.heatEnded) := by
  cases how with
  | abort => exact absurd rfl ha
  | termination => rfl
  | timeout => rfl
  | timedEnd => rfl

theorem heatEnded_keeps (s : State) :
    s.heatEnded.settings = s.settings ∧ s.heatEnded.zones = s.zones ∧ s.heatEnded.scanner = s.scanner ∧
      s.heatEnded.arb = s.arb ∧ s.heatEnded.doors = s.doors ∧ s.heatEnded.cond = s.cond ∧ s.heatEnded.link = s.link ∧
      s.heatEnded.own = s.own := by
  simp [State.heatEnded]

theorem heatEnded_runsec (s : State) : s.heatEnded.counter .runsec = (s.counter .runsec).clear := by
  show (State.onCounter .runsec Counter.clear _).counter .runsec = _
  rw [State.counter_onCounter_self]
  exact congrArg Counter.clear (State.counter_stopC_of_ne s .phase .runsec nofun)

theorem heatEnded_counter (i : CounterId) (hp : i ≠ .phase) (hr : i ≠ .runsec) :
    s.heatEnded.counter i = s.counter i :=
  (State.counter_clearC_of_ne _ _ _ hr).trans (State.counter_stopC_of_ne s _ _ hp)

theorem heatEnded_phase (s : State) : s.heatEnded.counter .phase = (s.counter .phase).stop :=
  (State.counter_clearC_of_ne _ .runsec .phase nofun).trans (State.counter_stopC_self s .phase)

/-- R128, R129, R130: DRIP after an end of HEAT beside a compressor that is not RUNNING; F_DUE is the adapted one. -/
theorem endHeat_entered (ha : how ≠ .abort) (hs : SettingsLaw s) (hu : s.defr.suspended = false)
    (hh : s.arb.holder = .defrost) (hn : s.comp.state ≠ .running) :
    PhaseEntered
      { s.defr with
        phase := .drip, frost := 0, resumeHeat := false, termCount := 0, lastHeat := s.heatElapsed / 60
        heaterDrive := false }
      { s.comp with demand := .stop } ((s.counter .phase).timing (s.effN .dripTime)) (adaptDue how s.heatEnded)
      (endHeat how s) := by
  set x := adaptDue how s.heatEnded with hx
  have hdefr : x.defr = s.heatEnded.defr := by simp [hx]
  have hcomp : x.comp = s.comp := by simp [hx, State.heatEnded]
  have harb : x.arb = s.arb := by simp [hx, State.heatEnded]
  have hbank : x.bank = s.heatEnded.bank := by simp [hx]
  have hphase : x.counter .phase = (s.counter .phase).stop := by
    rw [← heatEnded_phase, State.counter, hbank, State.counter]
  have hdrip : x.effN .dripTime = s.effN .dripTime :=
    congrArg Int.toNat (adaptDue_eff_of_ne how s.heatEnded .dripTime nofun)
  have hset : SettingsLaw x := (adaptDue_storeLaws s.heatEnded how).settings hs
  have h := enterDrip_entered hset (by rw [hdefr]; exact hu) (by rw [harb]; exact hh) (by rw [hcomp]; exact hn)
  rw [hdefr, hcomp, hphase, hdrip, Counter.timing_stop] at h
  rw [endHeat_eq ha]
  exact h

/-- R128, R129, R130: what an end of HEAT other than an abort leaves of `s`, with DRIP entered at once. -/
structure HeatLeft (how : HeatEnd) (s t : State) : Prop where
  defr : t.defr =
    { s.defr with
      phase := .drip, frost := 0, resumeHeat := false, termCount := 0, lastHeat := s.heatElapsed / 60
      heaterDrive := false }
  comp : t.comp = { s.comp with demand := .stop }
  phase : t.counter .phase = (s.counter .phase).timing (s.effN .dripTime)
  runsec : t.counter .runsec = (s.counter .runsec).clear
  counter : ∀ i : CounterId, i ≠ .phase → i ≠ .runsec → i ≠ .tach → i ≠ .fantime → t.counter i = s.counter i
  outputs : t.air.fan.requested = 0 ∧ (t.damper .fresh).target = 0 ∧ (t.damper .chill).target = 0
  beside : t.zones = s.zones ∧ t.scanner = s.scanner ∧ t.arb = s.arb ∧ t.doors = s.doors ∧ t.link = s.link
  cond : t.cond = s.cond
  own : t.own = s.own
  due : t.eff .fDue =
    if s.eff .adapt = 1 then
      adaptedDue how s.defr.coilTimed (s.level .heaterOpen) (s.heatElapsed / 60) (s.eff .fDue)
    else s.eff .fDue
  items : ∀ i : Item, i ≠ .fDue → t.eff i = s.eff i
  settings : how = .timedEnd → t.settings = s.settings

theorem endHeat_left (ha : how ≠ .abort) (hs : SettingsLaw s) (hu : s.defr.suspended = false)
    (hh : s.arb.holder = .defrost) (hn : s.comp.state ≠ .running) : HeatLeft how s (endHeat how s) := by
  have h := endHeat_entered ha hs hu hh hn
  obtain ⟨kset, kz, ksc, karb, kdo, kco, kl, ko⟩ := heatEnded_keeps s
  obtain ⟨hset, hz, hsc, harb, hdo, hco, hl⟩ := h.beside
  have hbank : (adaptDue how s.heatEnded).bank = s.heatEnded.bank := by simp
  have hcount : ∀ i, (adaptDue how s.heatEnded).counter i = s.heatEnded.counter i := fun i => by
    rw [State.counter, hbank, State.counter]
  have hitem : ∀ i, s.heatEnded.eff i = s.eff i := fun i => congrArg (Settings.eff · i) kset
  have heff : ∀ i, (endHeat how s).eff i = (adaptDue how s.heatEnded).eff i := fun i =>
    congrArg (Settings.eff · i) hset
  exact {
    defr := h.defr
    comp := h.comp
    phase := h.phase
    runsec := (h.counter .runsec nofun nofun nofun).trans ((hcount _).trans (heatEnded_runsec s))
    counter := fun i hi hr ht hf => (h.counter i hi ht hf).trans ((hcount i).trans (heatEnded_counter i hi hr))
    outputs := h.outputs
    beside := ⟨hz.trans (by simp [kz]), hsc.trans (by simp [ksc]), harb.trans (by simp [karb]),
      hdo.trans (by simp [kdo]), hl.trans (by simp [kl])⟩
    cond := hco.trans (by simp [kco])
    own := h.own.trans (by simp [ko])
    due := by
      have hopen : s.heatEnded.level .heaterOpen = s.level .heaterOpen := congrArg (Conditions.level · .heaterOpen) kco
      have hlast : s.heatEnded.defr.lastHeat = s.heatElapsed / 60 ∧ s.heatEnded.defr.coilTimed = s.defr.coilTimed := by
        simp [State.heatEnded]
      rw [heff, adaptDue_fDue, hitem, hitem, hopen, hlast.1, hlast.2]
    items := fun i hi => (heff i).trans ((adaptDue_eff_of_ne how s.heatEnded i hi).trans (hitem i))
    settings := fun htimed => by rw [hset, htimed, adaptDue_timedEnd, kset] }

/-! ### The PHASE expiry of HEAT (R127) -/

theorem heatTimedOut_of_timeout (h : s.defr.coilTimed = false ∨ s.level .heaterOpen = true) :
    heatTimedOut s = endHeat .timeout (s.raise .defrostTimeout) := by
  unfold heatTimedOut
  rcases h with h | h <;> simp [h]

theorem heatTimedOut_of_timedEnd (ht : s.defr.coilTimed = true) (ho : s.level .heaterOpen = false) :
    heatTimedOut s = endHeat .timedEnd s := by
  simp [heatTimedOut, ht, ho]

/-- R127: HEAT ends with PHASE expired; `c` is the Condition Unit as the end finds it. -/
def State.heatExpired (c : Conditions) (s : State) : State := { s.phaseExpired with cond := c }

theorem exec_heatTimeout (hp : s.defr.phase = .heat) (hr : (s.counter .phase).run = true) :
    exec .heatTimeout s = .next (finish (heatTimedOut s.phaseExpired)) := by
  have hx : s.phaseExpired.defr.phase = .heat := hp
  show Host.Outcome.next (finish (phaseExpires .heat onPhaseExpiry s)) = _
  rw [phaseExpires_of_run s _ hp hr, onPhaseExpiry, hx]

/-- R127 to R130: what both ends of HEAT by the expiry leave. -/
theorem heatTimeout_drips {c : Conditions} (ha : how ≠ .abort)
    (hend : heatTimedOut s.phaseExpired = endHeat how (s.heatExpired c)) (hst : Settled s) (hs : SettingsLaw s)
    (hp : s.defr.phase = .heat) (hr : (s.counter .phase).run = true) (hu : s.defr.suspended = false)
    (hh : s.arb.holder = .defrost) (hn : s.comp.state ≠ .running) :
    ∃ t, exec .heatTimeout s = .next (startNote t) ∧
      t.defr =
        { s.defr with
          phase := .drip, frost := 0, resumeHeat := false, termCount := 0, lastHeat := s.defr.heatBudget / 60
          heaterDrive := false } ∧
      t.counter .phase = (s.counter .phase).timing (s.effN .dripTime) ∧ (t.counter .runsec).count = 0 ∧
      (t.counter .runsec).run = (s.counter .runsec).run ∧
      (∀ i, i ≠ .phase → i ≠ .runsec → i ≠ .tach → i ≠ .fantime → t.counter i = s.counter i) ∧
      (t.cond = c ∧ (how = .timedEnd → t.settings = s.settings) ∧ (∀ i, i ≠ .fDue → t.eff i = s.eff i) ∧
        t.eff .fDue =
          if s.eff .adapt = 1 then
            adaptedDue how s.defr.coilTimed (c.level .heaterOpen) (s.defr.heatBudget / 60) (s.eff .fDue)
          else s.eff .fDue) ∧
      t.comp = { s.comp with demand := .stop } ∧
      t.air.fan.requested = 0 ∧ (t.damper .fresh).target = 0 ∧ (t.damper .chill).target = 0 ∧
      t.zones = s.zones ∧ t.scanner = s.scanner ∧ t.arb = s.arb ∧ t.doors = s.doors ∧ t.link = s.link := by
  have h : HeatLeft how (s.heatExpired c) (endHeat how (s.heatExpired c)) :=
    endHeat_left ha (s := s.heatExpired c) hs hu hh hn
  have helapsed : (s.heatExpired c).heatElapsed = s.defr.heatBudget := by
    simp [State.heatElapsed, State.heatExpired, State.phaseExpired, State.counter]
  have hcount : ∀ i, i ≠ .phase → (s.heatExpired c).counter i = s.counter i := fun i hi => phaseExpired_counter i hi
  have hrunsec := h.runsec.trans (congrArg Counter.clear (hcount .runsec nofun))
  have hdefr := h.defr
  have hdue := h.due
  rw [helapsed] at hdefr hdue
  obtain ⟨hz, hsc, harb, hdo, hl⟩ := h.beside
  obtain ⟨hfan, hfresh, hchill⟩ := h.outputs
  refine ⟨_, ?_, hdefr, h.phase, by rw [hrunsec]; rfl, by rw [hrunsec]; rfl,
    fun i hi hr ht hf => (h.counter i hi hr ht hf).trans (hcount i hi), ⟨h.cond, h.settings, h.items, hdue⟩, h.comp, hfan,
    hfresh, hchill, hz, hsc, harb, hdo, hl⟩
  rw [exec_heatTimeout hp hr, hend, finish_of_settled _ (hst.of_eq hl (congrArg Own.signalled h.own))]

/-! ### COIL samples in HEAT (R126, R127, R135) -/

variable {state : ChanState} {tf : Option Int}

/-- R43, R126: a COIL sample event tells the sequencer whether COIL is LOST. -/
def State.coilTold (lost : Bool) (s : State) : State := s.onDefr fun d => { d with coilLost := lost }

theorem onCoilSample_of_heat (hp : s.defr.phase = .heat) :
    onCoilSample state tf s = coilInHeat state tf (s.coilTold (decide (state = .lost))) := by
  have hp' : (s.onDefr fun d => { d with coilLost := decide (state = .lost) }).defr.phase = .heat := hp
  unfold onCoilSample
  dsimp only
  rw [hp']
  rfl

/-- R126: the sample counts towards the termination of HEAT. -/
def State.atTermination (tf : Option Int) (s : State) : Prop :=
  s.arb.holder = .defrost ∧ s.defr.suspended = false ∧ s.level .heaterOpen = false ∧
    ∃ v, tf = some v ∧ s.eff .termTemp ≤ v

/-- R126: one more sample at TERM_TEMP. -/
def State.termCounted (s : State) : State := s.onDefr fun d => { d with termCount := d.termCount + 1 }

theorem coilInHeat_of_atTermination (hl : state ≠ .lost) (h : s.atTermination tf) :
    coilInHeat state tf s =
      if 3 ≤ s.termCounted.defr.termCount then endHeat .termination s.termCounted else s.termCounted := by
  obtain ⟨hh, hu, ho, v, rfl, hv⟩ := h
  cases state with
  | lost => exact absurd rfl hl
  | valid => simp [coilInHeat, State.defrostHolding, hh, hu, ho, hv, State.termCounted]
  | suspect => simp [coilInHeat, State.defrostHolding, hh, hu, ho, hv, State.termCounted]

/-- R126, R135, log 15: a sample that does not count, and one that is not compared. -/
theorem coilInHeat_of_not_atTermination (hl : state ≠ .lost) (h : ¬ s.atTermination tf) :
    coilInHeat state tf s = s.onDefr fun d => { d with termCount := 0 } := by
  have hmiss : ∀ v, tf = some v →
      (s.defrostHolding && !s.level .heaterOpen && decide (s.eff .termTemp ≤ v)) = false := fun v hv => by
    refine Bool.eq_false_of_not_eq_true fun hit => h ?_
    simp only [State.defrostHolding, Bool.and_eq_true, Bool.not_eq_true', decide_eq_true_eq] at hit
    obtain ⟨⟨⟨hh, hu⟩, ho⟩, hle⟩ := hit
    exact ⟨hh, hu, ho, v, hv, hle⟩
  cases state with
  | lost => exact absurd rfl hl
  | valid | suspect =>
    cases tf with
    | none => simp [coilInHeat]
    | some v => exact if_neg (by simp [hmiss v rfl])

/-! #### COIL LOST (R127) -/

theorem coilLossInHeat_of_timed (h : s.defr.coilTimed = true) : coilLossInHeat s = s := if_pos h

/-- R127: HEAT is timed as with COIL lost from here on. -/
def State.coilTiming (s : State) : State := s.onDefr fun d => { d with coilTimed := true }

theorem coilLossInHeat_of_short (h : s.defr.coilTimed = false) (hb : s.defr.heatBudget ≤ 1500) :
    coilLossInHeat s = s.coilTiming := by
  simp [coilLossInHeat, State.coilTiming, h, hb]

/-- R127: what is left of 1500 s is left of HEAT. -/
theorem coilLossInHeat_of_early (h : s.defr.coilTimed = false) (hb : 1500 < s.defr.heatBudget)
    (he : s.heatElapsed < 1500) (hstop : s.defr.suspended = true → (s.counter .phase).run = false) :
    coilLossInHeat s =
      (s.coilTiming.onDefr fun d => { d with heatBudget := 1500 }).setCounter .phase
        (if s.defr.suspended then
          { s.counter .phase with count := 1500 - s.heatElapsed, reload := 1500 - s.heatElapsed }
        else (s.counter .phase).timing (1500 - s.heatElapsed)) := by
  set u := s.coilTiming.onDefr fun d => { d with heatBudget := 1500 } with hu
  have hb' : ¬ s.defr.heatBudget ≤ 1500 := by omega
  have htimed : ¬ s.defr.coilTimed = true := by simp [h]
  have hloss : coilLossInHeat s =
      if s.defr.suspended then u.writeC .phase (1500 - s.heatElapsed)
      else u.restartC .phase (1500 - s.heatElapsed) :=
    (if_neg htimed).trans ((if_neg hb').trans (if_pos he))
  have hcount : u.counter .phase = s.counter .phase := rfl
  rw [hloss]
  cases hsus : s.defr.suspended with
  | true =>
    simp [State.writeC, State.onCounter, Counter.write, hcount, hstop hsus]
  | false =>
    simp [State.restartC_eq u .phase (1500 - s.heatElapsed) (by omega) (by decide), hcount]

theorem coilLossInHeat_of_late (h : s.defr.coilTimed = false) (hb : 1500 < s.defr.heatBudget)
    (he : 1500 ≤ s.heatElapsed) : coilLossInHeat s = endHeat .timedEnd s.coilTiming := by
  have hb' : ¬ s.defr.heatBudget ≤ 1500 := by omega
  have he' : ¬ s.heatElapsed < 1500 := by omega
  simp [coilLossInHeat, State.coilTiming, h, hb', he']

/-- R127 to R130: a timed end of HEAT whatever the compressor does, under a suspension too. -/
theorem endHeat_timedEnd (hs : SettingsLaw s) :
    ∃ st on, (endHeat .timedEnd s).defr =
        { s.defr with
          phase := .drip, frost := 0, resumeHeat := false, termCount := 0, lastHeat := s.heatElapsed / 60
          compState := st, heaterDrive := on } ∧
      ((endHeat .timedEnd s).counter .phase).count = s.effN .dripTime ∧
      ((endHeat .timedEnd s).counter .phase).run = !s.defr.suspended ∧
      ((endHeat .timedEnd s).counter .runsec).count = 0 ∧ (endHeat .timedEnd s).cond = s.cond ∧
      (endHeat .timedEnd s).settings = s.settings := by
  have hend : endHeat .timedEnd s = enterDrip s.heatEnded := by
    rw [endHeat_eq (how := .timedEnd) nofun, adaptDue_timedEnd]
  obtain ⟨st, on, hd⟩ := enterDrip_defr (s := s.heatEnded)
  obtain ⟨hcount, hrun⟩ := enterDrip_phase (s := s.heatEnded) hs
  rw [hend]
  refine ⟨st, on, hd, hcount, hrun, ?_, by simp [State.heatEnded], by simp [State.heatEnded]⟩
  rw [enterDrip_runsec, heatEnded_runsec]
  rfl

end

/-! ### The obligation -/

section

variable {s : State} {state : ChanState} {tf : Option Int}

theorem onCoilSample_of_atTermination (hp : s.defr.phase = .heat) (hl : state ≠ .lost) (ht : s.atTermination tf) :
    onCoilSample state tf s =
      if 3 ≤ s.defr.termCount + 1 then endHeat .termination (s.coilTold false).termCounted
      else (s.coilTold false).termCounted := by
  rw [onCoilSample_of_heat hp, decide_eq_false hl]
  exact coilInHeat_of_atTermination (s := s.coilTold false) hl ht

theorem onCoilSample_of_not_atTermination (hp : s.defr.phase = .heat) (hl : state ≠ .lost)
    (ht : ¬ s.atTermination tf) :
    onCoilSample state tf s = { s with defr := { s.defr with coilLost := false, termCount := 0 } } := by
  rw [onCoilSample_of_heat hp, decide_eq_false hl]
  exact coilInHeat_of_not_atTermination (s := s.coilTold false) hl ht

/-- R126, R127: the state in which the loss of COIL is acted on. -/
def State.coilGone (s : State) : State := (s.coilTold true).onDefr fun d => { d with termCount := 0 }

theorem onCoilSample_of_lost (hp : s.defr.phase = .heat) :
    onCoilSample .lost tf s = coilLossInHeat s.coilGone := onCoilSample_of_heat hp

/-- R127: COIL timing is known already, or makes no shorter limit than the budget. -/
theorem onCoilSample_lost_noted (hp : s.defr.phase = .heat) (h : s.defr.coilTimed = true ∨ s.defr.heatBudget ≤ 1500) :
    onCoilSample .lost tf s =
      { s with defr := { s.defr with coilLost := true, termCount := 0, coilTimed := true } } := by
  rw [onCoilSample_of_lost hp]
  cases ht : s.defr.coilTimed with
  | true =>
    have hsame : s.coilGone.coilTiming = s.coilGone := by
      simp [State.coilTiming, State.coilGone, State.coilTold, State.onDefr, ht]
    rw [coilLossInHeat_of_timed (s := s.coilGone) ht, ← hsame]
    rfl
  | false =>
    rw [coilLossInHeat_of_short (s := s.coilGone) ht (h.resolve_left (by simp [ht]))]
    rfl

/-- R126, R128, R129: the third sample at TERM_TEMP, with F_DUE adapted by the minutes of HEAT. -/
theorem onCoilSample_terminates (hs : SettingsLaw s) (hp : s.defr.phase = .heat) (hl : state ≠ .lost)
    (ht : s.atTermination tf) (hthird : 2 ≤ s.defr.termCount) (hn : s.comp.state ≠ .running) :
    HeatLeft .termination (s.coilTold false).termCounted (onCoilSample state tf s) ∧
      (onCoilSample state tf s).eff .fDue =
        (if s.eff .adapt ≠ 1 ∨ s.defr.coilTimed = true then s.eff .fDue
          else if s.heatElapsed / 60 < 15 then min 1440 (s.eff .fDue + 60)
          else if 30 < s.heatElapsed / 60 then max 240 (s.eff .fDue - 60)
          else s.eff .fDue) := by
  rw [onCoilSample_of_atTermination hp hl ht, if_pos (by omega)]
  obtain ⟨hh, hu, -⟩ := ht
  have h : HeatLeft .termination (s.coilTold false).termCounted _ := endHeat_left nofun hs hu hh hn
  have hdue : (endHeat .termination (s.coilTold false).termCounted).eff .fDue =
      if s.eff .adapt = 1 then
        adaptedDue .termination s.defr.coilTimed (s.level .heaterOpen) (s.heatElapsed / 60) (s.eff .fDue)
      else s.eff .fDue := h.due
  refine ⟨h, ?_⟩
  rw [hdue]
  by_cases ha : s.eff .adapt = 1 <;> simp [ha, adaptedDue]

end

/-- Settles O48: the expiry as a timeout and as a timed end, and COIL samples that count, that do not, and LOST. -/
theorem heatTimeoutEntersDrip : Obligations.HeatTimeoutEntersDrip := by
  refine ⟨fun s hst hs _ hp hr hu hh hn => ?expiry, fun state tf elapsed s hs hp he => ⟨fun v hl htf hv hh hu ho => ?hit,
    fun hl hmiss => ?miss, fun hl => ?lost⟩⟩
  case expiry =>
    by_cases htimeout : s.defr.coilTimed = false ∨ s.level .heaterOpen = true
    · obtain ⟨t, hexec, hdefr, hphase, hzero, hrun, hcount, ⟨hcond, -, heff, hdue⟩, hrest⟩ :=
        heatTimeout_drips (how := .timeout) (c := s.cond.mark .defrostTimeout) nofun
          (heatTimedOut_of_timeout (s := s.phaseExpired) htimeout) hst hs hp hr hu hh hn
      refine ⟨t, hexec, hdefr, hphase, hzero, hrun, hcount, fun _ => ⟨hcond, ?_⟩, fun ht ho => ?_, heff, hrest⟩
      · have hopen : (s.cond.mark .defrostTimeout).level .heaterOpen = s.level .heaterOpen := rfl
        rw [hdue, hopen]
        cases s.level .heaterOpen <;> simp [adaptedDue]
      · simp [ht, ho] at htimeout
    · obtain ⟨ht, ho⟩ : s.defr.coilTimed = true ∧ s.level .heaterOpen = false := by simpa using htimeout
      obtain ⟨t, hexec, hdefr, hphase, hzero, hrun, hcount, ⟨hcond, hset, heff, -⟩, hrest⟩ :=
        heatTimeout_drips (how := .timedEnd) (c := s.cond) nofun
          (heatTimedOut_of_timedEnd (s := s.phaseExpired) ht ho) hst hs hp hr hu hh hn
      exact ⟨t, hexec, hdefr, hphase, hzero, hrun, hcount, fun h => absurd h htimeout, fun _ _ => ⟨hcond, hset rfl⟩, heff,
        hrest⟩
  case hit =>
    have hterm : s.atTermination tf := ⟨hh, hu, ho, v, htf, hv⟩
    refine ⟨fun hfew => ?_, fun hthird hn => ?_⟩
    · rw [onCoilSample_of_atTermination hp hl hterm, if_neg (by omega)]
      rfl
    · obtain ⟨h, hdue⟩ := onCoilSample_terminates hs hp hl hterm hthird hn
      obtain ⟨-, -, harb, -, -⟩ := h.beside
      subst he
      exact ⟨h.defr, h.phase, by rw [h.runsec]; rfl, by rw [h.comp], h.outputs.1, harb, h.cond, hdue, h.items⟩
  case miss =>
    refine onCoilSample_of_not_atTermination hp hl fun ⟨hh, hu, ho, v, htf, hv⟩ => ?_
    rcases hmiss with h | h | h | h
    · exact absurd (h v htf) (by omega)
    · exact h hh
    · simp [hu] at h
    · simp [ho] at h
  case lost =>
    subst hl
    refine ⟨onCoilSample_lost_noted hp, fun ht hb hearly hstop => ?_, fun ht hb hlate => ?_⟩
    · have helapsed : s.coilGone.heatElapsed = elapsed := he.symm
      rw [onCoilSample_of_lost hp, coilLossInHeat_of_early (s := s.coilGone) ht hb (helapsed ▸ hearly) hstop,
        helapsed]
      cases hsus : s.defr.suspended <;>
        simp [State.setCounter, State.coilTiming, State.coilGone, State.coilTold, State.onDefr, State.counter, hsus]
    · subst he
      rw [onCoilSample_of_lost hp, coilLossInHeat_of_late (s := s.coilGone) ht hb hlate]
      obtain ⟨st, on, hd, hcount, hrun, hzero, hcond, hset⟩ := endHeat_timedEnd (s := s.coilGone.coilTiming) hs
      rw [hd]
      exact ⟨rfl, rfl, rfl, rfl, rfl, hcount, hrun, hzero, hcond, hset⟩

end Sys2Proof.Machine

/-! A SET of an item that no state refuses (R183): its answer, its store, and the RUNNING counter that a changed length
reaches (R161, R182); and the counter records on the link (R163, R181). -/

namespace Sys2Proof.Machine

/-! ### Items whose SET is always accepted (R183, R184) -/

/-- R184: the items whose SET is accepted whatever the value and the settings. -/
def Item.neverRefused : Item → Bool
  | .mode _ => false
  | .lossPolicy _ => false
  | .nMin => false
  | .nMax => false
  | _ => true

section

variable {i : Item}

theorem Item.neverRefused_of_readAtUse (h : i.readAtUse = true) : i.neverRefused = true := by
  cases i with
  | mode | lossPolicy | nMin | nMax => cases h
  | _ => rfl

theorem Item.ne_mode_of_neverRefused (h : i.neverRefused = true) (z : Zone) : i ≠ .mode z := by
  rintro rfl
  cases h

variable (s : State)

/-- R183: the value that such a SET stores is limited to the range and not rounded. -/
theorem Item.settled_of_neverRefused (h : i.neverRefused = true) (v : Int) :
    i.settled v = if v = -32768 then none else some (max i.range.1 (min i.range.2 v)) := by
  have hstep : ¬ (i = .nMin ∨ i = .nMax) := by rintro (rfl | rfl) <;> cases h
  rw [Item.settled, if_neg hstep]

theorem settleValue_of_neverRefused (h : i.neverRefused = true) (v : Int) :
    settleValue s i v = some (i.settled v) := by
  rw [Item.settled_of_neverRefused h, ← limited_eq _ _ v i.range_le]
  cases i with
  | mode | lossPolicy | nMin | nMax => cases h
  | _ => rfl

/-! ### The answer (R183) -/

/-- R183: −32768 is answered OK with the profile's default and a follows flag of 1. -/
theorem setReply_follow (i : Item) (v : Int) (hv : v = -32768) :
    setReply i v s = .ok ([byteOf i.id] ++ intBytes (i.default s.settings.profile) ++ [0x01#8]) := by
  subst hv
  have hsettled : i.settled (-32768) = none := if_pos rfl
  have hfollows : (s.stored i (-32768)).settings.follows i = true := by
    simp [State.stored, Settings.follows_write, hsettled]
  simp [setReply, hfollows, stored_eff, hsettled, Answer.ok]

/-- R183: a value is answered as it was stored, CLAMPED if it lay outside the range. -/
theorem setReply_value (h : i.neverRefused = true) (v : Int) (hv : v ≠ -32768) :
    setReply i v s =
      { status := if i.range.1 ≤ v ∧ v ≤ i.range.2 then .ok else .clamped
        contents := [byteOf i.id] ++ intBytes (max i.range.1 (min i.range.2 v)) ++ [0x00#8] } := by
  have hsettled : i.settled v = some (max i.range.1 (min i.range.2 v)) := by
    rw [Item.settled_of_neverRefused h, if_neg hv]
  have hfollows : (s.stored i v).settings.follows i = false := by
    simp [State.stored, Settings.follows_write, hsettled]
  have hin : (max i.range.1 (min i.range.2 v) = v) ↔ (i.range.1 ≤ v ∧ v ≤ i.range.2) := by
    have := i.range_le
    omega
  simp [setReply, hfollows, stored_eff, hsettled, hv, hin]

/-! ### The store and its owner (R182) -/

section

variable (tag : Byte) (value : Half) (ha : Accepting s) (hi : i.neverRefused = true)

include ha hi

/-- R183: such a SET leaves its store before the reply, with no law of the settings asked for. -/
theorem set_stores (t : State) (ht : storeItem i (i.settled value.toInt) s = t) (ho : t.own = s.own) :
    SetLeaves tag i value s t := by
  have h := setLeaves_store s tag i value ha (settleValue_of_neverRefused s hi _)
  rw [repeatBoost_of_not_mode s i _ (Item.ne_mode_of_neverRefused hi), ht] at h
  exact h (by rw [ho]; exact ha.1)

/-- R182: a SET that leaves the effective value reaches no counter. -/
theorem set_stores_same (h : (s.stored i value.toInt).eff i = s.eff i) :
    SetLeaves tag i value s (s.stored i value.toInt) :=
  set_stores s tag value ha hi _ (by rw [storeItem_eq, if_pos h]) rfl

/-- R182: a changed value is handed to its owner. -/
theorem set_stores_changed (h : (s.stored i value.toInt).eff i ≠ s.eff i) (t : State)
    (ht : handChange i (s.eff i) (s.stored i value.toInt) = t) (ho : t.own = s.own) : SetLeaves tag i value s t :=
  set_stores s tag value ha hi t (by rw [storeItem_eq, if_neg h, ht]) ho

end

/-- R182: nothing happens at once where the owner reads the item at its next use. -/
theorem handChange_of_readAtUse (h : i.readAtUse = true) (old : Int) : handChange i old s = s := by
  cases i with
  | hOn | hOff | slotMax | ageLimit | lossHold | lostPeriod | saveMask | uFull | rampUp | rampDn | ambGain | termTemp
  | fanDelayTemp | adapt | recoveryGain | recoveryMinOpen | filterShift => rfl
  | _ => cases h

theorem set_readAtUse (tag : Byte) (value : Half) (ha : Accepting s) (h : i.readAtUse = true) :
    SetLeaves tag i value s (s.stored i value.toInt) := by
  have hi := Item.neverRefused_of_readAtUse h
  by_cases hsame : (s.stored i value.toInt).eff i = s.eff i
  · exact set_stores_same s tag value ha hi hsame
  · exact set_stores_changed s tag value ha hi hsame _ (handChange_of_readAtUse _ h _) rfl

/-! ### A length and the counter it governs (R161, R182) -/

/-- R51: which slots SLOT times with SLOT_MIN, and which with LOST_SERVE. -/
theorem slotTimes_iff (fixed : Bool) :
    s.slotTimes fixed = true ↔ ∃ r, s.arb.holder = .slot r ∧ r.phase = .min ∧ r.fixed = fixed := by
  unfold State.slotTimes
  cases s.arb.holder <;> simp

/-- R161, R182: the length of an item is handed to the one counter `c`, as `n`, where it governs that counter. -/
def Governs (i : Item) (w : State) (c : CounterId) (n : Nat) (governs : Prop) : Prop :=
  (governs → governed i w = w.setCounter c ((w.counter c).reloaded n)) ∧ (¬ governs → governed i w = w)

theorem Governs.of_ite {w : State} {c : CounterId} {n : Nat} {governs p : Prop} [Decidable p]
    (h : governed i w = if p then w.writeRunning c n else w) (hp : governs ↔ p) : Governs i w c n governs :=
  ⟨fun hg => by rw [h, if_pos (hp.mp hg), writeRunning_eq], fun hg => by rw [h, if_neg (mt hp.mpr hg)]⟩

theorem Governs.of_always {w : State} {c : CounterId} {n : Nat} {governs : Prop}
    (h : governed i w = w.writeRunning c n) (hp : governs) : Governs i w c n governs :=
  .of_ite (p := True) (by rw [if_pos trivial, h]) (iff_true_intro hp)

/-- R161, R182: a changed length reaches the reload of the counter it governs, and nothing otherwise. -/
theorem set_length (tag : Byte) (value : Half) (ha : Accepting s) (hi : i.neverRefused = true)
    (hh : ∀ old w, handChange i old w = governed i w) {c : CounterId} {n : Nat} {governs : Prop}
    (hg : Governs i (s.stored i value.toInt) c n governs) :
    ((s.stored i value.toInt).eff i ≠ s.eff i → governs →
        SetLeaves tag i value s
          { s.stored i value.toInt with bank := s.bank.set c ((s.counter c).reloaded n) }) ∧
      (((s.stored i value.toInt).eff i = s.eff i ∨ ¬ governs) →
        SetLeaves tag i value s (s.stored i value.toInt)) := by
  obtain ⟨hreach, hnot⟩ := hg
  refine ⟨fun h hgov => set_stores_changed s tag value ha hi h _ ((hh _ _).trans (hreach hgov)) rfl, fun h => ?_⟩
  by_cases hsame : (s.stored i value.toInt).eff i = s.eff i
  · exact set_stores_same s tag value ha hi hsame
  · exact set_stores_changed s tag value ha hi hsame _ ((hh _ _).trans (hnot (h.resolve_left hsame))) rfl

/-- R7, R161, R182: a changed BOOST_LEN reaches the reload of each BOOST counter that runs. -/
theorem governed_boostLen :
    governed .boostLen s =
      { s with
        bank :=
          { s.bank with
            boost :=
              { fresh := s.bank.boost.fresh.reloaded (s.effN .boostLen)
                chill := s.bank.boost.chill.reloaded (s.effN .boostLen)
                freeze := s.bank.boost.freeze.reloaded (s.effN .boostLen) } } } := by
  show ((s.writeRunning (.boost .fresh) (s.effN .boostLen)).writeRunning (.boost .chill)
    (s.effN .boostLen)).writeRunning (.boost .freeze) (s.effN .boostLen) = _
  simp only [writeRunning_eq]
  rfl

/-- R161: a STOPPED counter keeps its record. -/
theorem bank_set_reloaded (c : CounterId) (n : Nat) :
    s.bank.set c ((s.counter c).reloaded n) =
      if (s.counter c).run then s.bank.set c { s.counter c with reload := n } else s.bank := by
  have hbank : s.bank.set c ((s.counter c).reloaded n) = (s.writeRunning c n).bank := by
    rw [writeRunning_eq]
    rfl
  rw [hbank, State.writeRunning]
  cases hrun : (s.counter c).run with
  | true => simp [State.writeC, State.onCounter, State.setCounter, Counter.write, hrun]
  | false => rfl

/-- R183: a SVC_MAX within its range is stored as it is given. -/
theorem settled_svcMax {v : Int} (hlo : 300 ≤ v) (hhi : v ≤ 7200) : Item.settled .svcMax v = some v := by
  have hlimit : max (300 : Int) (min 7200 v) = v := by omega
  rw [Item.settled_of_neverRefused rfl, if_neg (by omega)]
  exact congrArg some hlimit

/-- R161, R182, R183: a changed SVC_MAX reaches the reload of a RUNNING SVC. -/
theorem set_svcMax (tag : Byte) (value : Half) (ha : Accepting s) (hlo : 300 ≤ value.toInt) (hhi : value.toInt ≤ 7200)
    (hne : s.eff .svcMax ≠ value.toInt) :
    SetLeaves tag .svcMax value s
      { s with
        settings := { s.settings with written := putWritten s.settings.written 0x39 value.toInt }
        bank := if (s.counter .svc).run then s.bank.set .svc { s.counter .svc with reload := value.toInt.toNat }
          else s.bank } := by
  have hsettled := settled_svcMax hlo hhi
  have heff : (s.stored .svcMax value.toInt).eff .svcMax = value.toInt := by simp [stored_eff, hsettled]
  have hn : (s.stored .svcMax value.toInt).effN .svcMax = value.toInt.toNat := congrArg Int.toNat heff
  have hleaves := (set_length s tag value ha rfl (fun _ _ => rfl) (.of_always rfl trivial)).1
    (by rw [heff]; exact hne.symm) trivial
  rwa [hn, bank_set_reloaded, State.stored, hsettled] at hleaves

/-- R183: the answer to a SVC_MAX within its range. -/
theorem setReply_svcMax {v : Int} (hlo : 300 ≤ v) (hhi : v ≤ 7200) :
    setReply .svcMax v s = .ok ([0x39#8] ++ intBytes v ++ [0x00#8]) := by
  have hlimit : max (300 : Int) (min 7200 v) = v := by omega
  rw [setReply_value s rfl v (by omega), if_pos ⟨hlo, hhi⟩]
  exact congrArg (fun w => Answer.ok ([0x39#8] ++ intBytes w ++ [0x00#8])) hlimit

end

/-- Settles O15: the limited value stored, and the reload of the RUNNING counter that a changed length governs. -/
theorem setStoresLimitedValue : Obligations.SetStoresLimitedValue := by
  unfold Obligations.SetStoresLimitedValue
  refine ⟨fun tag i value s ha hr => ?_, fun tag value s ha hlo hhi hne => ?_,
    fun tag i value s w ha hw => ⟨fun c n governs h => ?_, ?_, ?_⟩⟩
  · have hi := Item.neverRefused_of_readAtUse hr
    have hleaves := set_readAtUse s tag value ha hr
    unfold SetLeaves State.stored at hleaves
    rw [Item.settled_of_neverRefused hi] at hleaves
    constructor
    · intro hv
      rwa [setReply_follow s i _ hv, if_pos hv] at hleaves
    · intro hv
      rwa [setReply_value s hi _ hv, if_neg hv] at hleaves
  · rw [← setReply_svcMax s hlo hhi]
    exact set_svcMax s tag value ha hlo hhi hne
  · subst hw
    rcases h with ⟨rfl, rfl, rfl, hg⟩ | ⟨rfl, rfl, rfl, hg⟩ | ⟨rfl, rfl, rfl, hg⟩ | ⟨rfl, rfl, rfl, hg⟩ |
      ⟨rfl, rfl, rfl, hg⟩ | ⟨rfl, rfl, rfl, hg⟩ | ⟨rfl, rfl, rfl, hg⟩ | ⟨rfl, rfl, rfl, hg⟩ | ⟨rfl, rfl, rfl, hg⟩ <;>
      refine set_length s tag value ha rfl (fun _ _ => rfl) ?_
    · exact .of_ite rfl (hg.trans (slotTimes_iff s false).symm)
    · exact .of_ite rfl (hg.trans (slotTimes_iff s true).symm)
    · exact .of_always rfl hg
    · exact .of_ite rfl hg
    · exact .of_ite rfl hg
    · exact .of_ite rfl hg
    · exact .of_ite rfl hg
    · exact .of_ite rfl hg
    · exact .of_always rfl hg
  · subst hw
    rintro rfl h
    exact set_stores_changed s tag value ha rfl h _ (governed_boostLen _) rfl
  · subst hw
    rintro rfl h
    exact set_stores_same s tag value ha rfl h

/-! ### COUNTER_VIEW (R163, R181) -/

section

variable (s : State) (tag : Byte)

theorem exec_counterView (ha : Accepting s) (b : Byte) {a : Answer} (hp : performCounterView b s = (a, s)) :
    exec (.counterView tag b) s = .next (replied ⟨0x0E#8, tag, [b]⟩ a s) :=
  congrArg Host.Outcome.next (submit_view s tag (.counterView b) a ha (checkFrame_of_read tag _ rfl rfl) hp)

/-- R162: a counter's id is its place in the row of the 26. -/
theorem CounterId.ofByte_byteOf {n : Nat} {i : CounterId} (h : CounterId.all[n]? = some i) :
    CounterId.ofByte (byteOf n) = some i := by
  obtain ⟨hn, -⟩ := List.getElem?_eq_some_iff.mp h
  have hlt : n < 26 := hn
  have hbyte : (byteOf n).toNat = n := by
    rw [byteOf, BitVec.toNat_ofNat]
    omega
  rw [CounterId.ofByte, hbyte, h]

/-- R162: no counter has an id above 25. -/
theorem CounterId.ofByte_of_ge (b : Byte) (h : 26 ≤ b.toNat) : CounterId.ofByte b = none :=
  List.getElem?_eq_none h

end

/-- Settles O28: the id names its counter, whose record is answered; above 25 it names none. -/
theorem counterViewAnswersTheRecord : Obligations.CounterViewAnswersTheRecord := by
  unfold Obligations.CounterViewAnswersTheRecord
  refine fun tag s ha => ⟨fun n i h => exec_counterView s tag ha _ ?_, rfl, fun b hb => exec_counterView s tag ha b ?_⟩
  · rw [performCounterView, CounterId.ofByte_byteOf h]
    cases i with
    | runsec => rfl
    | door d => rfl
    | _ => rfl
  · rw [performCounterView, CounterId.ofByte_of_ge b hb]
    rfl

end Sys2Proof.Machine

/-! The Condition Unit's sets: ATTN by the masked deltas (R171), the reports of levels and events (R166, R172), and what a
chain of reports leaves. -/

namespace Sys2Proof.Machine

/-! ### Bits of the sets (R165, R169, R171) -/

theorem conditionBits_getLsbD (n : Nat) : conditionBits.getLsbD n = decide (n ≤ 26) := by
  by_cases hn : n < 32
  · exact (by decide : ∀ k : Fin 32, conditionBits.getLsbD k = decide (k.val ≤ 26)) ⟨n, hn⟩
  · rw [BitVec.getLsbD_of_ge _ _ (by omega), decide_eq_false (by omega)]

theorem Set32.ne_zero_iff (v : Set32) : v ≠ 0#32 ↔ ∃ n : Nat, v.getLsbD n = true := by
  refine ⟨fun h => ?_, fun ⟨n, hn⟩ h => by simp [h] at hn⟩
  by_contra hnone
  exact h (BitVec.eq_of_getLsbD_eq fun n _ => by simpa using fun hn => hnone ⟨n, hn⟩)

section

variable (c : Conditions) (i : Cond) (b : Bool)

theorem Conditions.maskedDeltas_ne_zero_iff :
    c.maskedDeltas ≠ 0#32 ↔ ∃ n : Nat, n ≤ 26 ∧ c.deltas.getLsbD n = true ∧ c.mask.getLsbD n = true := by
  rw [Set32.ne_zero_iff]
  refine exists_congr fun n => ?_
  simp only [maskedDeltas, BitVec.getLsbD_and, conditionBits_getLsbD, Bool.and_eq_true, decide_eq_true_eq]
  tauto

/-- R171: what a re-evaluation makes of ATTN. -/
theorem Conditions.refreshAttn_attn_iff :
    c.refreshAttn.attn = true ↔ ∃ n : Nat, n ≤ 26 ∧ c.deltas.getLsbD n = true ∧ c.mask.getLsbD n = true := by
  rw [← maskedDeltas_ne_zero_iff]
  exact bne_iff_ne

/-! ### Reports (R166, R172) -/

theorem Conditions.setLevel_of_change (h : c.level i ≠ b) :
    c.setLevel i b = Conditions.mark i { c with levels := putBit c.levels i.id b } := if_neg h

/-- R166: an event touches neither the levels nor another delta. -/
theorem Conditions.mark_deltas_getLsbD (n : Nat) :
    (c.mark i).deltas.getLsbD n = if n = i.id then true else c.deltas.getLsbD n := by
  have hid := i.id_lt
  rw [mark_deltas, getLsbD_putBit]
  exact if_congr (and_iff_left (by omega)) rfl rfl

/-- R172: a delta that goes from no to yes under its mask bit makes a NOTE pending. -/
theorem Conditions.mark_notePending :
    (c.mark i).notePending = (c.notePending || (!c.deltas.getLsbD i.id && c.mask.getLsbD i.id)) := rfl

theorem Conditions.mark_attn_iff :
    (c.mark i).attn = true ↔
      ∃ n : Nat, n ≤ 26 ∧ (c.mark i).deltas.getLsbD n = true ∧ c.mask.getLsbD n = true :=
  Conditions.refreshAttn_attn_iff _

/-- R166: a level reaches the set of levels at its condition's bit alone. -/
theorem Conditions.setLevel_levels_getLsbD_of_ne (n : Nat) (h : n ≠ i.id) :
    (c.setLevel i b).levels.getLsbD n = c.levels.getLsbD n := by
  unfold Conditions.setLevel
  split
  · rfl
  · rw [mark_levels, getLsbD_putBit, if_neg fun hn => h hn.1]

end

/-! ### A chain of reports -/

/-- R166: the conditions that a block reports with a level; the others are events. -/
def Cond.hasLevel : Cond → Bool
  | .zoneWarm _ => true
  | .zoneCold _ => true
  | .sensorLost _ => true
  | .fanFault => true
  | .compFault => true
  | .compLockout => true
  | .heaterOpen => true
  | .heaterStuck => true
  | .doorAjar _ => true
  | .serviceHold => true
  | .defrostActive => true
  | .defrostDone => false
  | .defrostTimeout => false
  | .planApplied => false
  | .linkOverrun => false
  | .restarted => false

/-- R165: a level has one of the bits 0 to 21. -/
theorem Cond.id_lt_of_hasLevel {i : Cond} (h : i.hasLevel = true) : i.id < 22 := by
  cases i with
  | zoneWarm z => cases z <;> decide
  | zoneCold z => cases z <;> decide
  | sensorLost ch => cases ch <;> decide
  | doorAjar d => cases d <;> decide
  | defrostDone => cases h
  | defrostTimeout => cases h
  | planApplied => cases h
  | linkOverrun => cases h
  | restarted => cases h
  | _ => decide

/-- R166, R167: what the blocks can do to the Condition Unit in an event: report levels and events, and go on with the
zone alarms and the holder it knows. -/
inductive Conditions.Reported (c : Conditions) : Conditions → Prop where
  | refl : Reported c c
  | level {d : Conditions} (i : Cond) (b : Bool) (hi : i.hasLevel = true) (h : Reported c d) : Reported c (d.setLevel i b)
  | event {d : Conditions} (i : Cond) (h : Reported c d) : Reported c (d.mark i)
  | alarms {d : Conditions} (a : PerZone AlarmRec) (h : Reported c d) : Reported c { d with alarms := a }
  | holder {d : Conditions} (b : Bool) (h : Reported c d) : Reported c { d with defrostHolds := b }

/-- R171, of the Condition Unit's record alone. -/
def Conditions.AttnFollows (c : Conditions) : Prop :=
  c.attn = true ↔ ∃ n : Nat, n ≤ 26 ∧ c.deltas.getLsbD n = true ∧ c.mask.getLsbD n = true

/-- R169, of the Condition Unit's record alone. -/
def Conditions.UnusedBitsClear (c : Conditions) : Prop :=
  (∀ n : Nat, 22 ≤ n → c.levels.getLsbD n = false) ∧ ∀ n : Nat, 27 ≤ n → c.deltas.getLsbD n = false

theorem attnLaw_iff (s : State) : AttnLaw s ↔ s.cond.AttnFollows := Iff.rfl

theorem conditionBitsLaw_iff (s : State) : ConditionBitsLaw s ↔ s.cond.UnusedBitsClear := Iff.rfl

section

variable {c d : Conditions}

/-- R166: no condition's delta is an unused bit. -/
theorem Conditions.UnusedBitsClear.mark (h : c.UnusedBitsClear) (i : Cond) : (c.mark i).UnusedBitsClear := by
  refine ⟨h.1, fun n hn => ?_⟩
  have hid := i.id_lt
  rw [mark_deltas_getLsbD, if_neg (by omega)]
  exact h.2 n hn

theorem Conditions.UnusedBitsClear.setLevel (h : c.UnusedBitsClear) {i : Cond} (hi : i.hasLevel = true) (b : Bool) :
    (c.setLevel i b).UnusedBitsClear := by
  refine ⟨fun n hn => ?_, ?_⟩
  · have hid := Cond.id_lt_of_hasLevel hi
    rw [setLevel_levels_getLsbD_of_ne _ _ _ _ (by omega)]
    exact h.1 n hn
  · unfold Conditions.setLevel
    split
    · exact h.2
    · exact (h.mark i).2

/-- R171: each report re-evaluates ATTN where it changes a delta. -/
theorem Conditions.Reported.attnFollows (h : c.Reported d) (hc : c.AttnFollows) : d.AttnFollows := by
  induction h with
  | refl => exact hc
  | level i b _ _ ih =>
    unfold Conditions.setLevel
    split
    · exact ih
    · exact Conditions.mark_attn_iff _ i
  | event i _ _ => exact Conditions.mark_attn_iff _ i
  | alarms _ _ ih => exact ih
  | holder _ _ ih => exact ih

theorem Conditions.Reported.unusedBitsClear (h : c.Reported d) (hc : c.UnusedBitsClear) : d.UnusedBitsClear := by
  induction h with
  | refl => exact hc
  | level _ b hi _ ih => exact ih.setLevel hi b
  | event i _ ih => exact ih.mark i
  | alarms _ _ ih => exact ih
  | holder _ _ ih => exact ih

end

end Sys2Proof.Machine

/-! What each operation does to the Condition Unit: it reports levels and events, and nothing else (R166). First the
alarms, the air path, the compressor and the use of the path. -/

namespace Sys2Proof.Machine

section

variable {c : Conditions} {s : State}

theorem Conditions.Reported.of_eq {t : State} (h : c.Reported s.cond) (ht : t.cond = s.cond) : c.Reported t.cond :=
  ht ▸ h

/-! ### Zone alarms (R167, R168) -/

theorem stopAlarm_reports (z : Zone) (h : c.Reported s.cond) : c.Reported (stopAlarm z s).cond :=
  .alarms _ h

theorem startAlarm_reports (z : Zone) (what : AlmFor) (h : c.Reported s.cond) : c.Reported (startAlarm z what s).cond :=
  .alarms _ (h.of_eq (by simp))

theorem warmDeassert_reports (z : Zone) (cause : AlarmCause) (h : c.Reported s.cond) :
    c.Reported (warmDeassert z cause s).cond := by
  unfold warmDeassert
  split
  · split
    · exact .level _ _ rfl h
    · exact h
  all_goals exact h

theorem coldDeassert_reports (z : Zone) (cause : AlarmCause) (h : c.Reported s.cond) :
    c.Reported (coldDeassert z cause s).cond := by
  unfold coldDeassert
  split
  · split
    · exact .level _ _ rfl h
    · exact h
  all_goals exact h

theorem warmTiming_reports (z : Zone) (cause : AlarmCause) (h : c.Reported s.cond) :
    c.Reported (warmTiming z cause s).cond := by
  have hstop : c.Reported (stopAlarm z s).cond := stopAlarm_reports z h
  unfold warmTiming
  dsimp only
  repeat' split
  · exact startAlarm_reports z .warm hstop
  · exact hstop
  · exact startAlarm_reports z .warm h
  · exact h

theorem coldTiming_reports (z : Zone) (cause : AlarmCause) (h : c.Reported s.cond) :
    c.Reported (coldTiming z cause s).cond := by
  have hstop : c.Reported (stopAlarm z s).cond := stopAlarm_reports z h
  unfold coldTiming
  dsimp only
  repeat' split
  · exact startAlarm_reports z .cold hstop
  · exact hstop
  · exact startAlarm_reports z .cold h
  · exact h

theorem evalAlarm_reports (z : Zone) (cause : AlarmCause) (h : c.Reported s.cond) :
    c.Reported (evalAlarm z cause s).cond :=
  coldTiming_reports z cause (coldDeassert_reports z cause (warmTiming_reports z cause (warmDeassert_reports z cause h)))

theorem alarmSample_reports (z : Zone) (h : c.Reported s.cond) : c.Reported (alarmSample z s).cond := by
  unfold alarmSample
  dsimp only
  split
  case h_2 | h_3 => exact evalAlarm_reports z .goodSample (.alarms _ h)
  all_goals exact evalAlarm_reports z .badSample h

theorem onAlmExpiry_reports (z : Zone) (h : c.Reported s.cond) : c.Reported (onAlmExpiry z s).cond := by
  unfold onAlmExpiry
  split
  · exact .alarms _ (.level _ _ rfl h)
  · exact .alarms _ (.level _ _ rfl h)
  · exact h

theorem clearAlarms_reports (z : Zone) (h : c.Reported s.cond) : c.Reported (clearAlarms z s).cond :=
  stopAlarm_reports z (.level _ _ rfl (.level _ _ rfl h))

/-! ### Fan (R91, R92, R94) -/

theorem setFanFault_reports (b : Bool) (h : c.Reported s.cond) : c.Reported (setFanFault b s).cond := .level _ _ rfl h

theorem onProvingEnd_reports (h : c.Reported s.cond) : c.Reported (onProvingEnd s).cond := setFanFault_reports false h

theorem stallFan_reports (h : c.Reported s.cond) : c.Reported (stallFan s).cond := by
  unfold stallFan
  dsimp only
  split
  · exact h.of_eq (by simp)
  · exact setFanFault_reports true (h.of_eq (by simp))

theorem onTachOverflow_reports (h : c.Reported s.cond) : c.Reported (onTachOverflow s).cond := by
  unfold onTachOverflow
  dsimp only
  split
  · split
    · exact stallFan_reports h
    · exact h
  all_goals exact h

theorem onFantimeExpiry_reports (h : c.Reported s.cond) : c.Reported (onFantimeExpiry s).cond := by
  unfold onFantimeExpiry
  split
  case h_4 => exact onProvingEnd_reports h
  all_goals exact h.of_eq (by simp)

/-! ### Compressor (R106, R108 to R110) -/

theorem leaveFaulted_reports (h : c.Reported s.cond) : c.Reported (leaveFaulted s).cond := by
  have hclear : c.Reported ((setCompState .off s).setLevel .compFault false).cond := .level _ _ rfl h
  exact hclear.of_eq (by simp [leaveFaulted])

theorem onGuardExpiry_reports (h : c.Reported s.cond) : c.Reported (onGuardExpiry s).cond := by
  unfold onGuardExpiry
  dsimp only
  split
  case h_3 =>
    split
    · exact h
    · exact leaveFaulted_reports h
  all_goals exact h.of_eq (by simp)

theorem takeFault_reports (h : c.Reported s.cond) : c.Reported (takeFault s).cond := by
  unfold takeFault
  dsimp only
  generalize hu : setCompState (if 3 ≤ s.comp.faultCount + 1 then .lockout else .faulted) _ = u
  have hcond : u.cond = s.cond := by
    rw [← hu]
    repeat' split
    all_goals simp
  have hfault : c.Reported (u.setLevel .compFault true).cond := .level _ _ rfl (h.of_eq hcond)
  split
  · exact .level _ _ rfl hfault
  · exact hfault

theorem onCompFltRound_reports (asserted : Bool) (h : c.Reported s.cond) :
    c.Reported (onCompFltRound asserted s).cond := by
  unfold onCompFltRound
  dsimp only
  split
  · split
    · exact takeFault_reports h
    · exact h
  · split
    · exact leaveFaulted_reports h
    · exact h

theorem clearLockout_reports (h : c.Reported s.cond) : c.Reported (clearLockout s).cond :=
  .level _ _ rfl (.level _ _ rfl (h.of_eq (by simp)))

theorem onGuard_reports (h : c.Reported s.cond) : c.Reported (onGuard s).cond :=
  (onGuardExpiry_reports h).of_eq (by simp [onGuard])

theorem onCompFlt_reports (asserted : Bool) (h : c.Reported s.cond) : c.Reported (onCompFlt asserted s).cond :=
  (onCompFltRound_reports asserted h).of_eq (by simp [onCompFlt])

/-! ### Grants, IDLE and the ends of a slot (R51 to R60, R64, R71) -/

theorem applyPlan_reports (h : c.Reported s.cond) : c.Reported (applyPlan s).cond := .event _ h

theorem applyPending_reports (h : c.Reported s.cond) : c.Reported (applyPending s).cond := by
  unfold applyPending
  split
  · exact applyPlan_reports h
  · exact h

theorem arbitrate_reports (h : c.Reported s.cond) : c.Reported (arbitrate s).cond := by
  unfold arbitrate
  dsimp only
  split
  · exact (applyPending_reports (s := s.onArb _) h).of_eq (grantSlot_cond _ _)
  · exact (applyPending_reports (s := setHolder _ (s.onArb _)) h).of_eq (enterIdle_cond _)

theorem endSlot_reports (z : Zone) (full : Bool) (h : c.Reported s.cond) : c.Reported (endSlot z full s).cond :=
  h.of_eq (by simp)

theorem endHeldSlot_reports (z : Zone) (full : Bool) (h : c.Reported s.cond) : c.Reported (endHeldSlot z full s).cond :=
  arbitrate_reports (endSlot_reports z full h)

theorem resumeSlot_reports (z : Zone) (phase : SlotPhase) (fixed : Bool) (remaining : Nat) (snapshot : Option Route)
    (h : c.Reported s.cond) : c.Reported (resumeSlot z phase fixed remaining snapshot s).cond := by
  unfold resumeSlot
  dsimp only
  split
  · exact h.of_eq (by simp)
  · exact (applyPending_reports h).of_eq (by simp)

theorem popSlot_reports (mask : Nat) (z : Zone) (phase : SlotPhase) (fixed : Bool) (remaining : Nat)
    (snapshot : Option Route) (h : c.Reported s.cond) :
    c.Reported (popSlot mask z phase fixed remaining snapshot s).cond := by
  unfold popSlot
  split
  · exact resumeSlot_reports z phase fixed remaining snapshot h
  · exact arbitrate_reports (endSlot_reports z false h)

/-! ### Holder reports and claims (R50, R66, R67, R122, R143, R144) -/

theorem evalAllAlarms_reports (h : c.Reported s.cond) : c.Reported (evalAllAlarms s).cond :=
  evalAlarm_reports .freeze .change (evalAlarm_reports .chill .change (evalAlarm_reports .fresh .change h))

theorem tellConditions_reports (h : c.Reported s.cond) : c.Reported (tellConditions s).cond := by
  have hhold : c.Reported (s.setLevel .serviceHold (decide (s.arb.holder = .service))).cond := .level _ _ rfl h
  unfold tellConditions
  dsimp only
  split
  · exact hhold
  · exact evalAllAlarms_reports (.holder _ hhold)

theorem tellHolder_reports (h : c.Reported s.cond) : c.Reported (tellHolder s).cond :=
  tellConditions_reports (h.of_eq (by simp))

theorem claimDoor_reports (h : c.Reported s.cond) : c.Reported (claimDoor s).cond :=
  tellHolder_reports (h.of_eq (by simp))

theorem claimDefrost_reports (h : c.Reported s.cond) : c.Reported (claimDefrost s).cond := by
  have hactive := Conditions.Reported.level .defrostActive true rfl h
  exact tellHolder_reports (hactive.of_eq (t := enterFirstPhase _) (s := s.setLevel .defrostActive true) (by simp))

theorem claimService_reports (h : c.Reported s.cond) : c.Reported (claimService s).cond := by
  unfold claimService
  dsimp only
  refine tellHolder_reports (h.of_eq ?_)
  split <;> simp

theorem report_reports (h : c.Reported s.cond) : c.Reported (report s).cond := by
  have htold := tellHolder_reports h
  unfold report
  dsimp only
  split
  · split
    · exact htold
    · exact claimDoor_reports htold
    · exact claimDefrost_reports htold
    · split
      · exact claimDoor_reports htold
      · exact claimDefrost_reports htold
  · exact htold

/-! ### Releases and slot events (R52 to R58, R63, R70 to R73) -/

theorem releasePath_reports (h : c.Reported s.cond) : c.Reported (releasePath s).cond := by
  unfold releasePath
  dsimp only
  refine report_reports ?_
  split
  · exact arbitrate_reports h
  · exact popSlot_reports _ _ _ _ _ _ h
  · exact h.of_eq (by simp)
  · exact h.of_eq (by simp)

theorem endService_reports (h : c.Reported s.cond) : c.Reported (endService s).cond := releasePath_reports h

theorem callingBegan_reports (h : c.Reported s.cond) : c.Reported (callingBegan s).cond := by
  unfold callingBegan
  split
  · exact report_reports (arbitrate_reports h)
  all_goals exact h

theorem callingStopped_reports (z : Zone) (h : c.Reported s.cond) : c.Reported (callingStopped z s).cond := by
  unfold callingStopped
  split
  · split
    · exact report_reports (endHeldSlot_reports z false h)
    · exact h
  all_goals exact h

theorem setCalling_reports (z : Zone) (b : Bool) (h : c.Reported s.cond) : c.Reported (setCalling z b s).cond := by
  unfold setCalling
  dsimp only
  split
  · exact h
  · split
    · exact callingBegan_reports h
    · exact callingStopped_reports z h

theorem onSlotExpiry_reports (h : c.Reported s.cond) : c.Reported (onSlotExpiry s).cond := by
  have hend : ∀ z full, c.Reported (report (endHeldSlot z full s)).cond := fun z full =>
    report_reports (endHeldSlot_reports z full h)
  unfold onSlotExpiry
  split
  · split
    · exact hend _ _
    · split
      · exact hend _ _
      · split
        · exact hend _ _
        · split
          · exact hend _ _
          · exact h.of_eq (by simp)
  all_goals exact h

theorem endSlotAtOff_reports (z : Zone) (h : c.Reported s.cond) : c.Reported (endSlotAtOff z s).cond := by
  unfold endSlotAtOff
  split
  · exact report_reports (endHeldSlot_reports z false h)
  · split
    · exact endSlot_reports z false h
    · exact h

theorem onCompletion_reports (h : c.Reported s.cond) : c.Reported (onCompletion s).cond := by
  unfold onCompletion
  split
  · split
    · exact report_reports (h.of_eq (by simp))
    · exact h
  all_goals exact h

theorem commitPlan_reports (h : c.Reported s.cond) : c.Reported (commitPlan s).cond := by
  unfold commitPlan
  split
  · exact report_reports ((applyPlan_reports h).of_eq (by simp))
  all_goals exact h

/-! ### Defrost (R120 to R134) -/

theorem heatTimedOut_reports (h : c.Reported s.cond) : c.Reported (heatTimedOut s).cond := by
  unfold heatTimedOut
  split
  · exact (Conditions.Reported.event .defrostTimeout h).of_eq (s := s.raise .defrostTimeout) (by simp)
  · exact h.of_eq (by simp)

theorem heaterOpenRound_reports (sense : Bool) (h : c.Reported s.cond) : c.Reported (heaterOpenRound sense s).cond := by
  unfold heaterOpenRound
  dsimp only
  split
  · exact .level _ _ rfl h
  · exact h

theorem heaterStuckRound_reports (sense : Bool) (h : c.Reported s.cond) : c.Reported (heaterStuckRound sense s).cond := by
  unfold heaterStuckRound
  dsimp only
  split
  · exact .level _ _ rfl h
  · exact h

theorem enterPending_reports (h : c.Reported s.cond) : c.Reported (enterPending s).cond := by
  unfold enterPending
  dsimp only
  split
  · exact claimDefrost_reports h
  · exact h

theorem dueCheck_reports (h : c.Reported s.cond) : c.Reported (dueCheck s).cond := by
  unfold dueCheck
  split
  · exact enterPending_reports h
  · exact h

theorem leaveDefrost_reports (h : c.Reported s.cond) : c.Reported (leaveDefrost s).cond := by
  have hended := Conditions.Reported.level .defrostActive false rfl h
  unfold leaveDefrost
  dsimp only
  split
  · exact hended
  · split
    · exact releasePath_reports hended
    · exact hended

theorem endRecover_reports (h : c.Reported s.cond) : c.Reported (endRecover s).cond :=
  leaveDefrost_reports (.event _ (h.of_eq (by simp)))

theorem onCoilSample_reports (state : ChanState) (tf : Option Int) (h : c.Reported s.cond) :
    c.Reported (onCoilSample state tf s).cond := by
  unfold onCoilSample
  dsimp only
  split
  case h_1 => exact h.of_eq (by simp)
  case h_2 =>
    split
    · exact endRecover_reports h
    · exact h
  all_goals exact h

theorem onPhaseExpiry_reports (h : c.Reported s.cond) : c.Reported (onPhaseExpiry s).cond := by
  unfold onPhaseExpiry
  split
  case h_2 => exact heatTimedOut_reports h
  case h_4 => exact endRecover_reports h
  all_goals exact h.of_eq (by simp)

theorem growFrost_reports (n : Nat) (h : c.Reported s.cond) : c.Reported (growFrost n s).cond := by
  unfold growFrost
  dsimp only
  split
  · exact h
  · exact dueCheck_reports h

theorem onRunsecCarry_reports (h : c.Reported s.cond) : c.Reported (onRunsecCarry s).cond := growFrost_reports _ h

theorem onHeaterSenseRound_reports (sense : Bool) (h : c.Reported s.cond) :
    c.Reported (onHeaterSenseRound sense s).cond := by
  have hrun := heaterStuckRound_reports sense (heaterOpenRound_reports sense h)
  unfold onHeaterSenseRound
  dsimp only
  split
  · exact dueCheck_reports hrun
  · exact hrun

end

end Sys2Proof.Machine

/-! What the zones, the doors, the scan round, the settings, the expiries and the requests report to the Condition Unit
(R166). -/

namespace Sys2Proof.Machine

section

variable {c : Conditions} {s : State}

/-! ### The Zone Table (R6 to R23) -/

theorem trustedSample_reports (z : Zone) (tf : Int) (h : c.Reported s.cond) :
    c.Reported (trustedSample z tf s).cond := by
  unfold trustedSample
  dsimp only
  split
  · exact h
  · exact setCalling_reports z true h
  · exact setCalling_reports z false h

theorem enterPolicy_reports (z : Zone) (p : Subst) (h : c.Reported s.cond) : c.Reported (enterPolicy z p s).cond := by
  unfold enterPolicy
  dsimp only
  split
  · exact setCalling_reports z true h
  · split
    · exact h
    · exact setCalling_reports z _ h
  · exact setCalling_reports z false h
  all_goals exact h

theorem policySample_reports (z : Zone) (h : c.Reported s.cond) : c.Reported (policySample z s).cond := by
  unfold policySample
  dsimp only
  split
  · exact setCalling_reports z true h
  · exact h

theorem lostSample_reports (z : Zone) (lost : Nat) (h : c.Reported s.cond) : c.Reported (lostSample z lost s).cond := by
  unfold lostSample
  dsimp only
  repeat' split
  case h_3.isTrue => exact policySample_reports z h
  case h_1.isTrue | h_2.isTrue => exact h
  all_goals exact enterPolicy_reports z _ h

theorem validSample_reports (z : Zone) (tf : Option Int) (h : c.Reported s.cond) :
    c.Reported (validSample z tf s).cond := by
  unfold validSample
  split
  · exact trustedSample_reports z _ h
  · exact trustedSample_reports z _ h
  all_goals exact h

theorem zoneSample_reports (z : Zone) (h : c.Reported s.cond) : c.Reported (zoneSample z s).cond := by
  unfold zoneSample
  dsimp only
  refine alarmSample_reports z ?_
  split
  · exact h
  · split
    · exact validSample_reports z _ h
    · exact h
    · exact lostSample_reports z _ h

theorem enterBoost_reports (z : Zone) (h : c.Reported s.cond) : c.Reported (enterBoost z s).cond := by
  have hstarted : c.Reported (startBoost z s).cond := h.of_eq (by simp)
  unfold enterBoost
  dsimp only
  split
  · exact hstarted
  · exact hstarted
  all_goals exact setCalling_reports z true hstarted

theorem enterOff_reports (z : Zone) (h : c.Reported s.cond) : c.Reported (enterOff z s).cond :=
  endSlotAtOff_reports z (clearAlarms_reports z h)

theorem leaveOff_reports (z : Zone) (new : Mode) (h : c.Reported s.cond) : c.Reported (leaveOff z new s).cond := by
  unfold leaveOff
  dsimp only
  generalize hu : (if new = .boost then startBoost z _ else _) = u
  have hleft : c.Reported u.cond := h.of_eq (by rw [← hu]; split <;> simp)
  repeat' split
  all_goals exact setCalling_reports z _ hleft

theorem onModeChange_reports (z : Zone) (old new : Mode) (h : c.Reported s.cond) :
    c.Reported (onModeChange z old new s).cond := by
  unfold onModeChange
  dsimp only
  generalize hu : (if old = .boost then State.stopC (.boost z) _ else _) = u
  have hmarked : c.Reported u.cond := h.of_eq (by rw [← hu]; split <;> simp)
  have heval := evalAlarm_reports z .change hmarked
  split
  · exact enterOff_reports z heval
  · split
    · exact leaveOff_reports z new heval
    · split
      · exact enterBoost_reports z heval
      · exact heval

theorem onBoostExpiry_reports (z : Zone) (h : c.Reported s.cond) : c.Reported (onBoostExpiry z s).cond := by
  unfold onBoostExpiry
  dsimp only
  split
  · exact h
  · exact onModeChange_reports z _ _ h

theorem onSetpointChange_reports (z : Zone) (h : c.Reported s.cond) : c.Reported (onSetpointChange z s).cond := by
  unfold onSetpointChange
  split
  · exact h
  · exact evalAlarm_reports z .change h

/-! ### Doors (R141 to R148) -/

theorem onOpening_reports (d : Door) (h : c.Reported s.cond) : c.Reported (onOpening d s).cond := by
  have hclaim : ∀ {u : State}, c.Reported u.cond → c.Reported (claimPause u).cond := fun hu => by
    unfold claimPause
    split
    · exact claimDoor_reports hu
    · exact claimDoor_reports hu
    all_goals exact hu
  unfold onOpening
  dsimp only
  split
  · exact h
  · split
    · exact hclaim h
    · exact h

theorem setAjar_reports (d : Door) (b : Bool) (h : c.Reported s.cond) : c.Reported (setAjar d b s).cond :=
  .level _ _ rfl h

theorem onClose_reports (d : Door) (h : c.Reported s.cond) : c.Reported (onClose d s).cond := by
  have hshut : ∀ (u : State) credit frost, c.Reported u.cond →
      c.Reported (growFrost frost (takeCredit (doorZone d) credit (setAjar d false u))).cond := fun u credit frost hu =>
    growFrost_reports frost ((setAjar_reports d false hu).of_eq (by simp))
  have hlast : ∀ {u : State}, c.Reported u.cond → c.Reported (pauseAtLastClose u).cond := fun hu => hu.of_eq (by simp)
  unfold onClose
  dsimp only
  split
  · exact hshut _ _ _ h
  · exact hlast (hshut _ _ _ h)

theorem checkAjar_reports (d : Door) (h : c.Reported s.cond) : c.Reported (checkAjar d s).cond := by
  unfold checkAjar
  split
  · exact setAjar_reports d true h
  · exact h

theorem onAjarTimeChange_reports (h : c.Reported s.cond) : c.Reported (onAjarTimeChange s).cond :=
  checkAjar_reports _ (checkAjar_reports _ (checkAjar_reports _ (checkAjar_reports _ h)))

theorem endPause_reports (h : c.Reported s.cond) : c.Reported (endPause s).cond := by
  unfold endPause
  split
  · split
    · exact releasePath_reports h
    · exact h
  all_goals exact h

/-! ### The scan round (R30, R35, R36, R38) -/

theorem updateChannel_reports (sets : List SampleSet) (ch : Channel) (h : c.Reported s.cond) :
    c.Reported (updateChannel sets ch s).cond := .level _ _ rfl h

theorem updateChannels_reports (sets : List SampleSet) (h : c.Reported s.cond) :
    c.Reported (updateChannels sets s).cond :=
  updateChannel_reports sets _ (updateChannel_reports sets _ (updateChannel_reports sets _
    (updateChannel_reports sets _ (updateChannel_reports sets _ h))))

theorem coilSample_reports (h : c.Reported s.cond) : c.Reported (coilSample s).cond := onCoilSample_reports _ _ h

theorem onAmbientSample_reports (h : c.Reported s.cond) : c.Reported (onAmbientSample s).cond := h

theorem onRound_reports (sets : List SampleSet) (h : c.Reported s.cond) : c.Reported (onRound sets s).cond := by
  unfold onRound
  dsimp only
  refine onAmbientSample_reports (coilSample_reports ?_)
  refine zoneSample_reports .freeze (zoneSample_reports .chill (zoneSample_reports .fresh ?_))
  refine onCompFlt_reports _ (onHeaterSenseRound_reports _ ?_)
  exact updateChannels_reports sets h

/-! ### The Settings Store (R182 to R185) -/

theorem handChange_reports (i : Item) (old : Int) (h : c.Reported s.cond) : c.Reported (handChange i old s).cond := by
  cases i with
  | setpoint z => exact onSetpointChange_reports z h
  | mode z => exact onModeChange_reports z _ _ h
  | alarmHi z => exact evalAlarm_reports z .change h
  | alarmLo z => exact evalAlarm_reports z .change h
  | alarmDelay => exact evalAllAlarms_reports (h.of_eq (by simp))
  | fDue => exact dueCheck_reports h
  | minGap => exact dueCheck_reports h
  | maxGap => exact dueCheck_reports h
  | ajarTime => exact onAjarTimeChange_reports h
  | _ => exact h.of_eq (by simp [handChange])

theorem storeItem_reports (i : Item) (v : Option Int) (h : c.Reported s.cond) : c.Reported (storeItem i v s).cond := by
  unfold storeItem
  dsimp only
  split
  · exact h
  · exact handChange_reports i _ h

theorem handChanges_reports (old : Settings) (items : List Item) (h : c.Reported s.cond) :
    c.Reported (handChanges old items s).cond := by
  induction items generalizing s with
  | nil => exact h
  | cons i rest ih =>
    simp only [handChanges]
    split
    · exact ih h
    · exact ih (handChange_reports i _ h)

theorem changeProfile_reports (p : Nat) (h : c.Reported s.cond) : c.Reported (changeProfile p s).cond := by
  unfold changeProfile
  split
  · exact h
  · exact handChanges_reports _ _ h

theorem setItem_reports (i : Item) (v : Int) (h : c.Reported s.cond) : c.Reported (setItem i v s).2.cond := by
  unfold setItem
  split
  · exact h
  · exact storeItem_reports i none h
  · exact storeItem_reports i _ (h.of_eq (by simp))

theorem performSet_reports (id : Byte) (v : Int) (h : c.Reported s.cond) : c.Reported (performSet id v s).2.cond := by
  unfold performSet
  split
  · simp only [setAnswer_snd, setProfileItem]
    split
    · exact h
    · exact changeProfile_reports _ h
  · split
    · simpa only [setAnswer_snd] using setItem_reports _ v h
    · exact h

/-! ### Expiries and drives (R75, R82, R84, R155) -/

theorem onExpiry_reports (i : CounterId) (h : c.Reported s.cond) : c.Reported (onExpiry i s).cond := by
  cases i with
  | slot => exact onSlotExpiry_reports h
  | guard => exact onGuard_reports h
  | phase => exact onPhaseExpiry_reports h
  | settle => exact endPause_reports (s := setPauseSpent _ _) h
  | pause => exact endPause_reports (s := setPauseSpent _ _) h
  | fantime => exact onFantimeExpiry_reports h
  | boost z => exact onBoostExpiry_reports z h
  | alm z => exact onAlmExpiry_reports z h
  | svc =>
    simp only [onExpiry, onSvcExpiry]
    split
    · exact endService_reports h
    · exact h
  | _ => exact h

theorem damperArrives_reports (d : Damper) (h : c.Reported s.cond) : c.Reported (damperArrives d s).cond := by
  unfold damperArrives
  split
  · exact onCompletion_reports h
  · exact h

theorem homingEnds_reports (d : Damper) (h : c.Reported s.cond) : c.Reported (homingEnds d s).cond := by
  unfold homingEnds
  dsimp only
  split
  · split
    · exact onCompletion_reports h
    · exact h
  · exact h

theorem damperTick_reports (d : Damper) (h : c.Reported s.cond) : c.Reported (damperTick d s).cond := by
  unfold damperTick
  dsimp only
  split
  · split
    · exact damperArrives_reports d h
    · exact h
  · split
    · exact homingEnds_reports d h
    · exact h
  all_goals exact h

theorem offerFrame_reports (f : Frame) (h : c.Reported s.cond) : c.Reported (offerFrame f s).cond := by
  unfold offerFrame
  split
  · exact h
  · exact .event _ h

/-! ### Orders and SERVICE_DRIVE (R63, R75, R95, R110, R112, R121, R134) -/

theorem orderAbortDefrost_reports (h : c.Reported s.cond) : c.Reported (orderAbortDefrost s).2.cond := by
  have hbefore : c.Reported (abortBeforeHeat s).cond := leaveDefrost_reports h
  have hheat : c.Reported (endHeat .abort s).cond := h.of_eq (by simp)
  unfold orderAbortDefrost
  split
  · exact h
  · exact hbefore
  · dsimp only
    split
    · exact hheat
    · exact hbefore
  · exact hheat
  all_goals exact h

theorem doOrder_reports (o : Order) (h : c.Reported s.cond) : c.Reported (doOrder o s).2.cond := by
  cases o with
  | startDefrost =>
    simp only [doOrder, orderStartDefrost]
    repeat' split
    case h_1.isFalse => exact enterPending_reports h
    all_goals exact h
  | abortDefrost => exact orderAbortDefrost_reports h
  | hold =>
    simp only [doOrder, orderHold]
    split
    · exact h
    · exact claimService_reports h
  | release =>
    simp only [doOrder, orderRelease]
    split
    · exact endService_reports h
    · exact h
  | clearFault =>
    simp only [doOrder, orderClearFault]
    split
    · exact clearLockout_reports h
    · exact h
  | restart => exact h
  | planCommit => exact commitPlan_reports h
  | curveCommit =>
    simp only [doOrder, orderCurveCommit]
    split <;> exact h

theorem applyDrive_cond (fresh chill fan compressor heater : Int) :
    (applyDrive fresh chill fan compressor heater s).cond = s.cond := by
  unfold applyDrive driveHeater driveComp driveFan driveDamper
  repeat' split
  all_goals simp

end

end Sys2Proof.Machine

/-! ATTN and the unused bits of the condition sets (R169, R171) across requests and resets, and so across every step. -/

namespace Sys2Proof.Machine

/-- From `s` to `t` ATTN goes on following the masked deltas, and the unused bits stay clear. -/
structure ConditionLawsKept (s t : State) : Prop where
  attn : AttnLaw s → AttnLaw t
  bits : ConditionBitsLaw s → ConditionBitsLaw t

namespace ConditionLawsKept

variable {s t u : State}

theorem trans (h₁ : ConditionLawsKept s t) (h₂ : ConditionLawsKept t u) : ConditionLawsKept s u :=
  ⟨h₂.attn ∘ h₁.attn, h₂.bits ∘ h₁.bits⟩

/-- An effect that only reports. -/
theorem of_reports (h : s.cond.Reported t.cond) : ConditionLawsKept s t := ⟨h.attnFollows, h.unusedBitsClear⟩

/-- An effect that leaves the Condition Unit. -/
theorem of_eq (h : t.cond = s.cond) : ConditionLawsKept s t := of_reports (h ▸ .refl)

end ConditionLawsKept

open ConditionLawsKept

section

variable (s : State)

/-! ### Requests (R169, R170) -/

/-- R178: a NOTE that begins leaves the sets and ATTN. -/
theorem startNote_conditionLaws : ConditionLawsKept s (startNote s) := by
  unfold startNote
  dsimp only
  repeat' split
  all_goals exact ⟨id, id⟩

/-- R169: CLEAR_DELTAS clears deltas and re-evaluates ATTN. -/
theorem performClearDeltas_conditionLaws (v : Set32) : ConditionLawsKept s (performClearDeltas v s).2 := by
  refine ⟨fun _ => Conditions.refreshAttn_attn_iff _, fun h => ⟨h.1, fun n hn => ?_⟩⟩
  show (s.cond.deltas &&& ~~~(v &&& conditionBits)).getLsbD n = false
  rw [BitVec.getLsbD_and, h.2 n hn, Bool.false_and]

/-- R170: NOTIFY_MASK replaces the mask and re-evaluates ATTN. -/
theorem performNotifyMask_conditionLaws (m : Set32) : ConditionLawsKept s (performNotifyMask m s).2 :=
  ⟨fun _ => Conditions.refreshAttn_attn_iff _, id⟩

theorem performServiceDrive_cond (fresh chill fan compressor heater : Int) :
    (performServiceDrive fresh chill fan compressor heater s).2.cond = s.cond := by
  unfold performServiceDrive
  split
  · rfl
  · exact applyDrive_cond fresh chill fan compressor heater

theorem perform_conditionLaws (r : Request) : ConditionLawsKept s (perform r s).2 := by
  cases r with
  | set i v => exact of_reports (performSet_reports i _ .refl)
  | order code =>
    simp only [perform, performOrder]
    split
    · simpa only [setAnswer_snd] using of_reports (doOrder_reports _ .refl)
    · exact of_eq rfl
  | clearDeltas v => exact performClearDeltas_conditionLaws s v
  | notifyMask m => exact performNotifyMask_conditionLaws s m
  | serviceDrive a b c d e => exact of_eq (performServiceDrive_cond s _ _ _ _ _)
  | planStage e a b c d =>
    simp only [perform, performPlanStage]
    split <;> exact of_eq rfl
  | curveLoad i vs =>
    simp only [perform, performCurveLoad]
    split <;> exact of_eq rfl
  | get i =>
    simp only [perform, performGet]
    repeat' split
    all_goals exact of_eq rfl
  | zoneView z =>
    simp only [perform, performZoneView]
    split <;> exact of_eq rfl
  | planView p =>
    simp only [perform, performPlanView]
    repeat' split
    all_goals exact of_eq rfl
  | counterView i =>
    simp only [perform, performCounterView]
    split <;> exact of_eq rfl
  | ident => exact of_eq rfl
  | conditions => exact of_eq rfl
  | stackView => exact of_eq rfl

/-! ### Resets (R173) -/

/-- R173: after a reset the RESTARTED delta stands alone under a mask of ones, with ATTN asserted. -/
theorem Conditions.cleared_attnFollows (levels : Set32) : (Conditions.cleared levels).AttnFollows :=
  ⟨fun _ => ⟨26, le_rfl, (restarted_delta 26).trans rfl, (by decide : (0xFFFFFFFF#32).getLsbD 26 = true)⟩, fun _ => rfl⟩

/-- R173: the levels of a WARM restart are those of COMP_FAULT and COMP_LOCKOUT at most. -/
theorem Conditions.cleared_unusedBitsClear (lockout : Bool) :
    (Conditions.cleared (levelsAfterWarm lockout)).UnusedBitsClear := by
  refine ⟨fun n hn => ?_, reset_conditionBitsLaw.2⟩
  show (levelsAfterWarm lockout).getLsbD n = false
  cases lockout with
  | false => exact BitVec.getLsbD_zero
  | true =>
    have hfault : n ≠ Cond.id .compFault := by simp only [Cond.id]; omega
    have hlockout : n ≠ Cond.id .compLockout := by simp only [Cond.id]; omega
    simp [levelsAfterWarm, getLsbD_putBit, hfault, hlockout]

theorem fullReset_conditionLaws (lines : DoorLines) : ConditionLawsKept s (fullReset lines s) :=
  ⟨fun _ => Conditions.cleared_attnFollows _, fun _ => reset_conditionBitsLaw⟩

theorem warmReset_conditionLaws (lines : DoorLines) : ConditionLawsKept s (warmReset lines s) := by
  obtain ⟨-, -, -, -, -, -, -, -, hcond, -⟩ := giveIdleEntry_keeps (warmRestored lines s)
  rw [show giveIdleEntry (warmRestored lines s) = warmReset lines s from rfl] at hcond
  refine ⟨fun _ => ?_, fun _ => ?_⟩
  · rw [attnLaw_iff, hcond]
    exact Conditions.cleared_attnFollows _
  · rw [conditionBitsLaw_iff, hcond]
    exact Conditions.cleared_unusedBitsClear _

/-! ### The step -/

/-- The laws hold across every effect that a step is made of. -/
theorem conditionLaws_effectsKeep : EffectsKeep ConditionLawsKept where
  refl _ := of_eq rfl
  trans := .trans
  pending _ _ := of_eq rfl
  own _ _ := of_eq rfl
  counter _ _ _ _ := of_eq rfl
  link _ _ := of_eq rfl
  offer _ f := of_reports (offerFrame_reports f .refl)
  note := startNote_conditionLaws
  request := perform_conditionLaws
  full := fullReset_conditionLaws
  warm := warmReset_conditionLaws
  expiry _ i := of_reports (onExpiry_reports i .refl)
  round _ sets := of_reports (onRound_reports sets .refl)
  ramp _ := of_eq (by simp)
  due _ := of_reports (dueCheck_reports .refl)
  carry _ := of_reports (onRunsecCarry_reports .refl)
  ajar _ d := of_reports (checkAjar_reports d .refl)
  overflow _ := of_reports (onTachOverflow_reports .refl)
  edge _ := of_eq (by simp)
  kickEnd _ := of_eq (by simp)
  fanRetry _ := of_eq (by simp)
  provingEnd _ := of_reports (onProvingEnd_reports .refl)
  arrives _ d := of_reports (damperArrives_reports d .refl)
  homed _ d := of_reports (homingEnds_reports d .refl)
  drive _ d := of_reports (damperTick_reports d .refl)
  opening _ d := of_reports (onOpening_reports d .refl)
  close _ d := of_reports (onClose_reports d .refl)
  time _ := of_eq rfl
  conversion s := by
    unfold takeConversion
    split <;> exact of_eq rfl

end

/-- Settles O55: both laws hold across every effect, and so across every step. -/
theorem everyStepKeepsAttn : Obligations.EveryStepKeepsAttn :=
  ⟨fun s t k h => (conditionLaws_effectsKeep.step s t h).attn k,
    fun s t k h => (conditionLaws_effectsKeep.step s t h).bits k⟩

end Sys2Proof.Machine

/-! The transmitter (R172, R178): the pending NOTE that begins or is dropped, the oldest reply, and the end of a frame. -/

namespace Sys2Proof.Machine

section

variable {s : State}

/-! ### NOTE and reply (R172, R178) -/

theorem startNote_of_none_pending (h : s.cond.notePending = false) : startNote s = s := by simp [startNote, h]

theorem startNote_of_sending {x : Sending} (h : s.link.tx = some x) : startNote s = s := by simp [startNote, h]

/-- R172: with no masked delta left the pending NOTE is dropped. -/
theorem startNote_of_no_masked (htx : s.link.tx = none) (hr : s.link.replies = []) (hp : s.cond.notePending = true)
    (hm : s.cond.maskedDeltas = 0#32) : startNote s = { s with cond := { s.cond with notePending := false } } := by
  simp [startNote, htx, hr, hp, hm]

/-- R172: the body of a NOTE is built as it begins. -/
theorem startNote_of_masked (htx : s.link.tx = none) (hr : s.link.replies = []) (hp : s.cond.notePending = true)
    (hm : s.cond.maskedDeltas ≠ 0#32) :
    startNote s =
      { s with
        link :=
          { s.link with
            tx := some ⟨⟨0x40#8, 0x00#8, setBytes s.cond.levels ++ setBytes s.cond.maskedDeltas⟩, 0⟩ }
        cond := { s.cond with notePending := false } } := by
  unfold startNote
  rw [if_pos ⟨htx, hr, hp⟩]
  exact if_neg hm

theorem startReply_of_idle {f : Frame} {rest : List Frame} (htx : s.link.tx = none) (hr : s.link.replies = f :: rest) :
    startReply s = { s with link := { s.link with tx := some ⟨f, 0⟩, replies := rest } } := by
  simp [startReply, htx, hr, send, State.onLink]

theorem startReply_of_sending {x : Sending} (h : s.link.tx = some x) : startReply s = s := by simp [startReply, h]

/-! ### The end of a frame (R178) -/

/-- A FRAME_SENT that finds the transmitter idle is no end of a frame (log 2). -/
theorem frameEnds_of_idle (h : s.link.tx = none) : frameEnds s = finish s := by simp [frameEnds, h]

theorem frameEnds_of_sending {x : Sending} (h : s.link.tx = some x)
    (hr : ¬ (s.link.restarting = true ∧ s.link.replies = [])) :
    frameEnds s = finish { s with link := { s.link with tx := none } } := by
  unfold frameEnds
  rw [h]
  exact if_neg hr

/-- R178: a free transmitter begins the oldest reply, before any NOTE (log 4). -/
theorem finish_of_reply {f : Frame} {rest : List Frame} (hq : s.own.signalled = []) (hreq : s.link.requests = [])
    (htx : s.link.tx = none) (hr : s.link.replies = f :: rest) :
    finish s = { s with link := { s.link with tx := some ⟨f, 0⟩, replies := rest } } := by
  rw [finish_of_noRequests s hreq, drainAll_of_quiet s hq, startReply_of_idle htx hr]
  exact startNote_of_sending rfl

/-! ### IDENT taken from the buffer (R177, R188) -/

/-- R188: the reply to an IDENT. -/
def identReply (tag : Byte) (s : State) : Frame :=
  ⟨0x81#8, tag, [0x00#8, 0x3C#8, 0x01#8, byteOf s.settings.profile, flagByte s.scanner.loaded]⟩

theorem takeFrame_ident (tag : Byte) :
    takeFrame (Request.frame tag .ident) s =
      { s with link := { s.link with replies := s.link.replies ++ [identReply tag s] } } := by
  have hp : performFrame (Request.frame tag .ident) s = performIdent s := by
    simp only [performFrame, checkFrame_of_read tag .ident rfl rfl, perform]
  rw [takeFrame, hp]
  rfl

/-- R177: with the transmitter busy and room in the reply queue, the waiting IDENT is taken. -/
theorem execute_ident (tag : Byte) {x : Sending} (hq : s.own.signalled = []) (htx : s.link.tx = some x)
    (hreq : s.link.requests = [Request.frame tag .ident]) (hf : s.executorFree = true) :
    execute 1 s =
      { s with link := { s.link with requests := [], replies := s.link.replies ++ [identReply tag s] } } := by
  simp only [execute, hreq, hf, if_true, takeFrame_ident]
  refine Eq.trans (congrArg startReply (drainAll_of_quiet _ ?_)) (startReply_of_sending (x := x) ?_)
  · exact hq
  · exact htx

/-- R177, R178: the oldest reply begins, which makes room for the IDENT that waits. -/
theorem finish_of_waiting_ident {r1 r2 r3 r4 : Frame} (tag : Byte) (hq : s.own.signalled = []) (htx : s.link.tx = none)
    (hr : s.link.replies = [r1, r2, r3, r4]) (hreq : s.link.requests = [Request.frame tag .ident])
    (hre : s.link.restarting = false) :
    finish s =
      { s with
        link := { s.link with requests := [], tx := some ⟨r1, 0⟩, replies := [r2, r3, r4, identReply tag s] } } := by
  have hbegun := startReply_of_idle htx hr
  generalize hu : ({ s with link := { s.link with tx := some ⟨r1, 0⟩, replies := [r2, r3, r4] } } : State) = u at hbegun
  have hufree : u.executorFree = true := by
    rw [← hu]
    simp [State.executorFree, hre]
  have hlen : u.link.requests = [Request.frame tag .ident] := by rw [← hu]; exact hreq
  have hone : execute u.link.requests.length u = execute 1 u := by rw [hlen]; rfl
  unfold finish runLink
  dsimp only
  have htaken := execute_ident (s := u) (x := ⟨r1, 0⟩) tag (by rw [← hu]; exact hq) (by rw [← hu]) hlen hufree
  rw [drainAll_of_quiet s hq, hbegun, hone, htaken, ← hu]
  exact startNote_of_sending rfl

end

/-- Settles O8: the idle transmitter, the oldest reply, the pending NOTE, and the IDENT that waits for room. -/
theorem frameSentBeginsTheNext : Obligations.FrameSentBeginsTheNext := by
  have hexec : ∀ {s t : State}, frameEnds s = t → exec .frameSent s = .next t := fun h => congrArg Host.Outcome.next h
  refine ⟨fun s hq hreq => ⟨fun htx hr hp => hexec ?_, fun htx hr _ => hexec ?_, fun x f rest htx hr => hexec ?_,
    fun x htx hr hre => ?_⟩, fun s x r1 r2 r3 r4 tag hq htx hr hreq hre => hexec ?_⟩
  · rw [frameEnds_of_idle htx, finish_of_settled s ⟨hq, .inl hreq, fun _ => hr⟩]
    exact startNote_of_none_pending hp
  · rw [frameEnds_of_idle htx, finish_of_settled s ⟨hq, .inl hreq, fun _ => hr⟩]
  · rw [frameEnds_of_sending htx (by simp [hr])]
    exact finish_of_reply hq hreq rfl hr
  · have hend : frameEnds s = startNote { s with link := { s.link with tx := none } } := by
      rw [frameEnds_of_sending htx (by simp [hre])]
      exact finish_of_settled _ ⟨hq, .inl hreq, fun _ => hr⟩
    refine ⟨fun hp => hexec (hend.trans ?_), fun hp hm => hexec (hend.trans ?_), fun hp hm => hexec (hend.trans ?_)⟩
    · exact startNote_of_none_pending hp
    · exact startNote_of_no_masked rfl hr hp hm
    · exact startNote_of_masked rfl hr hp hm
  · rw [frameEnds_of_sending htx (by simp [hre])]
    exact finish_of_waiting_ident tag hq rfl hr hreq hre

end Sys2Proof.Machine

/-! CLEAR_DELTAS and NOTIFY_MASK (R169, R170). -/

namespace Sys2Proof.Machine

section

variable (c : Conditions) (n : Nat)

/-! ### CLEAR_DELTAS (R169) -/

theorem Conditions.clearDeltas_getLsbD (v : Set32) :
    (c.clearDeltas v).deltas.getLsbD n =
      (c.deltas.getLsbD n && (decide (n < 32) && !(v.getLsbD n && decide (n ≤ 26)))) := by
  show (c.deltas &&& ~~~(v &&& conditionBits)).getLsbD n = _
  simp only [BitVec.getLsbD_and, BitVec.getLsbD_not, conditionBits_getLsbD]

theorem Conditions.clearDeltas_getLsbD_of_le (v : Set32) (hn : n ≤ 26) :
    (c.clearDeltas v).deltas.getLsbD n = (c.deltas.getLsbD n && !v.getLsbD n) := by
  rw [clearDeltas_getLsbD, decide_eq_true hn, decide_eq_true (by omega : n < 32), Bool.and_true, Bool.true_and]

/-- R165, R169: a bit that names no condition is not cleared. -/
theorem Conditions.clearDeltas_getLsbD_of_ge (v : Set32) (hn : 27 ≤ n) :
    (c.clearDeltas v).deltas.getLsbD n = c.deltas.getLsbD n := by
  rw [clearDeltas_getLsbD, decide_eq_false (by omega : ¬ n ≤ 26), Bool.and_false, Bool.not_false, Bool.and_true]
  by_cases h : n < 32
  · rw [decide_eq_true h, Bool.and_true]
  · rw [BitVec.getLsbD_of_ge _ _ (by omega), Bool.false_and]

/-! ### NOTIFY_MASK (R170) -/

/-- R170, R172: a bit that goes from 0 to 1 over a set delta makes a NOTE pending. -/
theorem Conditions.setMask_notePending_iff (m : Set32) :
    (c.setMask m).notePending = true ↔ c.notePending = true ∨
      ∃ n : Nat, n ≤ 26 ∧ m.getLsbD n = true ∧ c.mask.getLsbD n = false ∧ c.deltas.getLsbD n = true := by
  have hbits : (m &&& ~~~c.mask &&& c.deltas &&& conditionBits) ≠ 0#32 ↔
      ∃ n : Nat, n ≤ 26 ∧ m.getLsbD n = true ∧ c.mask.getLsbD n = false ∧ c.deltas.getLsbD n = true := by
    rw [Set32.ne_zero_iff]
    refine exists_congr fun n => ?_
    by_cases hn : n ≤ 26
    · simp [conditionBits_getLsbD, hn, show n < 32 by omega, and_assoc]
    · simp [conditionBits_getLsbD, hn]
  rw [← hbits, ← bne_iff_ne, ← Bool.or_eq_true]
  rfl

end

/-- R181: a 32-bit set is read back from its frame. -/
theorem checkFrame_clearDeltas (tag : Byte) (v : Set32) :
    checkFrame (Request.frame tag (.clearDeltas v)) = .request (.clearDeltas v) :=
  checkFrame_of_read tag _ rfl (congrArg (some ∘ Request.clearDeltas) (joinSet_setBytes v))

theorem checkFrame_notifyMask (tag : Byte) (m : Set32) :
    checkFrame (Request.frame tag (.notifyMask m)) = .request (.notifyMask m) :=
  checkFrame_of_read tag _ rfl (congrArg (some ∘ Request.notifyMask) (joinSet_setBytes m))

/-- Settles O31: each request is taken and answered; the bits of its set, and ATTN re-evaluated. -/
theorem clearDeltasAndNotifyMask : Obligations.ClearDeltasAndNotifyMask := by
  refine ⟨fun tag v s ha => ?_, fun tag m s ha => ?_⟩
  · refine ⟨(s.cond.clearDeltas v).deltas, (s.cond.clearDeltas v).attn, ?_,
      fun n hn => s.cond.clearDeltas_getLsbD_of_le n v hn, fun n hn => s.cond.clearDeltas_getLsbD_of_ge n v hn,
      Conditions.refreshAttn_attn_iff _⟩
    exact congrArg Host.Outcome.next (submit_request s tag _ ha (checkFrame_clearDeltas tag v) ha.1)
  · refine ⟨(s.cond.setMask m).attn, (s.cond.setMask m).notePending, ?_, Conditions.refreshAttn_attn_iff _,
      s.cond.setMask_notePending_iff m⟩
    exact congrArg Host.Outcome.next (submit_request s tag _ ha (checkFrame_notifyMask tag m) ha.1)

end Sys2Proof.Machine

/-! The zone alarms (R166 to R168): a reported level, the tests and the return margin, an evaluation, and the expiry of
ALM. -/

namespace Sys2Proof.Machine

section

variable (c : Conditions) (i : Cond) (b : Bool)

/-! ### A reported level (R166) -/

theorem Conditions.setLevel_frame :
    (c.setLevel i b).mask = c.mask ∧ (c.setLevel i b).alarms = c.alarms ∧
      (c.setLevel i b).defrostHolds = c.defrostHolds := by
  unfold Conditions.setLevel
  split <;> exact ⟨rfl, rfl, rfl⟩

/-- The alarms' records go on beside a report. -/
theorem Conditions.setLevel_withAlarms (a : PerZone AlarmRec) :
    Conditions.setLevel i b { c with alarms := a } = { c.setLevel i b with alarms := a } := by
  unfold Conditions.setLevel
  split
  · next h => rw [if_pos (by exact h)]
  · next h => rw [if_neg (by exact h)]; rfl

/-- R166, R171, R172: a level that changes is stored, sets its delta, makes a NOTE pending where the delta is new under
its mask bit, and re-evaluates ATTN. -/
theorem Conditions.setLevel_changed (h : c.level i ≠ b) :
    (c.setLevel i b).level i = b ∧ (c.setLevel i b).deltas.getLsbD i.id = true ∧
      (∀ n : Nat, n ≠ i.id → (c.setLevel i b).levels.getLsbD n = c.levels.getLsbD n ∧
        (c.setLevel i b).deltas.getLsbD n = c.deltas.getLsbD n) ∧
      ((c.setLevel i b).notePending = true ↔
        c.notePending = true ∨ (c.deltas.getLsbD i.id = false ∧ c.mask.getLsbD i.id = true)) ∧
      ((c.setLevel i b).attn = true ↔
        ∃ n : Nat, n ≤ 26 ∧ (c.setLevel i b).deltas.getLsbD n = true ∧ c.mask.getLsbD n = true) := by
  refine ⟨c.level_setLevel_self i b, ?_, fun n hn => ⟨c.setLevel_levels_getLsbD_of_ne i b n hn, ?_⟩, ?_, ?_⟩
  all_goals rw [c.setLevel_of_change i b h]
  · rw [mark_deltas_getLsbD, if_pos rfl]
  · rw [mark_deltas_getLsbD, if_neg hn]
  · rw [mark_notePending]
    simp
  · exact mark_attn_iff _ i

end

section

variable (s : State) (z : Zone) (cause : AlarmCause)

theorem State.setLevel_of_level (i : Cond) (b : Bool) (h : s.level i = b) : s.setLevel i b = s := by
  rw [State.setLevel, s.cond.setLevel_of_level i b h]

@[simp] theorem State.alarm_setLevel (i : Cond) (b : Bool) : (s.setLevel i b).alarm z = s.alarm z :=
  congrArg (PerZone.get · z) (s.cond.setLevel_frame i b).2.1

/-! ### The tests and the return margin (R167, R168) -/

/-- R167: a good sample back inside the margin of 20 dC of the warm limit. -/
def State.warmBack : Bool :=
  match cause, (s.alarm z).tfInUse with
  | .goodSample, some t => decide (t ≤ s.sEff z + s.eff (.alarmHi z) - 20)
  | _, _ => false

/-- R168: a good sample back inside the margin of 20 dC of the cold limit. -/
def State.coldBack : Bool :=
  match cause, (s.alarm z).tfInUse with
  | .goodSample, some t => decide (s.sEff z - s.eff (.alarmLo z) + 20 ≤ t)
  | _, _ => false

theorem State.warmBack_iff :
    s.warmBack z cause = true ↔
      cause = .goodSample ∧ ∃ t ∈ (s.alarm z).tfInUse, t ≤ s.sEff z + s.eff (.alarmHi z) - 20 := by
  unfold State.warmBack
  cases cause <;> cases (s.alarm z).tfInUse <;> simp

theorem State.coldBack_iff :
    s.coldBack z cause = true ↔
      cause = .goodSample ∧ ∃ t ∈ (s.alarm z).tfInUse, s.sEff z - s.eff (.alarmLo z) + 20 ≤ t := by
  unfold State.coldBack
  cases cause <;> cases (s.alarm z).tfInUse <;> simp

theorem State.warmTest_iff :
    s.warmTest z cause = true ↔
      (s.zone z).warmArmed = true ∧ s.mode z ≠ .off ∧ (s.zone z).subst = .absent ∧ s.cond.defrostHolds = false ∧
        cause ≠ .badSample ∧ ∃ t ∈ (s.alarm z).tfInUse, s.sEff z + s.eff (.alarmHi z) ≤ t := by
  unfold State.warmTest
  cases (s.alarm z).tfInUse <;> simp [and_assoc]

theorem State.coldTest_iff :
    s.coldTest z cause = true ↔
      s.mode z ≠ .off ∧ cause ≠ .badSample ∧ ∃ t ∈ (s.alarm z).tfInUse, t ≤ s.sEff z - s.eff (.alarmLo z) := by
  unfold State.coldTest
  cases (s.alarm z).tfInUse <;> simp [and_assoc]

/-- R167: a temperature at the warm limit is not back inside the margin. -/
theorem State.warmBack_of_test (h : s.warmTest z cause = true) : s.warmBack z cause = false := by
  obtain ⟨-, -, -, -, -, t, ht, hle⟩ := (s.warmTest_iff z cause).mp h
  refine Bool.eq_false_iff.mpr fun hback => ?_
  obtain ⟨-, u, hu, hge⟩ := (s.warmBack_iff z cause).mp hback
  have : t = u := Option.mem_unique ht hu
  omega

theorem State.coldBack_of_test (h : s.coldTest z cause = true) : s.coldBack z cause = false := by
  obtain ⟨-, -, t, ht, hle⟩ := (s.coldTest_iff z cause).mp h
  refine Bool.eq_false_iff.mpr fun hback => ?_
  obtain ⟨-, u, hu, hge⟩ := (s.coldBack_iff z cause).mp hback
  have : t = u := Option.mem_unique ht hu
  omega

/-! ### What the alarms read -/

/-- What the tests and the margins read stands as it did. -/
def AlarmReadsSame (s t : State) (z : Zone) : Prop :=
  t.zones = s.zones ∧ t.settings = s.settings ∧ t.cond.defrostHolds = s.cond.defrostHolds ∧
    (t.alarm z).tfInUse = (s.alarm z).tfInUse

variable {s z} in
theorem AlarmReadsSame.tests {t : State} (h : AlarmReadsSame s t z) (cause : AlarmCause) :
    t.warmTest z cause = s.warmTest z cause ∧ t.coldTest z cause = s.coldTest z cause ∧
      t.warmBack z cause = s.warmBack z cause ∧ t.coldBack z cause = s.coldBack z cause := by
  obtain ⟨hzones, hset, hholds, htf⟩ := h
  have heff : t.eff = s.eff := by
    funext i
    rw [State.eff, State.eff, hset]
  simp only [State.warmTest, State.coldTest, State.warmBack, State.coldBack, State.sEff, State.mode, State.zone, heff,
    hzones, hholds, htf]
  exact ⟨rfl, rfl, rfl, rfl⟩

theorem setLevel_alarmReads (i : Cond) (b : Bool) : AlarmReadsSame s (s.setLevel i b) z :=
  ⟨rfl, rfl, (s.cond.setLevel_frame i b).2.2, by rw [State.alarm_setLevel]⟩

theorem alarm_stopAlarm : (stopAlarm z s).alarm z = { s.alarm z with almFor := .none } := PerZone.get_set_self _ _ _

theorem alarm_startAlarm (what : AlmFor) (h : s.alarmLength ≠ 0) :
    (startAlarm z what s).alarm z = { s.alarm z with almFor := what } := by
  rw [startAlarm, s.restartC_eq _ _ h (.inl rfl)]
  exact PerZone.get_set_self _ _ _

theorem stopAlarm_alarmReads : AlarmReadsSame s (stopAlarm z s) z :=
  ⟨rfl, rfl, rfl, by rw [alarm_stopAlarm]⟩

/-! ### The operations on a timing (R153, R167) -/

theorem stopAlarm_eq :
    stopAlarm z s =
      { s with
        bank := s.bank.set (.alm z) (s.counter (.alm z)).stop
        cond := { s.cond with alarms := s.cond.alarms.set z { s.alarm z with almFor := .none } } } := rfl

theorem startAlarm_eq (what : AlmFor) (h : s.alarmLength ≠ 0) :
    startAlarm z what s =
      { s with
        bank := s.bank.set (.alm z) ((s.counter (.alm z)).timing s.alarmLength)
        cond := { s.cond with alarms := s.cond.alarms.set z { s.alarm z with almFor := what } } } := by
  rw [startAlarm, s.restartC_eq _ _ h (.inl rfl)]
  rfl

/-- R153: a start ends the timing that stood, so a stop before it leaves no trace. -/
theorem startAlarm_stopAlarm (what : AlmFor) (h : s.alarmLength ≠ 0) :
    startAlarm z what (stopAlarm z s) = startAlarm z what s := by
  rw [startAlarm_eq _ _ _ h, startAlarm_eq _ _ _ (by exact h), stopAlarm_eq]
  simp [State.counter, State.alarm, Counter.timing_stop, State.alarmLength, State.effN, State.eff]

/-! ### A report beside a timing -/

theorem stopAlarm_setLevel (i : Cond) (b : Bool) : stopAlarm z (s.setLevel i b) = (stopAlarm z s).setLevel i b := by
  rw [stopAlarm_eq, stopAlarm_eq, State.alarm_setLevel]
  simp only [State.setLevel, Conditions.setLevel_withAlarms, s.cond.setLevel_frame i b]
  rfl

theorem startAlarm_setLevel (what : AlmFor) (i : Cond) (b : Bool) (h : s.alarmLength ≠ 0) :
    startAlarm z what (s.setLevel i b) = (startAlarm z what s).setLevel i b := by
  rw [startAlarm_eq _ _ _ h, startAlarm_eq _ _ _ (by exact h), State.alarm_setLevel]
  simp only [State.setLevel, Conditions.setLevel_withAlarms, s.cond.setLevel_frame i b]
  rfl

/-! ### Steps 2 and 3 of the warm and the cold steps (R167, R168) -/

section

variable {s z cause}

theorem warmTiming_of_start (ht : s.warmTest z cause = true) (hl : s.level (.zoneWarm z) = false) :
    warmTiming z cause s = if (s.alarm z).almFor = .warm then s else startAlarm z .warm s := by
  simp [warmTiming, ht, hl]

theorem warmTiming_of_stop (ht : s.warmTest z cause = false) (ha : (s.alarm z).almFor = .warm) :
    warmTiming z cause s = stopAlarm z s := by
  simp [warmTiming, ht, ha]

theorem warmTiming_of_still (h : s.warmTest z cause = false ∨ s.level (.zoneWarm z) = true)
    (ha : (s.alarm z).almFor = .warm → s.warmTest z cause = true) : warmTiming z cause s = s := by
  unfold warmTiming
  by_cases ht : s.warmTest z cause = true
  · simp [ht, h.resolve_left (by simp [ht])]
  · have hne : (s.alarm z).almFor ≠ .warm := fun he => ht (ha he)
    simp [ht, hne]

theorem coldTiming_of_start (ht : s.coldTest z cause = true) (hl : s.level (.zoneCold z) = false)
    (ha : (s.alarm z).almFor = .none) : coldTiming z cause s = startAlarm z .cold s := by
  simp [coldTiming, ht, hl, ha]

theorem coldTiming_of_stop (ht : s.coldTest z cause = false) (ha : (s.alarm z).almFor = .cold) :
    coldTiming z cause s = stopAlarm z s := by
  simp [coldTiming, ht, ha]

/-- R168: the cold steps leave a warm timing alone, a cold one whose test is true, and no timing where none begins. -/
theorem coldTiming_of_still (hc : (s.alarm z).almFor = .cold → s.coldTest z cause = true)
    (hn : (s.alarm z).almFor = .none → s.coldTest z cause = false ∨ s.level (.zoneCold z) = true) :
    coldTiming z cause s = s := by
  unfold coldTiming
  cases ha : (s.alarm z).almFor with
  | warm => simp [ha]
  | cold => simp [ha, hc ha]
  | none => rcases hn ha with h | h <;> simp [ha, h]

end

/-! ### An evaluation (R167, R168) -/

/-- R167, R168: the levels after step 1 of both alarms. -/
def State.alarmLevels : Conditions :=
  (s.cond.setLevel (.zoneWarm z) (s.level (.zoneWarm z) && !s.warmBack z cause)).setLevel (.zoneCold z)
    (s.level (.zoneCold z) && !s.coldBack z cause)

/-- Step 1 of both alarms. -/
def State.alarmsReturned : State := { s with cond := s.alarmLevels z cause }

/-- Step 1 of the warm steps. -/
def State.warmReturned : State := s.setLevel (.zoneWarm z) (s.level (.zoneWarm z) && !s.warmBack z cause)

theorem warmDeassert_eq : warmDeassert z cause s = s.warmReturned z cause := by
  have hsame : s.setLevel (.zoneWarm z) (s.level (.zoneWarm z)) = s := s.setLevel_of_level _ _ rfl
  unfold warmDeassert State.warmReturned State.warmBack
  cases cause <;> cases (s.alarm z).tfInUse <;> simp only [Bool.not_false, Bool.and_true, hsame]
  split
  · next h => simp [h]
  · next h => simp [h, hsame]

theorem coldDeassert_eq :
    coldDeassert z cause s = s.setLevel (.zoneCold z) (s.level (.zoneCold z) && !s.coldBack z cause) := by
  have hsame : s.setLevel (.zoneCold z) (s.level (.zoneCold z)) = s := s.setLevel_of_level _ _ rfl
  unfold coldDeassert State.coldBack
  cases cause <;> cases (s.alarm z).tfInUse <;> simp only [Bool.not_false, Bool.and_true, hsame]
  split
  · next h => simp [h]
  · next h => simp [h, hsame]

theorem alarmsReturned_eq :
    s.alarmsReturned z cause =
      (s.warmReturned z cause).setLevel (.zoneCold z) (s.level (.zoneCold z) && !s.coldBack z cause) := rfl

theorem alarmLevels_alarms : (s.alarmLevels z cause).alarms = s.cond.alarms :=
  (Conditions.setLevel_frame _ _ _).2.1.trans (Conditions.setLevel_frame _ _ _).2.1

theorem alarms_alarmsReturned : (s.alarmsReturned z cause).cond.alarms = s.cond.alarms := alarmLevels_alarms s z cause

theorem alarm_alarmsReturned : (s.alarmsReturned z cause).alarm z = s.alarm z :=
  congrArg (PerZone.get · z) (alarmLevels_alarms s z cause)

/-- The tests are those of the sample, whatever step 1 has made of the levels. -/
theorem alarmsReturned_reads : AlarmReadsSame s (s.alarmsReturned z cause) z := by
  have hholds := (Conditions.setLevel_frame s.cond (.zoneWarm z) (s.level (.zoneWarm z) && !s.warmBack z cause)).2.2
  exact ⟨rfl, rfl, (Conditions.setLevel_frame _ _ _).2.2.trans hholds, by rw [alarm_alarmsReturned]⟩

theorem level_warm_alarmsReturned :
    (s.alarmsReturned z cause).level (.zoneWarm z) = (s.level (.zoneWarm z) && !s.warmBack z cause) := by
  have hne : Cond.zoneWarm z ≠ .zoneCold z := nofun
  rw [alarmsReturned_eq, State.level_setLevel_of_ne _ _ _ _ hne, State.warmReturned, State.level_setLevel_self]

theorem level_cold_alarmsReturned :
    (s.alarmsReturned z cause).level (.zoneCold z) = (s.level (.zoneCold z) && !s.coldBack z cause) := by
  rw [alarmsReturned_eq, State.level_setLevel_self]

variable {s z cause}

/-- R167: the warm steps leave the timing, stop it, or start it for WARM. -/
theorem warmTiming_cases :
    warmTiming z cause s = s ∨ warmTiming z cause s = stopAlarm z s ∨ warmTiming z cause s = startAlarm z .warm s := by
  cases ht : s.warmTest z cause with
  | true =>
    cases hl : s.level (.zoneWarm z) with
    | true => exact .inl (warmTiming_of_still (.inr hl) fun _ => ht)
    | false =>
      rw [warmTiming_of_start ht hl]
      split
      · exact .inl rfl
      · exact .inr (.inr rfl)
  | false =>
    by_cases ha : (s.alarm z).almFor = .warm
    · exact .inr (.inl (warmTiming_of_stop ht ha))
    · exact .inl (warmTiming_of_still (.inl ht) fun h => absurd h ha)

/-- R167: the warm steps leave every level, and what the cold steps read. -/
theorem warmTiming_reads (h : s.alarmLength ≠ 0) :
    AlarmReadsSame s (warmTiming z cause s) z ∧ ∀ i, (warmTiming z cause s).level i = s.level i := by
  rcases warmTiming_cases (s := s) (z := z) (cause := cause) with he | he | he <;> rw [he]
  · exact ⟨⟨rfl, rfl, rfl, rfl⟩, fun _ => rfl⟩
  · exact ⟨stopAlarm_alarmReads s z, fun _ => rfl⟩
  · refine ⟨⟨?_, ?_, ?_, by rw [alarm_startAlarm _ _ _ h]⟩, fun i => ?_⟩
    all_goals rw [startAlarm_eq _ _ _ h]
    rfl

/-- The cold level may be reported before the warm steps or after them. -/
theorem warmTiming_setLevel_cold (b : Bool) (h : s.alarmLength ≠ 0) :
    warmTiming z cause (s.setLevel (.zoneCold z) b) = (warmTiming z cause s).setLevel (.zoneCold z) b := by
  obtain ⟨htest, -⟩ := (setLevel_alarmReads s z (.zoneCold z) b).tests cause
  have halarm := s.alarm_setLevel z (.zoneCold z) b
  have hne : Cond.zoneWarm z ≠ .zoneCold z := nofun
  have hlevel : (s.setLevel (.zoneCold z) b).level (.zoneWarm z) = s.level (.zoneWarm z) :=
    s.level_setLevel_of_ne _ _ b hne
  cases ht : s.warmTest z cause with
  | true =>
    cases hl : s.level (.zoneWarm z) with
    | true =>
      rw [warmTiming_of_still (.inr (hlevel.trans hl)) fun _ => htest.trans ht, warmTiming_of_still (.inr hl) fun _ => ht]
    | false =>
      rw [warmTiming_of_start (htest.trans ht) (hlevel.trans hl), warmTiming_of_start ht hl, halarm]
      split
      · rfl
      · exact startAlarm_setLevel _ _ _ _ _ h
  | false =>
    by_cases ha : (s.alarm z).almFor = .warm
    · rw [warmTiming_of_stop (htest.trans ht) (halarm ▸ ha), warmTiming_of_stop ht ha, stopAlarm_setLevel]
    · rw [warmTiming_of_still (.inl (htest.trans ht)) fun he => absurd (halarm ▸ he) ha,
        warmTiming_of_still (.inl ht) fun he => absurd he ha]

/-- R167, R168: step 1 of both alarms, then the timings of the warm and of the cold alarm. -/
theorem evalAlarm_eq (hs : SettingsLaw s) :
    evalAlarm z cause s = coldTiming z cause (warmTiming z cause (s.alarmsReturned z cause)) := by
  have hlen : (s.warmReturned z cause).alarmLength ≠ 0 := hs.lengths.2.2.1
  have hne : Cond.zoneCold z ≠ .zoneWarm z := nofun
  have hlevel : (s.warmReturned z cause).level (.zoneCold z) = s.level (.zoneCold z) :=
    s.level_setLevel_of_ne _ _ _ hne
  obtain ⟨hreads, hlevels⟩ := warmTiming_reads (z := z) (cause := cause) hlen
  obtain ⟨-, -, -, hback⟩ := hreads.tests cause
  obtain ⟨-, -, -, hsame⟩ : _ ∧ _ ∧ _ ∧ (s.warmReturned z cause).coldBack z cause = s.coldBack z cause :=
    (setLevel_alarmReads s z _ _).tests cause
  rw [evalAlarm, warmDeassert_eq, coldDeassert_eq, hlevels, hback, hsame, hlevel, alarmsReturned_eq,
    warmTiming_setLevel_cold _ hlen]

/-! ### The four ends of an evaluation (R167, R168) -/

theorem startAlarm_alarmsReturned (what : AlmFor) (hs : SettingsLaw s) :
    startAlarm z what (s.alarmsReturned z cause) =
      { s with
        bank := s.bank.set (.alm z) ((s.counter (.alm z)).timing (s.effN .alarmDelay * 60))
        cond := { s.alarmLevels z cause with alarms := s.cond.alarms.set z { s.alarm z with almFor := what } } } := by
  rw [startAlarm_eq _ _ _ (by exact hs.lengths.2.2.1), alarm_alarmsReturned, alarms_alarmsReturned]
  rfl

theorem stopAlarm_alarmsReturned :
    stopAlarm z (s.alarmsReturned z cause) =
      { s with
        bank := s.bank.set (.alm z) (s.counter (.alm z)).stop
        cond := { s.alarmLevels z cause with alarms := s.cond.alarms.set z { s.alarm z with almFor := .none } } } := by
  rw [stopAlarm_eq, alarm_alarmsReturned, alarms_alarmsReturned]
  rfl

/-- R167: a level is not returned while its test is true. -/
theorem alarmsReturned_warm_still (h : ¬ s.warmTest z cause = true ∨ s.level (.zoneWarm z) = true) :
    (s.alarmsReturned z cause).warmTest z cause = false ∨ (s.alarmsReturned z cause).level (.zoneWarm z) = true := by
  obtain ⟨htest, -⟩ := (alarmsReturned_reads s z cause).tests cause
  rw [htest, level_warm_alarmsReturned]
  cases ht : s.warmTest z cause with
  | false => exact .inl rfl
  | true => exact .inr (by rw [h.resolve_left (not_not_intro ht), s.warmBack_of_test z cause ht]; rfl)

@[inherit_doc alarmsReturned_warm_still]
theorem alarmsReturned_cold_still (h : ¬ (s.coldTest z cause = true ∧ s.level (.zoneCold z) = false)) :
    s.coldTest z cause = false ∨ (s.alarmsReturned z cause).level (.zoneCold z) = true := by
  rw [level_cold_alarmsReturned]
  cases ht : s.coldTest z cause with
  | false => exact .inl rfl
  | true =>
    have hl : s.level (.zoneCold z) = true := Bool.eq_true_of_not_eq_false fun hl => h ⟨ht, hl⟩
    exact .inr (by rw [hl, s.coldBack_of_test z cause ht]; rfl)

/-- R167: a warm timing that goes on, or begins in place of what was timed. -/
theorem evalAlarm_of_warm (hs : SettingsLaw s) (hw : s.warmTest z cause = true) (hl : s.level (.zoneWarm z) = false) :
    evalAlarm z cause s =
      { s with
        bank :=
          if (s.alarm z).almFor = .warm then s.bank
          else s.bank.set (.alm z) ((s.counter (.alm z)).timing (s.effN .alarmDelay * 60))
        cond :=
          { s.alarmLevels z cause with alarms := s.cond.alarms.set z { s.alarm z with almFor := .warm } } } := by
  obtain ⟨htest, -⟩ := (alarmsReturned_reads s z cause).tests cause
  have hlow : (s.alarmsReturned z cause).level (.zoneWarm z) = false := by rw [level_warm_alarmsReturned, hl]; rfl
  have hstill : ∀ {u : State}, (u.alarm z).almFor = .warm → coldTiming z cause u = u := fun hu =>
    coldTiming_of_still (by simp [hu]) (by simp [hu])
  rw [evalAlarm_eq hs, warmTiming_of_start (htest.trans hw) hlow, alarm_alarmsReturned]
  by_cases ha : (s.alarm z).almFor = .warm
  · have hsame : s.cond.alarms.set z { s.alarm z with almFor := .warm } = (s.alarmLevels z cause).alarms := by
      rw [← ha, alarmLevels_alarms]
      exact PerZone.set_get _ _
    rw [if_pos ha, if_pos ha, hstill ((congrArg AlarmRec.almFor (alarm_alarmsReturned s z cause)).trans ha), hsame]
    rfl
  · rw [if_neg ha, if_neg ha, hstill, startAlarm_alarmsReturned _ hs]
    rw [alarm_startAlarm _ _ _ (by exact hs.lengths.2.2.1)]

/-- R168: a cold timing begins, in place of a warm one that ends or of none. -/
theorem evalAlarm_of_cold_begins (hs : SettingsLaw s)
    (hw : ¬ s.warmTest z cause = true ∨ s.level (.zoneWarm z) = true)
    (ha : ¬ ((s.alarm z).almFor = .warm ∧ s.warmTest z cause = true)) (hn : (s.alarm z).almFor ≠ .cold)
    (hc : s.coldTest z cause = true) (hl : s.level (.zoneCold z) = false) :
    evalAlarm z cause s =
      { s with
        bank := s.bank.set (.alm z) ((s.counter (.alm z)).timing (s.effN .alarmDelay * 60))
        cond :=
          { s.alarmLevels z cause with alarms := s.cond.alarms.set z { s.alarm z with almFor := .cold } } } := by
  have hlen : (s.alarmsReturned z cause).alarmLength ≠ 0 := hs.lengths.2.2.1
  obtain ⟨hwarm, hcold, -⟩ := (alarmsReturned_reads s z cause).tests cause
  have hlow : (s.alarmsReturned z cause).level (.zoneCold z) = false := by rw [level_cold_alarmsReturned, hl]; rfl
  have halarm := alarm_alarmsReturned s z cause
  rw [evalAlarm_eq hs, ← startAlarm_alarmsReturned _ hs]
  cases hfor : (s.alarm z).almFor with
  | warm =>
    have hfalse : s.warmTest z cause = false := Bool.eq_false_iff.mpr fun ht => ha ⟨hfor, ht⟩
    obtain ⟨-, hstopped, -⟩ := (stopAlarm_alarmReads (s.alarmsReturned z cause) z).tests cause
    rw [warmTiming_of_stop (hwarm.trans hfalse) (halarm ▸ hfor),
      coldTiming_of_start (hstopped.trans (hcold.trans hc)) hlow (by rw [alarm_stopAlarm]),
      startAlarm_stopAlarm _ _ _ hlen]
  | cold => exact absurd hfor hn
  | none =>
    rw [warmTiming_of_still (alarmsReturned_warm_still hw) (by simp [halarm, hfor]),
      coldTiming_of_start (hcold.trans hc) hlow (halarm ▸ hfor)]

/-- R167, R168: a timing whose test is true goes on, and none begins where no test asks for it. -/
theorem evalAlarm_of_still (hs : SettingsLaw s) (hw : ¬ s.warmTest z cause = true ∨ s.level (.zoneWarm z) = true)
    (h : (s.alarm z).almFor = .warm ∧ s.warmTest z cause = true ∨ (s.alarm z).almFor = .cold ∧ s.coldTest z cause = true ∨
      (s.alarm z).almFor = .none ∧ ¬ (s.coldTest z cause = true ∧ s.level (.zoneCold z) = false)) :
    evalAlarm z cause s = s.alarmsReturned z cause := by
  obtain ⟨hwarm, hcold, -⟩ := (alarmsReturned_reads s z cause).tests cause
  have halarm := alarm_alarmsReturned s z cause
  have hwarmStill := alarmsReturned_warm_still hw
  rw [evalAlarm_eq hs]
  rcases h with ⟨hfor, ht⟩ | ⟨hfor, ht⟩ | ⟨hfor, hnone⟩
  · rw [warmTiming_of_still hwarmStill fun _ => hwarm.trans ht, coldTiming_of_still] <;> simp [halarm, hfor]
  · rw [warmTiming_of_still hwarmStill (by simp [halarm, hfor]), coldTiming_of_still (fun _ => hcold.trans ht)]
    simp [halarm, hfor]
  · rw [warmTiming_of_still hwarmStill (by simp [halarm, hfor]), coldTiming_of_still (by simp [halarm, hfor]) fun _ => ?_]
    rw [hcold]
    exact alarmsReturned_cold_still hnone

/-- R167, R168: a timing whose test is no longer true is stopped. -/
theorem evalAlarm_of_stop (hs : SettingsLaw s) (hw : ¬ s.warmTest z cause = true ∨ s.level (.zoneWarm z) = true)
    (h : (s.alarm z).almFor = .warm ∧ ¬ s.warmTest z cause = true ∧
        ¬ (s.coldTest z cause = true ∧ s.level (.zoneCold z) = false) ∨
      (s.alarm z).almFor = .cold ∧ ¬ s.coldTest z cause = true) :
    evalAlarm z cause s = stopAlarm z (s.alarmsReturned z cause) := by
  obtain ⟨hwarm, hcold, -⟩ := (alarmsReturned_reads s z cause).tests cause
  have halarm := alarm_alarmsReturned s z cause
  rw [evalAlarm_eq hs]
  rcases h with ⟨hfor, ht, hnone⟩ | ⟨hfor, ht⟩
  · obtain ⟨-, hstopped, -⟩ := (stopAlarm_alarmReads (s.alarmsReturned z cause) z).tests cause
    rw [warmTiming_of_stop (hwarm.trans (Bool.eq_false_iff.mpr ht)) (halarm ▸ hfor),
      coldTiming_of_still (by simp [alarm_stopAlarm]) fun _ => ?_]
    rw [hstopped, hcold]
    exact alarmsReturned_cold_still hnone
  · rw [warmTiming_of_still (alarmsReturned_warm_still hw) (by simp [halarm, hfor]),
      coldTiming_of_stop (hcold.trans (Bool.eq_false_iff.mpr ht)) (halarm ▸ hfor)]

end

/-! ### The expiry of ALM (R167, R168) -/

section

variable {s : State} {z : Zone}

/-- R167, R168: a level is asserted and the timing ended. -/
theorem setLevel_onAlarm (i : Cond) (b : Bool) (f : AlarmRec → AlarmRec) :
    (s.setLevel i b).onAlarm z f =
      { s with cond := { s.cond.setLevel i b with alarms := s.cond.alarms.set z (f (s.alarm z)) } } := by
  rw [State.onAlarm, State.alarm_setLevel, State.setLevel_cond, (s.cond.setLevel_frame i b).2.1]
  rfl

/-- R167, R168: the expiry asserts what was timed, and ends the timing. -/
theorem exec_almExpiry (hst : Settled s) (hrun : (s.counter (.alm z)).run = true) {i : Cond}
    (he : ∀ u : State, u.alarm z = s.alarm z →
      onAlmExpiry z u = (u.setLevel i true).onAlarm z fun a => { a with almFor := .none }) :
    exec (.almExpiry z) s =
      .next (startNote
        { s with
          bank := s.bank.set (.alm z) { s.counter (.alm z) with run := false, count := 0, part := 0 }
          cond := { s.cond.setLevel i true with alarms := s.cond.alarms.set z { s.alarm z with almFor := .none } } }) := by
  have hexec : exec (.almExpiry z) s = .next (finish (fireOneShot (.alm z) (onAlmExpiry z) s)) := rfl
  rw [hexec, fireOneShot_of_run _ _ _ hrun, he (s.setCounter (.alm z) _) rfl, setLevel_onAlarm]
  exact congrArg Host.Outcome.next (finish_of_settled _ hst)

end

/-- Settles O53: the expiry by what was timed, the reported level, and the four ends of an evaluation. -/
theorem alarmsLevelsAndDeltas : Obligations.AlarmsLevelsAndDeltas := by
  refine ⟨fun z s hst hrun => ⟨fun hfor => ?_, fun hfor => ?_⟩, fun i b c => ⟨c.setLevel_of_level i b, fun h => ?_⟩, ?_⟩
  · exact exec_almExpiry hst hrun fun u hu => by simp only [onAlmExpiry, hu, hfor]
  · exact exec_almExpiry hst hrun fun u hu => by simp only [onAlmExpiry, hu, hfor]
  · obtain ⟨hlevel, hdelta, hothers, hnote, hattn⟩ := c.setLevel_changed i b h
    exact ⟨hlevel, hdelta, hothers, hnote, hattn, c.setLevel_frame i b⟩
  · intro z cause warm cold warmBack coldBack levels s hs hwarm hcold hwarmBack hcoldBack hlevels
    obtain rfl : warm = (s.warmTest z cause = true) := propext (hwarm.trans (s.warmTest_iff z cause).symm)
    obtain rfl : cold = (s.coldTest z cause = true) := propext (hcold.trans (s.coldTest_iff z cause).symm)
    obtain rfl : warmBack = s.warmBack z cause := Bool.eq_iff_iff.mpr (hwarmBack.trans (s.warmBack_iff z cause).symm)
    obtain rfl : coldBack = s.coldBack z cause := Bool.eq_iff_iff.mpr (hcoldBack.trans (s.coldBack_iff z cause).symm)
    subst hlevels
    exact ⟨evalAlarm_of_warm hs, evalAlarm_of_cold_begins hs, evalAlarm_of_still hs,
      fun hw h => (evalAlarm_of_stop hs hw h).trans stopAlarm_alarmsReturned⟩

end Sys2Proof.Machine
